-- ==== Sys2Proof/Word.lean ====
section
/-!
DEFINITION. The word types of the Wharfin W72 and nothing else: bytes on the line and in the
configuration memory, and levels of the line as bits.
-/
namespace Sys2Proof

/-- One byte of a frame or of the configuration image (spec 00, NUMBERS). -/
abbrev Byte := BitVec 8

/-- One bit time of the line: `false` is a logical 0, sent dominant; `true` is a logical 1,
recessive (R1). -/
abbrev Level := Bool

end Sys2Proof
end

