-- ==== Sys2Proof/Config.lean ====
section
/-!
DEFINITION. The constants the part fixes: its clock step, its periods, waits, limits and bounds, each with
the rule that states it.  The spec leaves no VALUE open for an implementation to choose, so this file
declares no opaque free value; what the spec leaves open and the model fixes is in the assumption log.
-/
namespace Sys2Proof.Config

/-- The clock step of the model is 25 ns, the finest count the spec names (R24, R109). -/
abbrev tickNs : Nat := 25
/-- One bit time is 100 ns (R1). -/
abbrev bitTime : Nat := 4
/-- One microsecond in clock steps. -/
abbrev us : Nat := 40
/-- One millisecond in clock steps. -/
abbrev ms : Nat := 40000
/-- One second in clock steps. -/
abbrev sec : Nat := 40000000

/-- R185: time spent in LISTEN. -/
abbrev listenTime : Nat := 50 * ms
/-- R3: the recessive time after which the line is idle, 12 bit times. -/
abbrev idleTime : Nat := 12 * bitTime
/-- R5, R26: the time a station drives the line dominant for a mark, 20 bit times. -/
abbrev markTime : Nat := 20 * bitTime
/-- R20, R30: both 1 s windows. -/
abbrev window : Nat := sec
/-- R4: least time between two LINK 4 reports. -/
abbrev stuckSpacing : Nat := sec
/-- R24: the normal expiry reading of the cadence timer. -/
abbrev cadence : Nat := 400 * us
/-- R38: the first expiry reading after a return to ACTIVE. -/
abbrev wakeExpiry : Nat := 1000 * us
/-- R24: the reading at which the cadence timer stops rising. -/
abbrev cadenceCeiling : Nat := 100 * ms
/-- R11: the guard interval before the own expiry. -/
abbrev guard : Nat := 40 * us
/-- R29: marks read from here on are accepted while LOCKED. -/
abbrev acceptFrom : Nat := 396 * us
/-- R31: own periods after which a seeking station locks. -/
abbrev seekLimit : Nat := 25
/-- R33: counts in one carrier period. -/
abbrev carrierCounts : Nat := 16000
/-- R45: the ageing step. -/
abbrev ageing : Nat := ms
/-- R42: limits of a thread entry, in ms. -/
abbrev threadStale : Nat := 6
abbrev threadLost : Nat := 20
/-- R48: limits of entry 0, in ms. -/
abbrev controllerStale : Nat := 30
abbrev controllerLost : Nat := 200
/-- R46: the highest scaled limit. -/
abbrev scaledCap : Nat := 65534
/-- R51: the status period while the cadence is kept. -/
abbrev statusPeriod : Nat := 2 * ms
/-- R51: the earliest build of a pending change. -/
abbrev changeDelay : Nat := 500 * us
/-- R80: time in which a reply is good. -/
abbrev replyWait : Nat := 360 * us
/-- R78: period of the exchanges of QUIET. -/
abbrev quietExchange : Nat := 100 * ms
/-- R85, R86, R89: limits of the state timer. -/
abbrev prechargeLimit : Nat := 2 * sec
abbrev syncLimit : Nat := sec
abbrev rideThroughLimit : Nat := 3 * sec
/-- R89: time at 900 or more that ends a ride-through. -/
abbrev recoveryTime : Nat := 500 * ms
/-- R91: time of healthy grid that ends GRID 1 and GRID 2. -/
abbrev gridHealthy : Nat := sec
/-- R93: breaker-open time beyond which a closed breaker is a mismatch. -/
abbrev breakerTime : Nat := sec
/-- R95: the restart hold. -/
abbrev restartHold : Nat := 5000 * ms
/-- R98, R114, R128, R149: the 100 ms evaluations and checks. -/
abbrev evaluation : Nat := 100 * ms
/-- R109: one PWM period of 2000 counts of 25 ns. -/
abbrev pwmPeriod : Nat := 2000
/-- R115: one turn of the 16-bit 1 MHz capture timer. -/
abbrev captureWrap : Nat := 65536
/-- R132: stagger per station number. -/
abbrev staggerUnit : Nat := 2 * ms
/-- R126: session waits. -/
abbrev answerWait : Nat := 20 * ms
abbrev startWait : Nat := 40 * ms
abbrev releaseWait : Nat := 600 * ms
abbrev driveTime : Nat := 120 * sec
abbrev brakeDelay : Nat := 200 * ms
abbrev applyWait : Nat := 300 * ms
/-- R146: the yaw hold. -/
abbrev yawHold : Nat := 5000 * ms
/-- R131: twist limits in 0.1 degree. -/
abbrev twistLimit : Int := 10800
abbrev stormTwistLimit : Int := 14400
/-- R160: lapse of a pending acknowledgement. -/
abbrev ackLapse : Nat := 5000 * ms
/-- R178: spacing of the marks of a wake call. -/
abbrev callSpacing : Nat := 100 * us
/-- R178: how far back a heard mark still times a call, and how long a mark waits for the line. -/
abbrev callWindow : Nat := 1000 * us
/-- R179: longest distance of two counted marks of a heard call. -/
abbrev callStep : Nat := 150 * us
/-- R180: one minute of the wake period. -/
abbrev minute : Nat := 60 * sec
/-- R13: slots of the transmit queue. -/
abbrev queueSlots : Nat := 8
/-- R164: records the log holds. -/
abbrev logSize : Nat := 64
/-- R164: the last sequence number a record may bear. -/
abbrev lastSequence : Nat := 4294967295
/-- R97, R110: evaluations after which a run is believed. -/
abbrev proofRun : Nat := 20

end Sys2Proof.Config
end

