-- ==== Sys2Proof/Syntax.lean ====
section
/-!
DEFINITION. The commands of the part: one constructor of `Instr` for each row of spec/opcode_table.json.
The table gives its rows no bits and no operands; the operands here are what the row's rule reads from
outside at that moment (assumption 2).
-/
namespace Sys2Proof

/-- R182: which of the two reset lines a release lets go. -/
inductive ResetLines where
  | powerOn
  | resetInput
  | both
deriving DecidableEq, Repr

/-- R80: one message taken from the stack port. -/
structure StackReply where
  /-- exchange number the reply bears -/
  number : Nat
  /-- whether the message passed the check of the stack port -/
  checkPassed : Bool
  /-- measured active current, A -/
  active : Int
  /-- measured reactive current, A -/
  reactive : Int
  /-- DC-link voltage, per mille -/
  dcLink : Nat
  /-- grid voltage V, per mille -/
  grid : Nat
  /-- heatsink temperature, 0.1 °C -/
  heatsink : Int
  /-- phase lock -/
  locked : Bool
  /-- overcurrent line active -/
  overcurrent : Bool
  /-- desaturation line active -/
  desaturation : Bool
  /-- precharge contactor feedback closed -/
  contactorClosed : Bool
  /-- main breaker feedback closed -/
  breakerClosed : Bool
deriving DecidableEq, Repr

/-- R150: the two hardwired safety inputs. -/
inductive SafetyInput where
  | emergencyStop
  | arcOrFire
deriving DecidableEq, Repr

/-- The commands and events of the part, in the order of spec/opcode_table.json. -/
inductive Instr where
  /-- POWER_ON_RESET (R182) -/
  | powerOnReset
  /-- RESET_INPUT (R182) -/
  | resetInput
  /-- RESET_RELEASE (R182): the lines let go at this instant -/
  | resetRelease (lines : ResetLines)
  /-- CONFIG_IMAGE_READ (R183): the 32 bytes as read, byte 0 first -/
  | configImageRead (image : List Byte)
  /-- LISTEN_TIMEOUT (R185, R186): the line level and the coolant readings at the moment of joining -/
  | listenTimeout (lineDominant : Bool) (inlet outlet : Option Int)
  /-- DOMINANT_RUN_END (R2): the run's length in whole bit times, and the clock steps by which its first bit lies
  before them, a bit time being four (R25) -/
  | dominantRunEnd (length : Nat) (early : Fin 4)
  /-- STUCK_DOMINANT (R4): a run passes 24 bit times, by the clock steps given -/
  | stuckDominant (early : Fin 4)
  /-- FRAME_RECEIVED (R9): the levels of the reception, one a bit time, from the start bit on -/
  | frameReceived (levels : List Level)
  /-- ERROR_WINDOW_END (R20) -/
  | errorWindowEnd
  /-- TRANSMIT_START (R11): whether the line reads dominant at that moment -/
  | transmitStart (lineDominant : Bool)
  /-- TRANSMIT_END (R12): the levels read back, one a bit time, from the start bit on -/
  | transmitEnd (heard : List Level)
  /-- CADENCE_EXPIRY (R26): whether the line reads dominant at the expiry -/
  | cadenceExpiry (lineDominant : Bool)
  /-- OVERDUE_MARK (R27): whether the line reads dominant at the idle waited for -/
  | overdueMark (lineDominant : Bool)
  /-- STAND_IN_PERIOD (R28) -/
  | standInPeriod
  /-- EARLY_MARK_WINDOW_END (R30) -/
  | earlyMarkWindowEnd
  /-- QUIET_EXCHANGE_TIMER (R78) -/
  | quietExchangeTimer
  /-- STACK_REPLY (R80) -/
  | stackReply (reply : StackReply)
  /-- STACK_REPLY_TIMEOUT (R80) -/
  | stackReplyTimeout
  /-- PRECHARGE_TIMEOUT (R85) -/
  | prechargeTimeout
  /-- SYNC_TIMEOUT (R86) -/
  | syncTimeout
  /-- RIDE_THROUGH_RECOVERY (R89) -/
  | rideThroughRecovery
  /-- RIDE_THROUGH_TOO_LONG (R89) -/
  | rideThroughTooLong
  /-- GRID_HEALTHY_TIMER (R91) -/
  | gridHealthyTimer
  /-- RESTART_HOLD_EXPIRY (R95) -/
  | restartHoldExpiry
  /-- AGEING_STEP (R45) -/
  | ageingStep
  /-- STATUS_BUILD (R51) -/
  | statusBuild
  /-- COOLING_EVALUATION (R98): the inlet and outlet sensor inputs as sampled; `none` reports no conversion -/
  | coolingEvaluation (inlet outlet : Option Int)
  /-- TACH_PULSE (R110) -/
  | tachPulse
  /-- PWM_PERIOD_END (R109) -/
  | pwmPeriodEnd
  /-- VANE_RISING_EDGE (R115) -/
  | vaneRisingEdge
  /-- VANE_FALLING_EDGE (R115) -/
  | vaneFallingEdge
  /-- VANE_WRAP (R115) -/
  | vaneWrap
  /-- ANEMOMETER_EDGE (R119) -/
  | anemometerEdge
  /-- WIND_EVALUATION (R114): the twist encoder as read; `none` reports a read error -/
  | windEvaluation (encoder : Option Int)
  /-- YAW_CHECK (R128) -/
  | yawCheck
  /-- STAGGER_EXPIRY (R132) -/
  | staggerExpiry
  /-- ANSWER_WAIT_EXPIRY (R136) -/
  | answerWaitExpiry
  /-- START_WAIT_EXPIRY (R138) -/
  | startWaitExpiry
  /-- BRAKE_FEEDBACK_CHANGE (R139): the new level, RELEASED or not -/
  | brakeFeedbackChange (released : Bool)
  /-- RELEASE_WAIT_EXPIRY (R140) -/
  | releaseWaitExpiry
  /-- DRIVE_TIME_EXPIRY (R142) -/
  | driveTimeExpiry
  /-- MOTOR_FAULT_INPUT (R143): motor 1 to 4, and the new level of its fault input -/
  | motorFaultInput (motor : Nat) (active : Bool)
  /-- BRAKE_DELAY_EXPIRY (R145) -/
  | brakeDelayExpiry
  /-- APPLY_WAIT_EXPIRY (R145) -/
  | applyWaitExpiry
  /-- HOLD_TIMER_EXPIRY (R146) -/
  | holdTimerExpiry
  /-- SAFETY_INPUT_CHANGE (R150) -/
  | safetyInputChange (input : SafetyInput) (active : Bool)
  /-- FAULT_EVALUATION (R161) -/
  | faultEvaluation
  /-- ACK_LAPSE (R162) -/
  | ackLapse
  /-- LOG_ENTRY_OFFER (R170) -/
  | logEntryOffer
  /-- ENTRY_INTO_QUIET (R175) -/
  | entryIntoQuiet
  /-- WAKE_CALL_MARK (R178): whether the line reads dominant at that moment -/
  | wakeCallMark (lineDominant : Bool)
  /-- WAKE_CALL_GIVE_UP (R178) -/
  | wakeCallGiveUp
  /-- WAKE_TIMER_EXPIRY (R180) -/
  | wakeTimerExpiry
deriving DecidableEq, Repr

end Sys2Proof
end

