-- ==== Sys2Proof/Decode.lean ====
section
/-!
DEFINITION. The word decoder the host asks for.  spec/opcode_table.json gives none of its 53 rows any bits (the
commands are events and pin changes, not words), so no word spells a command.
-/
namespace Sys2Proof

/-- The command a word spells by the table's bits: none, since no row has bits (assumption 3). -/
def decodeTableWord (_nbits _w : Nat) : Option Instr := none

end Sys2Proof
end

