-- ==== Sys2Proof/Machine/State.lean ====
section
/-!
DEFINITION. The state of one W72 as plain data: every item the spec lists for its ten blocks (R19, R21, R24, R40,
R61, R77, R97, R113, R126, R149, R164, R173), the pins of the plant wiring, the part's own clock, and the queue of
waiting commands.  Moments are counts of the part's own clock, in steps of 25 ns since the last reset was released.
-/
namespace Sys2Proof.Machine

/-- A timer that is stopped, or runs since the moment it names (assumption 5). -/
abbrev Timer := Option Nat

/-! ## Names of states and kinds -/

/-- R21. -/
inductive LinkState where
  | configRead | configFault | listen | joined | silent
deriving DecidableEq, Repr

/-- R173. -/
inductive QuietState where
  | active | pending | quiet
deriving DecidableEq, Repr

/-- R31. -/
inductive Reference where
  | seeking | locked
deriving DecidableEq, Repr

/-- R40. -/
inductive Role where
  | none | turbineController | thread
deriving DecidableEq, Repr

/-- R40. -/
inductive EntryState where
  | absent | heard | live | stale | lost
deriving DecidableEq, Repr

/-- R83. -/
inductive ThreadState where
  | off | precharge | sync | run | rideThrough | stopping | tripped
deriving DecidableEq, Repr

/-- R77, R81: the validity of the reply record. -/
inductive Validity where
  | absent | valid | held | expired
deriving DecidableEq, Repr

/-- R85. -/
inductive BreakerStep where
  | waitCharge | waitBreaker
deriving DecidableEq, Repr

/-- R184: the cooling role of the image. -/
inductive CoolingRole where
  | none | pump | fan
deriving DecidableEq, Repr

/-- R99. -/
inductive SensorState where
  | notRead | valid | holding | failed
deriving DecidableEq, Repr

/-- R119, R121: the status of the anemometer and of the twist encoder. -/
inductive InputStatus where
  | none | valid | invalid
deriving DecidableEq, Repr

/-- R126. -/
inductive YawState where
  | idle | proposing | joined | releasing | driving | stopping
deriving DecidableEq, Repr

/-- R126: the direction of a session. -/
inductive Direction where
  | cw | ccw
deriving DecidableEq, Repr

/-- R126: the mode of a session. -/
inductive SessionMode where
  | auto | storm | untwist | order
deriving DecidableEq, Repr

/-- R49, R50: the operating mode of the effective demand. -/
inductive PlantMode where
  | park | produce | storm
deriving DecidableEq, Repr

/-- R49, R50: the yaw order of the effective demand. -/
inductive YawOrder where
  | auto | hold | untwist | turnCw | turnCcw
deriving DecidableEq, Repr

/-- R126: one motor's pair of contactor outputs; the two are never both on. -/
inductive MotorOutput where
  | off | runCw | runCcw
deriving DecidableEq, Repr

/-- R149. -/
inductive CauseKind where
  | latched | condition
deriving DecidableEq, Repr

/-- R148. -/
inductive Severity where
  | note | warn | tripThread | tripNacelle
deriving DecidableEq, Repr

/-- R165. -/
inductive FaultAction where
  | none | logged | threadTripped | nacelleTripSent | nacelleTripTaken | yawStopped | silenced
deriving DecidableEq, Repr

/-- R164. -/
inductive CursorState where
  | idle | answering | emptyDue
deriving DecidableEq, Repr

/-! ## Frames and records -/

/-- R52: the fields of a THREAD STATUS; codes are held as received (R188), optional values as present or
absent. -/
structure StatusRecord where
  tag : Nat
  nacelleTrip : Bool
  threadCode : Nat
  capability : Nat
  yawCode : Nat
  active : Int
  motorsReady : Nat
  reactive : Int
  heatLoad : Nat
  pumpOwner : Bool
  flowDemand : Nat
  fanOwner : Bool
  fanDemand : Nat
  isolated : Bool
  fanHealthy : Bool
  pumpHealthy : Bool
  proposer : Nat
  sessionTag : Nat
  direction : Option Int
  windSpeed : Option Nat
  brakesReleased : Bool
  twist : Option Int
  cadenceCount : Nat
  lastWindow : Nat
  foreign : Nat
  corrected : Nat
  losses : Nat
  superseded : Nat
deriving DecidableEq, Repr

/-- R49: the demand record, its fields as received. -/
structure DemandRecord where
  tag : Nat
  modeCode : Nat
  auxCode : Nat
  active : Int
  reactive : Int
  orderCode : Nat
  budget : Nat
  ackTag : Nat
deriving DecidableEq, Repr

/-- R155: the fields of a FAULT NOTICE. -/
structure Notice where
  number : Nat
  cls : Nat
  code : Nat
  severity : Nat
  action : Nat
  detail : Int
  logSequence : Nat
deriving DecidableEq, Repr

/-- R169: the fields of a LOG ENTRY. -/
structure LogEntry where
  sequence : Nat
  stamp : Nat
  empty : Bool
  gap : Bool
  origin : Nat
  cls : Nat
  code : Nat
  severity : Nat
  action : Nat
  detail : Option Int
  noticeNumber : Option Nat
deriving DecidableEq, Repr

/-- R10: one frame by its kind, with the fields of its payload (R187). -/
inductive Frame where
  | faultNotice (n : Notice)
  | yawStop (proposer tag : Nat)
  | yawStart (tag mode direction budget : Nat) (allocation : List (Nat × Nat))
  | yawAnswer (proposer tag verdict offered reason : Nat)
  | yawProposal (tag mode direction budget : Nat) (twist : Option Int)
  | plantDemand (d : DemandRecord)
  | threadStatus (r : StatusRecord)
  | quietOrder (interval wakePeriod : Nat)
  | logRequest (target fromSequence count : Nat)
  | logEntry (e : LogEntry)
deriving DecidableEq, Repr

/-! ## The ten blocks -/

/-- R3: what the receiver is doing. -/
inductive ReceiverPhase where
  /-- the line is idle: the next dominant bit is a start bit -/
  | idle
  /-- a frame is being received -/
  | receiving
  /-- a frame has ended, at the moment given, and the receiver waits for idle -/
  | awaitingIdle (frameEnd : Nat)
  /-- the line is ignored until the next idle, but for the classification of dominant runs: a reception was
  abandoned, or the station itself sends a frame (R12) -/
  | abandoned
deriving DecidableEq, Repr

/-- R3: the receiver of the peer link. -/
structure Receiver where
  /-- as of the last event on the line; idle is read off the time since (`Receiver.phaseAt`) -/
  phase : ReceiverPhase
  /-- moment from which the line has been recessive; none while a run that passed 24 bit times lasts, while the
  station's own frame begins, and before LISTEN -/
  recessiveSince : Timer
deriving DecidableEq, Repr

/-- R13: one slot of the transmit queue. -/
structure Slot where
  frame : Frame
  /-- whether the frame is on the line at this moment -/
  onLine : Bool
deriving DecidableEq, Repr

/-- The Link Controller (R4, R13, R15, R19 to R21). -/
structure LinkControl where
  state : LinkState
  /-- R13: in order of precedence byte, then of entry -/
  queue : List Slot
  noticeCounter : Nat
  windowDiscards : Nat
  lastWindow : Nat
  foreign : Nat
  corrected : Nat
  losses : Nat
  superseded : Nat
  /-- R4: moment of the last LINK 4 report -/
  lastStuckReport : Option Nat
  /-- R20: start of the current error window -/
  errorWindow : Timer
  /-- R185: time in LISTEN -/
  listenTimer : Timer
  /-- R26, R178: first bit of a mark this station is driving, until its run ends -/
  ownMark : Option Nat
deriving DecidableEq, Repr

/-- R178: a wake call in progress. -/
structure WakeCall where
  /-- marks of the call driven or stood in for, 0 to 3 (3 while the run of the last one lasts) -/
  done : Nat
  /-- moment of the first mark; absent while that is the next idle of the line -/
  first : Option Nat
  /-- moment the call was fixed -/
  since : Nat
  /-- the mark's moment came and the line was not idle -/
  waiting : Bool
  /-- end of the last run heard as a mark during the call (assumption 24) -/
  markEnd : Option Nat
deriving DecidableEq, Repr

/-- Quiet control (R173). -/
structure QuietControl where
  state : QuietState
  /-- seconds -/
  interval : Nat
  /-- minutes, 0 for none -/
  wakePeriod : Nat
  wakeTimer : Timer
  /-- R179: marks counted toward a heard call, and the first bit of the last of them -/
  callCount : Nat
  callMark : Option Nat
  /-- first bit of the last mark heard in QUIET -/
  lastMark : Option Nat
  call : Option WakeCall
deriving DecidableEq, Repr

/-- The Cadence Unit (R24, R30). -/
structure CadenceUnit where
  timer : Timer
  /-- in clock steps: 400 µs or 1000 µs -/
  expiry : Nat
  reference : Reference
  seekCount : Nat
  overdue : Bool
  count : Nat
  earlyMarks : Nat
  /-- R30: start of the current early-mark window -/
  earlyWindow : Timer
  pendingOffset : Nat
  latchedOffset : Nat
deriving DecidableEq, Repr

/-- R40: one entry of the Peer Table. -/
structure Entry (ρ : Type) where
  role : Role
  state : EntryState
  age : Nat
  good : Nat
  record : Option ρ
  lastTag : Option Nat
deriving DecidableEq, Repr

/-- One item for each of the stations 1 to 7. -/
structure PerThread (α : Type) where
  s1 : α
  s2 : α
  s3 : α
  s4 : α
  s5 : α
  s6 : α
  s7 : α
deriving DecidableEq, Repr

/-- The Peer Table (R40, R45, R51, R53): entry 0, entries 1 to 7, and the publishing of the own status. -/
structure PeerTable where
  controller : Entry DemandRecord
  threads : PerThread (Entry StatusRecord)
  ageTimer : Timer
  statusTimer : Timer
  changePending : Bool
  statusTag : Nat
deriving DecidableEq, Repr

/-- The Allotment Unit (R61). -/
structure AllotmentUnit where
  capability : Nat
  pTarget : Nat
  qTarget : Int
  pCommand : Nat
  qCommand : Int
deriving DecidableEq, Repr

/-- R79: one command message to the stack. -/
structure StackCommand where
  number : Nat
  active : Nat
  reactive : Int
  offset : Nat
  gates : Bool
  contactorClosed : Bool
  breakerClosed : Bool
deriving DecidableEq, Repr

/-- R77: the exchange record. -/
structure ExchangeRecord where
  /-- the values sent, the exchange number among them -/
  sent : StackCommand
  outstanding : Bool
  begun : Nat
deriving DecidableEq, Repr

/-- Thread Control (R77, R81, R91 to R93). -/
structure ThreadControl where
  state : ThreadState
  exchange : ExchangeRecord
  reply : Option StackReply
  validity : Validity
  missCount : Nat
  /-- port service OUT -/
  portOut : Bool
  recoveryCount : Nat
  stateTimer : Timer
  breakerStep : BreakerStep
  lockCount : Nat
  recoveryTimer : Timer
  overvoltageCount : Nat
  gridTimer : Timer
  breakerOpenTimer : Timer
  restartHold : Timer
  /-- R78: the 100 ms timer of QUIET -/
  quietTimer : Timer
  /-- R91: STACK 4 reported and its condition not ended -/
  dcLinkFault : Bool
  /-- R93: STACK 7 reported and its condition not ended -/
  breakerFault : Bool
deriving DecidableEq, Repr

/-- R97, R99: one sensor record. -/
structure Sensor where
  state : SensorState
  last : Int
  hold : Nat
deriving DecidableEq, Repr

/-- The Cooling Unit (R97). -/
structure CoolingUnit where
  timer : Timer
  heatsink : Sensor
  inlet : Sensor
  outlet : Sensor
  factorHeatsink : Nat
  factorInlet : Nat
  factorFlow : Nat
  factor : Nat
  /-- derate note ARMED -/
  derateArmed : Bool
  derateCount : Nat
  thermalFlag : Bool
  heatWatts : Nat
  heatKilowatts : Nat
  flowDemand : Nat
  fanDemand : Nat
  command : Nat
  runningDuty : Nat
  nextDuty : Nat
  /-- R109: start of the current PWM period -/
  pwmStart : Nat
  tachCount : Nat
  healthy : Bool
  lowRun : Nat
  highRun : Nat
  absenceRun : Nat
  absenceLogged : Bool
deriving DecidableEq, Repr

/-- The Wind Input Unit (R113). -/
structure WindUnit where
  timer : Timer
  /-- capture timer at the edge that opened the period, 16 bits -/
  periodOpen : Option Nat
  /-- microseconds of the clock at that edge, for the wrap (assumption 19) -/
  openedAt : Nat
  highCapture : Option Nat
  broken : Bool
  wrapped : Bool
  sampleSum : Int
  sampleCount : Nat
  overruns : Nat
  filter : Int
  direction : Int
  seedDue : Bool
  vaneValid : Bool
  invalidRun : Nat
  runOverruns : Nat
  prescalerPhase : Nat
  edgeCount : Nat
  windowCount : Nat
  ownSpeed : Option Nat
  speedStatus : InputStatus
  suspectRun : Nat
  speedRecovery : Nat
  ownTwist : Option Int
  twistStatus : InputStatus
  misalignment : Option Int
  sharedSpeed : Option Nat
  sharedTwist : Option Int
  agreeing : Bool
  storm : Bool
  setRun : Nat
  clearRun : Nat
deriving DecidableEq, Repr

/-- R136: one answer of the answers list. -/
structure Answer where
  station : Nat
  ready : Bool
  offered : Nat
  reason : Nat
deriving DecidableEq, Repr

/-- R126: the session record. -/
structure Session where
  proposer : Nat
  tag : Nat
  direction : Direction
  mode : SessionMode
  budget : Nat
  twist : Option Int
  expected : List Nat
  answers : List Answer
  /-- station and run count, ascending -/
  allocation : List (Nat × Nat)
  runCount : Nat
  startTime : Nat
deriving DecidableEq, Repr

/-- R126: what a stagger timer is for. -/
structure Stagger where
  since : Nat
  mode : SessionMode
  direction : Direction
  /-- B, formed when the trigger was judged (R130) -/
  budget : Nat
deriving DecidableEq, Repr

/-- One item for each of the motors 1 to 4. -/
structure PerMotor (α : Type) where
  m1 : α
  m2 : α
  m3 : α
  m4 : α
deriving DecidableEq, Repr

/-- Yaw Control (R126). -/
structure YawControl where
  state : YawState
  session : Session
  proposalCounter : Nat
  checkTimer : Timer
  autoDwell : Nat
  /-- the sign of M that the AUTO dwell counts is positive -/
  autoPositive : Bool
  stormDwell : Nat
  stormPositive : Bool
  stagger : Option Stagger
  answerWait : Timer
  startWait : Timer
  releaseWait : Timer
  driveTimer : Timer
  /-- R142: the drive time of 120 s has been reached -/
  driveReached : Bool
  brakeDelay : Timer
  applyWait : Timer
  hold : Timer
  noteYaw4 : Bool
  noteYaw5 : Bool
  noteYaw8 : Bool
  motors : PerMotor MotorOutput
  /-- brake command RELEASE -/
  release : Bool
  /-- R143: the motor whose fault raised YAW 3 and has not ended -/
  faultMotor : Option Nat
deriving DecidableEq, Repr

/-- R149: one trip cause. -/
structure Cause where
  cls : Nat
  code : Nat
  kind : CauseKind
  ended : Bool
deriving DecidableEq, Repr

/-- The Fault Unit without its log (R149). -/
structure FaultUnit where
  causes : List Cause
  pendingAck : Timer
  timer : Timer
  taken : PerThread Bool
  stopSeen : Bool
  fireSeen : Bool
deriving DecidableEq, Repr

/-- R165: one record of the fault log. -/
structure LogRecord where
  sequence : Nat
  stamp : Nat
  origin : Nat
  cls : Nat
  code : Nat
  severity : Nat
  action : Nat
  detail : Option Int
  noticeNumber : Option Nat
deriving DecidableEq, Repr

/-- The fault log and the log answer cursor (R164). -/
structure FaultLog where
  /-- oldest first -/
  records : List LogRecord
  newest : Nat
  overwritten : Nat
  cursor : CursorState
  next : Nat
  remaining : Nat
  gap : Bool
deriving DecidableEq, Repr

/-- R184: the configured values as given to the blocks. -/
structure ConfigValues where
  station : Nat
  rated : Nat
  motors : Nat
  isolated : Bool
  vane : Bool
  anemometer : Bool
  encoder : Bool
  role : CoolingRole
  tachMinimum : Nat
  prescaler : Nat
  speedFactor : Nat
  backupBudget : Nat
  acceptMask : Byte
deriving DecidableEq, Repr

/-- The Configuration Port (R183, R184). -/
structure ConfigPort where
  /-- the bytes read since the last reset -/
  image : List Byte
  /-- the values given, once the image is accepted -/
  values : Option ConfigValues
  /-- the config-fault output -/
  faultOutput : Bool
deriving DecidableEq, Repr

/-- Levels of the plant inputs, which no reset touches (assumption 6). -/
structure Pins where
  emergencyStop : Bool
  arcOrFire : Bool
  /-- brake feedback reads RELEASED -/
  brakesReleased : Bool
  motorFault : PerMotor Bool
deriving DecidableEq, Repr

/-- R182: the reset lines and the code of the last release. -/
structure ResetUnit where
  powerOnHeld : Bool
  inputHeld : Bool
  code : Nat
deriving DecidableEq, Repr

/-- One W72. -/
structure State where
  /-- commands waiting, first in, first out -/
  pending : List Instr
  /-- the part's own clock: steps of 25 ns since the last reset was released -/
  now : Nat
  resets : ResetUnit
  pins : Pins
  config : ConfigPort
  receiver : Receiver
  link : LinkControl
  quiet : QuietControl
  cadence : CadenceUnit
  table : PeerTable
  allotment : AllotmentUnit
  thread : ThreadControl
  cooling : CoolingUnit
  wind : WindUnit
  yaw : YawControl
  fault : FaultUnit
  log : FaultLog
deriving DecidableEq, Repr

/-! ## Reset values -/

/-- R3, R18: no frame is taken and no run classified before LISTEN (assumption 46). -/
def Receiver.initial : Receiver where
  phase := .abandoned
  recessiveSince := none

/-- R19, R13, R15, R21. -/
def LinkControl.initial : LinkControl where
  state := .configRead
  queue := []
  noticeCounter := 0
  windowDiscards := 0
  lastWindow := 0
  foreign := 0
  corrected := 0
  losses := 0
  superseded := 0
  lastStuckReport := none
  errorWindow := none
  listenTimer := none
  ownMark := none

/-- R173. -/
def QuietControl.initial : QuietControl where
  state := .active
  interval := 1
  wakePeriod := 0
  wakeTimer := none
  callCount := 0
  callMark := none
  lastMark := none
  call := none

/-- R24. -/
def CadenceUnit.initial : CadenceUnit where
  timer := none
  expiry := Config.cadence
  reference := .seeking
  seekCount := 0
  overdue := false
  count := 0
  earlyMarks := 0
  earlyWindow := none
  pendingOffset := 0
  latchedOffset := 0

/-- R40. -/
def Entry.initial {ρ : Type} : Entry ρ where
  role := .none
  state := .absent
  age := 0
  good := 0
  record := none
  lastTag := none

/-- The same item for every station. -/
def PerThread.all {α : Type} (a : α) : PerThread α := ⟨a, a, a, a, a, a, a⟩

/-- The same item for every motor. -/
def PerMotor.all {α : Type} (a : α) : PerMotor α := ⟨a, a, a, a⟩

/-- R40, R51, R53. -/
def PeerTable.initial : PeerTable where
  controller := Entry.initial
  threads := PerThread.all Entry.initial
  ageTimer := none
  statusTimer := none
  changePending := false
  statusTag := 0

/-- R61. -/
def AllotmentUnit.initial : AllotmentUnit where
  capability := 0
  pTarget := 0
  qTarget := 0
  pCommand := 0
  qCommand := 0

/-- R77: exchange number 0; nothing sent, the breaker not commanded closed (assumption 38). -/
def StackCommand.initial : StackCommand where
  number := 0
  active := 0
  reactive := 0
  offset := 0
  gates := false
  contactorClosed := false
  breakerClosed := false

/-- R77. -/
def ThreadControl.initial : ThreadControl where
  state := .off
  exchange := { sent := StackCommand.initial, outstanding := false, begun := 0 }
  reply := none
  validity := .absent
  missCount := 0
  portOut := false
  recoveryCount := 0
  stateTimer := none
  breakerStep := .waitCharge
  lockCount := 0
  recoveryTimer := none
  overvoltageCount := 0
  gridTimer := none
  breakerOpenTimer := none
  restartHold := none
  quietTimer := none
  dcLinkFault := false
  breakerFault := false

/-- R97. -/
def Sensor.initial : Sensor where
  state := .notRead
  last := 0
  hold := 0

/-- R97. -/
def CoolingUnit.initial : CoolingUnit where
  timer := none
  heatsink := Sensor.initial
  inlet := Sensor.initial
  outlet := Sensor.initial
  factorHeatsink := 0
  factorInlet := 0
  factorFlow := 0
  factor := 0
  derateArmed := true
  derateCount := 0
  thermalFlag := false
  heatWatts := 0
  heatKilowatts := 0
  flowDemand := 0
  fanDemand := 0
  command := 0
  runningDuty := 0
  nextDuty := 0
  pwmStart := 0
  tachCount := 0
  healthy := true
  lowRun := 0
  highRun := 0
  absenceRun := 0
  absenceLogged := false

/-- R113. -/
def WindUnit.initial : WindUnit where
  timer := none
  periodOpen := none
  openedAt := 0
  highCapture := none
  broken := false
  wrapped := false
  sampleSum := 0
  sampleCount := 0
  overruns := 0
  filter := 0
  direction := 0
  seedDue := true
  vaneValid := false
  invalidRun := 0
  runOverruns := 0
  prescalerPhase := 0
  edgeCount := 0
  windowCount := 0
  ownSpeed := none
  speedStatus := .none
  suspectRun := 0
  speedRecovery := 0
  ownTwist := none
  twistStatus := .none
  misalignment := none
  sharedSpeed := none
  sharedTwist := none
  agreeing := true
  storm := false
  setRun := 0
  clearRun := 0

/-- R126: proposer 0, tag 0, lists empty; the other fields as assumption 7 names them. -/
def Session.initial : Session where
  proposer := 0
  tag := 0
  direction := .cw
  mode := .auto
  budget := 0
  twist := none
  expected := []
  answers := []
  allocation := []
  runCount := 0
  startTime := 0

/-- R126. -/
def YawControl.initial : YawControl where
  state := .idle
  session := Session.initial
  proposalCounter := 0
  checkTimer := none
  autoDwell := 0
  autoPositive := true
  stormDwell := 0
  stormPositive := true
  stagger := none
  answerWait := none
  startWait := none
  releaseWait := none
  driveTimer := none
  driveReached := false
  brakeDelay := none
  applyWait := none
  hold := none
  noteYaw4 := true
  noteYaw5 := true
  noteYaw8 := true
  motors := PerMotor.all .off
  release := false
  faultMotor := none

/-- R149. -/
def FaultUnit.initial : FaultUnit where
  causes := []
  pendingAck := none
  timer := none
  taken := PerThread.all false
  stopSeen := false
  fireSeen := false

/-- R164. -/
def FaultLog.initial : FaultLog where
  records := []
  newest := 0
  overwritten := 0
  cursor := .idle
  next := 0
  remaining := 0
  gap := false

/-- R182, R183: nothing read, nothing given, the config-fault output off. -/
def ConfigPort.initial : ConfigPort where
  image := []
  values := none
  faultOutput := false

/-- The plant inputs at rest (assumption 6). -/
def Pins.initial : Pins where
  emergencyStop := false
  arcOrFire := false
  brakesReleased := false
  motorFault := PerMotor.all false

/-- The machine right after a power-on reset was released (R182): link state CONFIG_READ, millisecond count 0,
reset code 1, every block at its reset values, no command waiting. -/
def State.reset : State where
  pending := []
  now := 0
  resets := { powerOnHeld := false, inputHeld := false, code := 1 }
  pins := Pins.initial
  config := ConfigPort.initial
  receiver := Receiver.initial
  link := LinkControl.initial
  quiet := QuietControl.initial
  cadence := CadenceUnit.initial
  table := PeerTable.initial
  allotment := AllotmentUnit.initial
  thread := ThreadControl.initial
  cooling := CoolingUnit.initial
  wind := WindUnit.initial
  yaw := YawControl.initial
  fault := FaultUnit.initial
  log := FaultLog.initial

/-- The reasons a command can stop the machine: there are none.  Every command of the table has an effect in every
state (a command whose condition does not hold leaves the state as it is, assumption 4), so no meaning raises a
fault. -/
inductive Fault where
deriving DecidableEq, Repr

/-- The reasons a command can be refused. -/
inductive Refusal where
  /-- Raised by an arm of `exec` whose command has no meaning yet; no arm does.  Safe: the machine stops where the
  part goes on. -/
  | notModelled (mnemonic : String)
deriving DecidableEq, Repr

end Sys2Proof.Machine
end

