-- ==== Sys2Proof/Machine/Arith.lean ====
section
/-!
DEFINITION. The integer arithmetic of the manual (spec 00, INTEGER ARITHMETIC): isqrt, clipping, held counts,
two's complement, big-endian bytes, and timers on the part's own clock.
-/
namespace Sys2Proof.Machine

/-- Bit by bit from bit `b - 1` down: the largest root that adds to `r` and whose square is at most `n`. -/
def isqrtFrom : Nat → Nat → Nat → Nat
  | 0, _, r => r
  | b + 1, n, r => isqrtFrom b n (if (r + 2 ^ b) * (r + 2 ^ b) ≤ n then r + 2 ^ b else r)

/-- "isqrt" is the integer square root rounded down. -/
def isqrt (n : Nat) : Nat := isqrtFrom (Nat.log2 n / 2 + 1) n 0

/-- A value clipped to ±`limit`. -/
def clip (x : Int) (limit : Nat) : Int :=
  if x < -(limit : Int) then -(limit : Int) else if (limit : Int) < x then (limit : Int) else x

/-- A magnitude with the sign of `x`. -/
def withSign (x : Int) (magnitude : Nat) : Int :=
  if x < 0 then -(magnitude : Int) else (magnitude : Int)

/-- A count that rises by one and is held at `limit`. -/
def countHeld (limit n : Nat) : Nat := min limit (n + 1)

/-- "trunc" rounds a signed quotient toward zero. -/
def trunc (a b : Int) : Int := Int.tdiv a b

/-- A value clamped to a range. -/
def clamp (lo hi x : Int) : Int := if x < lo then lo else if hi < x then hi else x

/-- The unsigned field of `w` bits that holds `x` in two's complement (R187). -/
def toTwos (w : Nat) (x : Int) : Nat := (x % (2 ^ w : Int)).toNat

/-- The signed value of an unsigned field of `w` bits (R187). -/
def ofTwos (w n : Nat) : Int := if n < 2 ^ (w - 1) then (n : Int) else (n : Int) - 2 ^ w

/-- 1 for a set flag bit, 0 for a clear one. -/
def flagBit (b : Bool) : Nat := if b then 1 else 0

/-- `n` bytes of `v`, most significant first (spec 13). -/
def bigEndian : Nat → Nat → List Byte
  | 0, _ => []
  | n + 1, v => BitVec.ofNat 8 (v / 256 ^ n) :: bigEndian n v

/-- The value of a run of bytes, most significant first. -/
def ofBigEndian (bytes : List Byte) : Nat := bytes.foldl (fun acc b => acc * 256 + b.toNat) 0

/-- The value of `n` bytes from byte `i` of a payload. -/
def field (payload : List Byte) (i n : Nat) : Nat := ofBigEndian ((payload.drop i).take n)

/-- Whether a running timer has reached `limit`; a stopped one has not. -/
def Timer.reached (t : Timer) (now limit : Nat) : Bool :=
  match t with
  | none => false
  | some start => decide (start + limit ≤ now)

/-- The reading of a timer; a stopped one reads 0. -/
def Timer.elapsed (t : Timer) (now : Nat) : Nat :=
  match t with
  | none => 0
  | some start => now - start

/-- What is left of a hold of `length` that counts down from its start; 0 when it has run out. -/
def Timer.remaining (t : Timer) (now length : Nat) : Nat :=
  match t with
  | none => 0
  | some start => start + length - now

/-- A periodic timer set again at the moment it ran out (assumption 5). -/
def Timer.again (t : Timer) (period : Nat) : Timer := t.map (· + period)

/-- R165: the millisecond count since the last reset, 32 bits, wrapping. -/
def millisecondCount (now : Nat) : Nat := (now / Config.ms) % 4294967296

/-- R113: the capture timer, 16 bits at 1 MHz, wrapping (assumption 10). -/
def captureTimer (now : Nat) : Nat := (now / Config.us) % Config.captureWrap

/-- The item of station `n`; stations 1 to 7 have one. -/
def PerThread.get? {α : Type} (p : PerThread α) : Nat → Option α
  | 1 => some p.s1
  | 2 => some p.s2
  | 3 => some p.s3
  | 4 => some p.s4
  | 5 => some p.s5
  | 6 => some p.s6
  | 7 => some p.s7
  | _ => none

/-- Replace the item of station `n`. -/
def PerThread.set {α : Type} (p : PerThread α) (n : Nat) (a : α) : PerThread α :=
  match n with
  | 1 => { p with s1 := a }
  | 2 => { p with s2 := a }
  | 3 => { p with s3 := a }
  | 4 => { p with s4 := a }
  | 5 => { p with s5 := a }
  | 6 => { p with s6 := a }
  | 7 => { p with s7 := a }
  | _ => p

/-- Every item, with its station number. -/
def PerThread.map {α β : Type} (p : PerThread α) (f : Nat → α → β) : PerThread β :=
  ⟨f 1 p.s1, f 2 p.s2, f 3 p.s3, f 4 p.s4, f 5 p.s5, f 6 p.s6, f 7 p.s7⟩

/-- The items in ascending station order, each with its station number. -/
def PerThread.toList {α : Type} (p : PerThread α) : List (Nat × α) :=
  [(1, p.s1), (2, p.s2), (3, p.s3), (4, p.s4), (5, p.s5), (6, p.s6), (7, p.s7)]

/-- The item of motor `n`; motors 1 to 4 have one. -/
def PerMotor.get? {α : Type} (p : PerMotor α) : Nat → Option α
  | 1 => some p.m1
  | 2 => some p.m2
  | 3 => some p.m3
  | 4 => some p.m4
  | _ => none

/-- Replace the item of motor `n`. -/
def PerMotor.set {α : Type} (p : PerMotor α) (n : Nat) (a : α) : PerMotor α :=
  match n with
  | 1 => { p with m1 := a }
  | 2 => { p with m2 := a }
  | 3 => { p with m3 := a }
  | 4 => { p with m4 := a }
  | _ => p

end Sys2Proof.Machine
end

