-- ==== Sys2Proof/Machine/Codes.lean ====
section
/-!
DEFINITION. The code tables of spec 13 and the fault classes of R148, and the reading of codes received (R50, R188).
-/
namespace Sys2Proof.Machine

/-- Thread state codes. -/
def ThreadState.code : ThreadState → Nat
  | .off => 0
  | .precharge => 1
  | .sync => 2
  | .run => 3
  | .rideThrough => 4
  | .stopping => 5
  | .tripped => 6

/-- A code outside the table names no state (R188). -/
def ThreadState.ofCode : Nat → Option ThreadState
  | 0 => some .off
  | 1 => some .precharge
  | 2 => some .sync
  | 3 => some .run
  | 4 => some .rideThrough
  | 5 => some .stopping
  | 6 => some .tripped
  | _ => none

/-- Yaw session state codes. -/
def YawState.code : YawState → Nat
  | .idle => 0
  | .proposing => 1
  | .joined => 2
  | .releasing => 3
  | .driving => 4
  | .stopping => 5

/-- A code outside the table names no state (R188). -/
def YawState.ofCode : Nat → Option YawState
  | 0 => some .idle
  | 1 => some .proposing
  | 2 => some .joined
  | 3 => some .releasing
  | 4 => some .driving
  | 5 => some .stopping
  | _ => none

/-- R50: a mode code other than PRODUCE, PARK or STORM is read as PARK. -/
def PlantMode.read : Nat → PlantMode
  | 1 => .produce
  | 2 => .storm
  | _ => .park

/-- R50: an aux supply code other than GRID or BACKUP is read as BACKUP; the answer is whether it is GRID. -/
def auxIsGrid (code : Nat) : Bool := code == 0

/-- R50: a yaw order code other than the five is read as HOLD. -/
def YawOrder.read : Nat → YawOrder
  | 0 => .auto
  | 2 => .untwist
  | 3 => .turnCw
  | 4 => .turnCcw
  | _ => .hold

/-- Session mode codes. -/
def SessionMode.code : SessionMode → Nat
  | .auto => 0
  | .storm => 1
  | .untwist => 2
  | .order => 3

def SessionMode.ofCode : Nat → Option SessionMode
  | 0 => some .auto
  | 1 => some .storm
  | 2 => some .untwist
  | 3 => some .order
  | _ => none

/-- Direction codes. -/
def Direction.code : Direction → Nat
  | .cw => 0
  | .ccw => 1

def Direction.ofCode : Nat → Option Direction
  | 0 => some .cw
  | 1 => some .ccw
  | _ => none

/-- Verdict codes. -/
abbrev verdictReady : Nat := 1
abbrev verdictRefuse : Nat := 2

/-- Reasons of a refusal, which are also the first five abandon reasons of R136. -/
abbrev reasonBusy : Nat := 1
abbrev reasonTwist : Nat := 2
abbrev reasonBrake : Nat := 3
abbrev reasonMotor : Nat := 4
abbrev reasonHold : Nat := 5
abbrev reasonNoAnswer : Nat := 6
abbrev reasonStopHeard : Nat := 7
abbrev reasonEmergency : Nat := 8

/-- Severity codes. -/
def Severity.code : Severity → Nat
  | .note => 0
  | .warn => 1
  | .tripThread => 2
  | .tripNacelle => 3

/-- Action codes. -/
def FaultAction.code : FaultAction → Nat
  | .none => 0
  | .logged => 1
  | .threadTripped => 2
  | .nacelleTripSent => 3
  | .nacelleTripTaken => 4
  | .yawStopped => 5
  | .silenced => 6

/-- Fault classes (R148). -/
abbrev clsSystem : Nat := 0
abbrev clsStack : Nat := 1
abbrev clsGrid : Nat := 2
abbrev clsThermal : Nat := 3
abbrev clsCooling : Nat := 4
abbrev clsYaw : Nat := 5
abbrev clsLink : Nat := 6
abbrev clsSense : Nat := 7
abbrev clsPlant : Nat := 8

/-- R148: the kind of each fault that can enter the cause set. -/
def causeKind (cls code : Nat) : CauseKind :=
  if (cls = clsStack ∧ (code = 1 ∨ code = 2 ∨ code = 5 ∨ code = 6)) ∨ (cls = clsYaw ∧ code = 3) ∨
      (cls = clsPlant ∧ (code = 1 ∨ code = 2)) then .latched
  else .condition

/-- R183: cooling role codes of the image; R184 gives None outside the table. -/
def CoolingRole.ofImage : Nat → CoolingRole
  | 1 => .pump
  | 2 => .fan
  | _ => .none

end Sys2Proof.Machine
end

