-- ==== Sys2Proof/Machine/Flags.lean ====
section
/-!
DEFINITION. What other blocks, and the plant, read off the state without any block storing it: the configured values,
link and cadence flags, the outputs of each thread state (R79, R83), and the yaw readiness flags (R127).
-/
namespace Sys2Proof.Machine

/-- The values before an image is accepted, when no block has any (R61, R183) (assumption 37). -/
def ConfigValues.none : ConfigValues where
  station := 0
  rated := 0
  motors := 0
  isolated := false
  vane := false
  anemometer := false
  encoder := false
  role := .none
  tachMinimum := 0
  prescaler := 0
  speedFactor := 0
  backupBudget := 0
  acceptMask := 0

/-- The configured values as the blocks have them. -/
def State.cfg (s : State) : ConfigValues := s.config.values.getD ConfigValues.none

/-- The own station number. -/
def State.own (s : State) : Nat := s.cfg.station

/-- R182: a reset is held. -/
def State.held (s : State) : Bool := s.resets.powerOnHeld || s.resets.inputHeld

/-- The part runs: no reset is held, and the link state is LISTEN, JOINED or SILENT. -/
def State.running (s : State) : Bool :=
  !s.held && (s.link.state == .listen || s.link.state == .joined || s.link.state == .silent)

/-- The station is JOINED, and no reset is held. -/
def State.isJoined (s : State) : Bool := !s.held && s.link.state == .joined

/-- The station is SILENT, and no reset is held. -/
def State.isSilent (s : State) : Bool := !s.held && s.link.state == .silent

/-- R11: the station keeps the cadence while its quiet state is ACTIVE or QUIET_PENDING. -/
def State.keepsCadence (s : State) : Bool := s.quiet.state != .quiet

/-- R13: the link states in which the queue takes offers. -/
def State.takesOffers (s : State) : Bool := s.link.state == .listen || s.link.state == .joined

/-- R24: the reading of the cadence timer. -/
def State.cadenceReading (s : State) : Nat := min Config.cadenceCeiling (s.cadence.timer.elapsed s.now)

/-- R11, R24: the guard interval, from 40 µs before the expiry reading until the timer restarts. -/
def State.inGuard (s : State) : Bool :=
  s.keepsCadence && s.cadence.timer.isSome && decide (s.cadence.expiry ≤ s.cadenceReading + Config.guard)

/-- R13: whether a frame of the station is on the line. -/
def State.sending (s : State) : Bool := s.link.queue.any (·.onLine)

/-- R32: a period begun now begins the work of the cadence. -/
def State.periodWorks (s : State) : Bool := s.keepsCadence && (s.isJoined || s.isSilent)

/-! ## Outputs of the thread states (R79, R83) -/

/-- R33: the states whose stacks are switching. -/
def ThreadState.switching : ThreadState → Bool
  | .sync | .run | .rideThrough => true
  | .off | .precharge | .stopping | .tripped => false

/-- R54: the states of a contributing thread. -/
def ThreadState.contributing : ThreadState → Bool
  | .run | .rideThrough => true
  | .off | .precharge | .sync | .stopping | .tripped => false

/-- R79: gate enable. -/
def ThreadState.gates : ThreadState → Bool
  | .sync | .run | .rideThrough | .stopping => true
  | .off | .precharge | .tripped => false

/-- R79: precharge contactor command closed. -/
def ThreadState.contactor : ThreadState → Bool
  | .precharge => true
  | .off | .sync | .run | .rideThrough | .stopping | .tripped => false

/-- R79: main breaker command closed. -/
def breakerCommand : ThreadState → BreakerStep → Bool
  | .precharge, .waitCharge => false
  | .precharge, .waitBreaker => true
  | .sync, _ | .run, _ | .rideThrough, _ | .stopping, _ => true
  | .off, _ | .tripped, _ => false

/-- R78, R83: the stack trip line is driven exactly while the thread is TRIPPED. -/
def State.tripLine (s : State) : Bool := s.thread.state == .tripped

/-- R174: the states in which a QUIET ORDER is taken. -/
def ThreadState.quietable : ThreadState → Bool
  | .off | .tripped => true
  | .precharge | .sync | .run | .rideThrough | .stopping => false

/-! ## What Thread Control gives of the reply record (R82) -/

/-- The measured currents as the other blocks are given them. -/
def State.measured (s : State) : Int × Int :=
  match s.thread.validity, s.thread.reply with
  | .valid, some r | .held, some r => (r.active, r.reactive)
  | _, _ => (0, 0)

/-- The grid voltage V, as last recorded. -/
def State.gridVoltage (s : State) : Option Nat := s.thread.reply.map (·.grid)

/-! ## Yaw readiness (R127) -/

/-- The configured motors in configured order. -/
def State.configuredMotors (s : State) : List Nat := [1, 2, 3, 4].filter (· ≤ s.cfg.motors)

/-- The configured motors whose fault input is inactive, in configured order. -/
def State.readyMotors (s : State) : List Nat :=
  s.configuredMotors.filter (fun m => s.pins.motorFault.get? m == some false)

/-- Motors ready. -/
def State.motorsReady (s : State) : Nat := s.readyMotors.length

/-- Brakes healthy. -/
def State.brakesHealthy (s : State) : Bool := !s.yaw.release && !s.pins.brakesReleased

/-- Yaw capable. -/
def State.yawCapable (s : State) : Bool := decide (0 < s.motorsReady) && !s.cfg.isolated

/-- A station configured with no motors, or isolated, takes no part in sessions. -/
def State.takesPart (s : State) : Bool := decide (0 < s.cfg.motors) && !s.cfg.isolated

/-! ## The cause set -/

/-- Whether a class and code is in the trip cause set. -/
def State.holdsCause (s : State) (cls code : Nat) : Bool :=
  s.fault.causes.any (fun c => c.cls == cls && c.code == code)

/-- R131, R135: a YAW cause, or PLANT 1, PLANT 2 or PLANT 6, is in the set. -/
def State.yawBarred (s : State) : Bool :=
  s.fault.causes.any (fun c => c.cls == clsYaw) || s.holdsCause clsPlant 1 || s.holdsCause clsPlant 2 ||
    s.holdsCause clsPlant 6

/-- R52, R152: a TRIP_NACELLE cause of the station's own is held. -/
def State.nacelleFlag (s : State) : Bool := s.holdsCause clsPlant 1 || s.holdsCause clsPlant 2

/-- R109: the PWM output is active for the running duty from the start of each PWM period. -/
def State.pwmActive (s : State) : Bool := decide (s.now - s.cooling.pwmStart < s.cooling.runningDuty)

end Sys2Proof.Machine
end

