-- ==== Sys2Proof/Machine/Layout.lean ====
section
/-!
DEFINITION. The payload of each frame kind: kind codes and lengths (R10), and the byte layouts of spec 13 written
(R187) and read (R188).
-/
namespace Sys2Proof.Machine

/-- R10: the kind code of a frame. -/
def Frame.kind : Frame → Nat
  | .faultNotice _ => 2
  | .yawStop _ _ => 4
  | .yawStart _ _ _ _ _ => 5
  | .yawAnswer _ _ _ _ _ => 6
  | .yawProposal _ _ _ _ _ => 7
  | .plantDemand _ => 10
  | .threadStatus _ => 16
  | .quietOrder _ _ => 20
  | .logRequest _ _ _ => 24
  | .logEntry _ => 28

/-- R10: whether a code is the code of a kind, and that kind is the turbine controller's. -/
def kindIsController : Nat → Option Bool
  | 2 | 4 | 5 | 6 | 7 | 16 | 28 => some false
  | 10 | 20 | 24 => some true
  | _ => none

/-- R10, R9 step 5: whether the kind is known and the sender is allowed to send it. -/
def senderAllowed (kind sender : Nat) : Bool :=
  match kindIsController kind with
  | none => false
  | some true => sender == 0
  | some false => sender != 0

/-- R10, R9 step 6: whether the length is the kind's. -/
def kindLength (kind length : Nat) : Bool :=
  match kind with
  | 2 => length == 10
  | 4 => length == 2
  | 5 => 5 ≤ length && length ≤ 17 && length % 2 == 1
  | 6 => length == 5
  | 7 => length == 5
  | 10 => length == 10
  | 16 => length == 24
  | 20 => length == 2
  | 24 => length == 6
  | 28 => length == 17
  | _ => false

/-- R6: precedence byte = kind code × 8 + sender. -/
def Frame.precedence (sender : Nat) (f : Frame) : Nat := f.kind * 8 + sender

/-- An optional signed value, or its absence marker. -/
def markedSigned (w marker : Nat) : Option Int → Nat
  | none => marker
  | some x => toTwos w x

/-- An optional unsigned value, or its absence marker. -/
def markedNat (marker : Nat) : Option Nat → Nat
  | none => marker
  | some x => x

/-- Spec 13, THREAD STATUS, 24 bytes. -/
def StatusRecord.payload (r : StatusRecord) : List Byte :=
  bigEndian 1 r.tag ++
  bigEndian 2 (flagBit r.nacelleTrip * 32768 + r.threadCode % 8 * 4096 + r.capability % 4096) ++
  bigEndian 2 (r.yawCode % 8 * 8192 + toTwos 13 r.active) ++
  bigEndian 2 (r.motorsReady % 8 * 8192 + toTwos 13 r.reactive) ++
  bigEndian 1 r.heatLoad ++
  bigEndian 1 (flagBit r.pumpOwner * 128 + r.flowDemand % 128) ++
  bigEndian 1 (flagBit r.fanOwner * 128 + r.fanDemand % 128) ++
  bigEndian 1 (flagBit r.isolated * 32 + flagBit r.fanHealthy * 16 + flagBit r.pumpHealthy * 8 + r.proposer % 8) ++
  bigEndian 1 r.sessionTag ++
  bigEndian 3 (markedSigned 12 0x800 r.direction * 4096 + markedNat 0xFFF r.windSpeed % 4096) ++
  bigEndian 2 (flagBit r.brakesReleased * 32768 + markedSigned 15 0x4000 r.twist) ++
  bigEndian 2 r.cadenceCount ++
  bigEndian 1 r.lastWindow ++
  bigEndian 1 r.foreign ++
  bigEndian 1 r.corrected ++
  bigEndian 1 r.losses ++
  bigEndian 1 r.superseded

/-- R188, read as absent: a signed field outside its range. -/
def presentIn (lo hi x : Int) : Option Int := if lo ≤ x ∧ x ≤ hi then some x else none

/-- Spec 13, THREAD STATUS, read by R188. -/
def StatusRecord.ofPayload (p : List Byte) : StatusRecord where
  tag := field p 0 1
  nacelleTrip := field p 1 2 / 32768 % 2 == 1
  threadCode := field p 1 2 / 4096 % 8
  capability := field p 1 2 % 4096
  yawCode := field p 3 2 / 8192 % 8
  active := ofTwos 13 (field p 3 2 % 8192)
  motorsReady := field p 5 2 / 8192 % 8
  reactive := ofTwos 13 (field p 5 2 % 8192)
  heatLoad := field p 7 1
  pumpOwner := field p 8 1 / 128 % 2 == 1
  flowDemand := field p 8 1 % 128
  fanOwner := field p 9 1 / 128 % 2 == 1
  fanDemand := field p 9 1 % 128
  isolated := field p 10 1 / 32 % 2 == 1
  fanHealthy := field p 10 1 / 16 % 2 == 1
  pumpHealthy := field p 10 1 / 8 % 2 == 1
  proposer := field p 10 1 % 8
  sessionTag := field p 11 1
  direction := presentIn (-1800) 1799 (ofTwos 12 (field p 12 3 / 4096 % 4096))
  windSpeed := if field p 12 3 % 4096 ≤ 800 then some (field p 12 3 % 4096) else none
  brakesReleased := field p 15 2 / 32768 % 2 == 1
  twist := presentIn (-14400) 14400 (ofTwos 15 (field p 15 2 % 32768))
  cadenceCount := field p 17 2
  lastWindow := field p 19 1
  foreign := field p 20 1
  corrected := field p 21 1
  losses := field p 22 1
  superseded := field p 23 1

/-- Spec 13, LOG ENTRY, 17 bytes. -/
def LogEntry.payload (e : LogEntry) : List Byte :=
  bigEndian 4 e.sequence ++ bigEndian 4 e.stamp ++
  bigEndian 1 (flagBit e.empty * 64 + flagBit e.gap * 32 + flagBit e.noticeNumber.isSome * 16 +
    flagBit e.detail.isSome * 8 + e.origin % 8) ++
  bigEndian 1 e.cls ++ bigEndian 1 e.code ++ bigEndian 1 e.severity ++ bigEndian 1 e.action ++
  bigEndian 2 (markedSigned 16 0 e.detail) ++ bigEndian 2 (markedNat 0 e.noticeNumber)

/-- Spec 13, LOG ENTRY, read. -/
def LogEntry.ofPayload (p : List Byte) : LogEntry where
  sequence := field p 0 4
  stamp := field p 4 4
  empty := field p 8 1 / 64 % 2 == 1
  gap := field p 8 1 / 32 % 2 == 1
  origin := field p 8 1 % 8
  cls := field p 9 1
  code := field p 10 1
  severity := field p 11 1
  action := field p 12 1
  detail := if field p 8 1 / 8 % 2 == 1 then some (ofTwos 16 (field p 13 2)) else none
  noticeNumber := if field p 8 1 / 16 % 2 == 1 then some (field p 15 2) else none

/-- Spec 13: the pairs of an allocation list. -/
def allocationBytes : List (Nat × Nat) → List Byte
  | [] => []
  | (station, count) :: rest => bigEndian 1 station ++ bigEndian 1 count ++ allocationBytes rest

/-- Spec 13: the pairs read, two bytes each. -/
def readAllocation : List Byte → List (Nat × Nat)
  | station :: count :: rest => (station.toNat, count.toNat) :: readAllocation rest
  | _ => []

/-- R187: the payload of a frame. -/
def Frame.payload : Frame → List Byte
  | .faultNotice n =>
      bigEndian 2 n.number ++ bigEndian 1 n.cls ++ bigEndian 1 n.code ++ bigEndian 1 n.severity ++
      bigEndian 1 n.action ++ bigEndian 2 (toTwos 16 n.detail) ++ bigEndian 2 n.logSequence
  | .yawStop proposer tag => bigEndian 1 proposer ++ bigEndian 1 tag
  | .yawStart tag mode direction budget allocation =>
      bigEndian 1 tag ++ bigEndian 1 (direction % 2 * 16 + mode % 4) ++ bigEndian 1 budget ++
      allocationBytes allocation
  | .yawAnswer proposer tag verdict offered reason =>
      bigEndian 1 proposer ++ bigEndian 1 tag ++ bigEndian 1 verdict ++ bigEndian 1 offered ++ bigEndian 1 reason
  | .yawProposal tag mode direction budget twist =>
      bigEndian 1 tag ++ bigEndian 1 (direction % 2 * 16 + mode % 4) ++ bigEndian 1 budget ++
      bigEndian 2 (markedSigned 16 0x8000 twist)
  | .plantDemand d =>
      bigEndian 1 d.tag ++ bigEndian 1 d.modeCode ++ bigEndian 1 d.auxCode ++ bigEndian 2 (toTwos 16 d.active) ++
      bigEndian 2 (toTwos 16 d.reactive) ++ bigEndian 1 d.orderCode ++ bigEndian 1 d.budget ++ bigEndian 1 d.ackTag
  | .threadStatus r => r.payload
  | .quietOrder interval wakePeriod => bigEndian 1 interval ++ bigEndian 1 wakePeriod
  | .logRequest target fromSequence count =>
      bigEndian 1 target ++ bigEndian 4 fromSequence ++ bigEndian 1 count
  | .logEntry e => e.payload

/-- R188: a good frame read by its kind; `none` for a kind that is not in the table of R10. -/
def Frame.ofPayload (kind : Nat) (p : List Byte) : Option Frame :=
  match kind with
  | 2 => some (.faultNotice
      { number := field p 0 2, cls := field p 2 1, code := field p 3 1, severity := field p 4 1,
        action := field p 5 1, detail := ofTwos 16 (field p 6 2), logSequence := field p 8 2 })
  | 4 => some (.yawStop (field p 0 1) (field p 1 1))
  | 5 => some (.yawStart (field p 0 1) (field p 1 1 % 4) (field p 1 1 / 16 % 2) (field p 2 1)
      (readAllocation (p.drop 3)))
  | 6 => some (.yawAnswer (field p 0 1) (field p 1 1) (field p 2 1) (field p 3 1) (field p 4 1))
  | 7 => some (.yawProposal (field p 0 1) (field p 1 1 % 4) (field p 1 1 / 16 % 2) (field p 2 1)
      (if field p 3 2 = 0x8000 then none else some (ofTwos 16 (field p 3 2))))
  | 10 => some (.plantDemand
      { tag := field p 0 1, modeCode := field p 1 1, auxCode := field p 2 1, active := ofTwos 16 (field p 3 2),
        reactive := ofTwos 16 (field p 5 2), orderCode := field p 7 1, budget := field p 8 1,
        ackTag := field p 9 1 })
  | 16 => some (.threadStatus (StatusRecord.ofPayload p))
  | 20 => some (.quietOrder (field p 0 1) (field p 1 1))
  | 24 => some (.logRequest (field p 0 1) (field p 1 4) (field p 5 1))
  | 28 => some (.logEntry (LogEntry.ofPayload p))
  | _ => none

end Sys2Proof.Machine
end

