-- ==== Sys2Proof/Machine/Line.lean ====
section
/-!
DEFINITION. The line: bit stuffing (R1), dominant runs (R2), header check (R7), payload check (R8), the bits of a frame
(R6), the receive checks in their order (R9), the read-back of a frame being sent (R12), and the receiver between them (R3).
-/
namespace Sys2Proof.Machine

/-- R1: the bits of a byte, most significant first. -/
def byteBits (b : Byte) : List Level :=
  [b.getLsbD 7, b.getLsbD 6, b.getLsbD 5, b.getLsbD 4, b.getLsbD 3, b.getLsbD 2, b.getLsbD 1, b.getLsbD 0]

/-- The value of a run of bits, most significant first. -/
def bitsNat (bits : List Level) : Nat := bits.foldl (fun acc b => acc * 2 + flagBit b) 0

/-- A byte from eight bits, most significant first. -/
def bitsByte (bits : List Level) : Byte := BitVec.ofNat 8 (bitsNat bits)

/-! ## R1: stuffing -/

/-- The rest of a frame's bits with stuff bits: `last` has been sent `count` times in a row, and a stuff bit goes in
before the next bit once `count` is 5. -/
def stuffFrom (last : Level) (count : Nat) : List Level → List Level
  | [] => []
  | b :: rest =>
    if count = 5 then
      (!last) :: b :: (if b = !last then stuffFrom b 2 rest else stuffFrom b 1 rest)
    else b :: (if b = last then stuffFrom b (count + 1) rest else stuffFrom b 1 rest)

/-- The levels on the line for a frame's bits. -/
def stuff : List Level → List Level
  | [] => []
  | b :: rest => b :: stuffFrom b 1 rest

/-- The bits of a reception after stuff removal, up to a violation: a sixth equal bit. -/
def unstuffFrom (last : Level) (count : Nat) : List Level → List Level
  | [] => []
  | b :: rest =>
    if count = 5 then
      if b = last then [] else unstuffFrom b 1 rest
    else b :: (if b = last then unstuffFrom b (count + 1) rest else unstuffFrom b 1 rest)

/-- Stuff removal from the start bit on. -/
def unstuff : List Level → List Level
  | [] => []
  | b :: rest => b :: unstuffFrom b 1 rest

/-! ## R7: the header check -/

/-- Code positions of d1 to d16. -/
def dataPositions : List Nat := [3, 5, 6, 7, 9, 10, 11, 12, 13, 14, 15, 17, 18, 19, 20, 21]

/-- Code positions of c0 to c4. -/
def checkPositions : List Nat := [1, 2, 4, 8, 16]

/-- The exclusive or of the positions that hold a one: bit k is the parity of the positions whose number has bit k
set. -/
def onesXor : List (Nat × Level) → Nat
  | [] => 0
  | (position, b) :: rest => if b then position ^^^ onesXor rest else onesXor rest

/-- Whether the number of ones is odd. -/
def oddOnes : List Level → Bool
  | [] => false
  | b :: rest => xor b (oddOnes rest)

/-- c0 to c4 out of a header check byte. -/
def checkBits (h : Byte) : List Level := [h.getLsbD 0, h.getLsbD 1, h.getLsbD 2, h.getLsbD 3, h.getLsbD 4]

/-- The header check byte over bytes 0 and 1. -/
def headerCheck (b0 b1 : Byte) : Byte :=
  let d := byteBits b0 ++ byteBits b1
  let c := onesXor (dataPositions.zip d)
  BitVec.ofNat 8 (c + 32 * flagBit (xor (oddOnes d) (oddOnes (checkBits (BitVec.ofNat 8 c)))))

/-- What a receiver makes of the three header bytes: bytes 0 and 1 as taken, and whether one bit was corrected; or
nothing, a header error. -/
def readHeader (b0 b1 h : Byte) : Option (Byte × Byte × Bool) :=
  let d := byteBits b0 ++ byteBits b1
  let s := onesXor (dataPositions.zip d ++ checkPositions.zip (checkBits h))
  let odd := xor (xor (oddOnes d) (oddOnes (checkBits h))) (h.getLsbD 5)
  if h.getLsbD 7 || h.getLsbD 6 then none
  else if odd then
    if s ≤ 21 then
      let d' := (dataPositions.zip d).map (fun pb => if pb.1 = s then !pb.2 else pb.2)
      some (bitsByte (d'.take 8), bitsByte (d'.drop 8), true)
    else none
  else if s = 0 then some (b0, b1, false)
  else none

/-! ## R8: the payload check -/

/-- One bit into the check register of x^16 + x^12 + x^5 + 1. -/
def crcBit (reg : BitVec 16) (b : Level) : BitVec 16 :=
  if xor (reg.getLsbD 15) b then (reg <<< 1) ^^^ 0x1021#16 else reg <<< 1

/-- The check over a payload, the register set to FFFF hex before the first bit. -/
def crc (payload : List Byte) : BitVec 16 :=
  (payload.flatMap byteBits).foldl crcBit 0xFFFF#16

/-! ## R6: a frame on the line -/

/-- The bytes of a frame: header, payload, and the payload check when the payload is not empty. -/
def frameBytes (sender : Nat) (f : Frame) : List Byte :=
  let p := f.payload
  let b0 : Byte := BitVec.ofNat 8 (f.precedence sender)
  let b1 : Byte := BitVec.ofNat 8 p.length
  [b0, b1, headerCheck b0 b1] ++ p ++ (if p.length = 0 then [] else bigEndian 2 (crc p).toNat)

/-- The bits of a frame before stuffing: a dominant start bit, then the bytes. -/
def frameBits (sender : Nat) (f : Frame) : List Level := false :: (frameBytes sender f).flatMap byteBits

/-- The levels of a frame on the line. -/
def frameLevels (sender : Nat) (f : Frame) : List Level := stuff (frameBits sender f)

/-! ## R9: the receive checks -/

/-- How a reception ends. -/
inductive Reception where
  /-- discarded as broken (steps 1 and 4), or at step 2 or 3: the receiver abandons the reception -/
  | abandoned
  /-- taken whole, and discarded at step 4 or 6 -/
  | discarded
  /-- discarded at step 5 -/
  | foreign
  /-- a good frame, with its sender -/
  | good (sender : Nat) (frame : Frame)
deriving DecidableEq, Repr

/-- Eight bits a byte; an incomplete last byte is left out. -/
def bytesOf : Nat → List Level → List Byte
  | 0, _ => []
  | n + 1, bits => bitsByte (bits.take 8) :: bytesOf n (bits.drop 8)

/-- Steps 3 to 6 of R9 for a header as taken and the bits that followed it. -/
def receiveBody (b0 b1 : Byte) (rest : List Level) : Reception :=
  let kind := b0.toNat / 8
  let sender := b0.toNat % 8
  let length := b1.toNat
  let bytes := if length = 0 then 0 else length + 2
  if 32 < length then .abandoned
  else if rest.length < 8 * bytes then .abandoned
  else
    let payload := bytesOf length rest
    if length ≠ 0 ∧ ofBigEndian (bytesOf 2 (rest.drop (8 * length))) ≠ (crc payload).toNat then .discarded
    else if senderAllowed kind sender = false then .foreign
    else if kindLength kind length = false then .discarded
    else
      match Frame.ofPayload kind payload with
      | none => .foreign
      | some f => .good sender f

/-- R9 on the levels of a reception from its start bit on: whether the header was taken after a correction, and how
the reception ends. -/
def receive (levels : List Level) : Bool × Reception :=
  match unstuff levels with
  | [] => (false, .abandoned)
  | start :: bits =>
    if start then (false, .abandoned)
    else if bits.length < 24 then (false, .abandoned)
    else
      match readHeader (bitsByte (bits.take 8)) (bitsByte ((bits.drop 8).take 8))
          (bitsByte ((bits.drop 16).take 8)) with
      | none => (false, .abandoned)
      | some (b0, b1, corrected) => (corrected, receiveBody b0 b1 (bits.drop 24))

/-! ## R12: the read-back of a frame being sent -/

/-- How the sending of a frame ends. -/
inductive Sending where
  | complete
  | lost
  | corrupted
deriving DecidableEq, Repr

/-- The number of leading bits on which two runs agree. -/
def agreeing : List Level → List Level → Nat
  | a :: as, b :: bs => if a = b then agreeing as bs + 1 else 0
  | _, _ => 0

/-- The number of leading dominant levels. -/
def leadingDominant : List Level → Nat
  | false :: rest => leadingDominant rest + 1
  | _ => 0

/-- R12: from the levels sent, the number of them up to the end of the precedence byte, and the levels read back.
Absent while nothing has differed and the frame is not all read. -/
def readBack (sent : List Level) (header : Nat) (heard : List Level) : Option Sending :=
  let i := agreeing sent heard
  if i = sent.length then some .complete
  else
    match heard[i]? with
    | none => none
    | some level =>
      let before := leadingDominant ((heard.take i).reverse)
      let first := i - before
      let run := before + leadingDominant (heard.drop i)
      if level = false ∧ 16 ≤ run ∧ 1 ≤ first then
        some (if first < header then .lost else .corrupted)
      else if level = false ∧ 1 ≤ i ∧ i < header then some .lost
      else some .corrupted

/-- The levels of a frame up to the end of its precedence byte, stuff bits included (assumption 20). -/
def headerLevels (sender : Nat) (f : Frame) : Nat := (stuff ((frameBits sender f).take 9)).length

/-- R12: a sending ended where contention is lost: a first difference within the precedence byte. -/
def contentionLost (sender : Nat) (f : Frame) (heard : List Level) : Bool :=
  decide (agreeing (frameLevels sender f) heard < headerLevels sender f)

/-- How the sending of a frame of this station ends. -/
def sendingOutcome (sender : Nat) (f : Frame) (heard : List Level) : Option Sending :=
  readBack (frameLevels sender f) (headerLevels sender f) heard

/-! ## R2: dominant runs -/

/-- R2: classes of a dominant run by its length in bit times. -/
inductive RunClass where
  | frameBits
  | symbolError
  | mark
  | stuck
deriving DecidableEq, Repr

def classifyRun (length : Nat) : RunClass :=
  if length ≤ 5 then .frameBits
  else if length ≤ 15 then .symbolError
  else if length ≤ 24 then .mark
  else .stuck

/-! ## R3: the receiver -/

/-- R3: the line is idle at a moment: recessive for 12 bit times by then. -/
def Receiver.idleAt (r : Receiver) (moment : Nat) : Bool := r.recessiveSince.reached moment Config.idleTime

/-- R3: what the receiver is doing at a moment up to which the line stayed recessive. -/
def Receiver.phaseAt (r : Receiver) (moment : Nat) : ReceiverPhase := if r.idleAt moment then .idle else r.phase

/-- R3, R12: what the receiver makes of a dominant run that began at a moment; inside the station's own frame it only
classifies the run. -/
def State.phaseAt (s : State) (start : Nat) : ReceiverPhase := if s.sending then .abandoned else s.receiver.phaseAt start

/-- R25: the moment of the first bit of a run that ends now. -/
def runStart (now length : Nat) (early : Fin 4) : Nat := now - (length * Config.bitTime + early)

/-- R2, R3: whether a run that began at a moment, in a phase, counts as a broken frame or a broken reception
(assumptions 18, 47); while a reception is abandoned none does (assumption 65). -/
def runBreaks (c : RunClass) (start : Nat) : ReceiverPhase → Bool
  | .abandoned => false
  | .idle => c == .symbolError
  | .receiving => c != .frameBits
  | .awaitingIdle frameEnd => c == .symbolError || (c == .frameBits && decide (frameEnd ≤ start))

/-- R2, R3: the phase after a run: from idle on its first bit is a start bit, and one of 6 bit times or more leaves no
reception. -/
def phaseAfterRun (c : RunClass) : ReceiverPhase → ReceiverPhase
  | .idle | .receiving => if c = .frameBits then .receiving else .abandoned
  | .awaitingIdle frameEnd => .awaitingIdle frameEnd
  | .abandoned => .abandoned

/-- R3, R9: the phase a reception leaves: a broken one, and one whose header or length is refused, is abandoned. -/
def Reception.phase (now : Nat) : Reception → ReceiverPhase
  | .abandoned => .abandoned
  | .discarded | .foreign | .good _ _ => .awaitingIdle now

/-- R9, R12: a reception is taken through the checks: one is in hand, and no frame of the station's own is on the
line. -/
def State.receives (s : State) : Bool := s.receiver.phase == .receiving && !s.sending

/-- R3, R12: the phase the end of a sending leaves. A first difference within the precedence byte that loses the frame leaves
the station receiving, also where a run of 16 bit times or more stands there; every other end leaves no reception in hand
(assumption 48). -/
def Sending.phase (now : Nat) (contention : Bool) : Sending → ReceiverPhase
  | .complete => .awaitingIdle now
  | .lost => if contention then .receiving else .abandoned
  | .corrupted => .abandoned

/-- The number of recessive levels at the end of a reading. -/
def recessiveTail (heard : List Level) : Nat := (heard.reverse.takeWhile (fun b => b)).length

/-- R3: the receiver after a sending with the levels read back: recessive since the last dominant one, or, where none
is recessive, until a run's end says so. -/
def Receiver.afterSending (r : Receiver) (now : Nat) (phase : ReceiverPhase) (heard : List Level) : Receiver where
  phase := phase
  recessiveSince :=
    if recessiveTail heard = 0 then r.recessiveSince else some (now - recessiveTail heard * Config.bitTime)

/-- R3, R11: the line is idle now: it reads recessive, has been so for 12 bit times, and no run of a mark of this
station's own is still on it (assumption 43). -/
def State.lineIdle (s : State) (lineDominant : Bool) : Bool :=
  !lineDominant && s.link.ownMark.isNone && s.receiver.idleAt s.now

/-- R5, R26: the station holds the line dominant for a mark: 20 bit times from the mark's first bit, and then it
releases it. -/
def State.drivesMark (s : State) : Bool :=
  s.isJoined &&
    (match s.link.ownMark with
     | none => false
     | some first => decide (first ≤ s.now ∧ s.now < first + Config.markTime))

end Sys2Proof.Machine
end

