-- ==== Sys2Proof/Machine/Views.lean ====
section
/-!
DEFINITION. What the Peer Table serves to the other blocks: the ageing limits (R42, R46, R48), the effective demand (R50)
and the sets of R54 to R59.  Nothing is cached: each is formed from the state as it stands.
-/
namespace Sys2Proof.Machine

/-- R42, R46: the STALE and LOST limits of a thread entry, in ms (assumption 71). -/
def QuietControl.threadLimits (q : QuietControl) : Nat × Nat :=
  match q.state with
  | .quiet => (min Config.scaledCap (2500 * q.interval), min Config.scaledCap (5000 * q.interval))
  | .active | .pending => (Config.threadStale, Config.threadLost)

/-- R46, R48: the limits of entry 0 (assumption 71). -/
def QuietControl.controllerLimits (q : QuietControl) : Nat × Nat :=
  match q.state with
  | .quiet => (min Config.scaledCap (2500 * q.interval), min Config.scaledCap (5000 * q.interval))
  | .active | .pending => (Config.controllerStale, Config.controllerLost)

/-- R50: the demand as the users read it. -/
structure EffectiveDemand where
  mode : PlantMode
  auxGrid : Bool
  active : Int
  reactive : Int
  order : YawOrder
  budget : Nat
deriving DecidableEq, Repr

/-- R50: the fallback demand. -/
def EffectiveDemand.fallback : EffectiveDemand where
  mode := .park
  auxGrid := false
  active := 0
  reactive := 0
  order := .auto
  budget := 0

/-- R50: a demand record as read. -/
def DemandRecord.read (d : DemandRecord) : EffectiveDemand where
  mode := PlantMode.read d.modeCode
  auxGrid := auxIsGrid d.auxCode
  active := d.active
  reactive := d.reactive
  order := YawOrder.read d.orderCode
  budget := min 28 d.budget

/-- R50: the effective demand of an entry 0. -/
def Entry.demand (e : Entry DemandRecord) : EffectiveDemand :=
  match e.state, e.record with
  | .heard, some d | .live, some d | .stale, some d => d.read
  | _, _ => EffectiveDemand.fallback

def State.demand (s : State) : EffectiveDemand := s.table.controller.demand

/-! ## Entries of the peers -/

/-- The entries of the other W72 stations, in ascending station order. -/
def State.peers (s : State) : List (Nat × Entry StatusRecord) :=
  s.table.threads.toList.filter (fun ne => ne.1 != s.own)

/-- The record of a LIVE thread entry. -/
def Entry.liveRecord (e : Entry StatusRecord) : Option StatusRecord :=
  if e.role = .thread ∧ e.state = .live then e.record else none

/-- The records of the LIVE thread entries of other stations, in ascending station order. -/
def State.liveRecords (s : State) : List (Nat × StatusRecord) :=
  s.peers.filterMap (fun ne => ne.2.liveRecord.map (fun r => (ne.1, r)))

/-! ## R54, R55: contributing and switching sets -/

/-- R54: the place of one station in the contributing set. -/
def State.contribution (s : State) (n : Nat) (e : Entry StatusRecord) : Option (Nat × Nat) :=
  if n = s.own then
    if s.thread.state.contributing = true ∧ 0 < s.allotment.capability then some (n, s.allotment.capability) else none
  else
    match e.liveRecord with
    | none => none
    | some r =>
      match ThreadState.ofCode r.threadCode with
      | some t => if t.contributing = true ∧ 0 < r.capability then some (n, r.capability) else none
      | none => none

/-- R54: the contributing set, station and capability, in ascending station order. -/
def State.contributing (s : State) : List (Nat × Nat) :=
  s.table.threads.toList.filterMap (fun ne => s.contribution ne.1 ne.2)

/-- R55: whether one station is in the switching set. -/
def State.switches (s : State) (n : Nat) (e : Entry StatusRecord) : Bool :=
  if n = s.own then s.thread.state.switching
  else
    match e.liveRecord with
    | none => false
    | some r =>
      match ThreadState.ofCode r.threadCode with
      | some t => t.switching
      | none => false

/-- R55: the switching set, in ascending station order. -/
def State.switchingSet (s : State) : List Nat :=
  (s.table.threads.toList.filter (fun ne => s.switches ne.1 ne.2)).map (·.1)

/-! ## R56: the yaw-capable set -/

/-- R56: the other members of the yaw-capable set, with the state of their entries. -/
def State.yawPeers (s : State) : List (Nat × EntryState) :=
  s.peers.filterMap (fun ne =>
    match ne.2.record with
    | some r =>
      if ne.2.role = .thread ∧ 0 < r.motorsReady ∧ r.isolated = false then some (ne.1, ne.2.state) else none
    | none => none)

/-! ## R57: owner sets -/

/-- R57: the station itself among the owners, by its configured role, with its own proof. -/
def State.ownOwner (s : State) (role : CoolingRole) : List (Nat × Bool) :=
  if s.cfg.role = role then [(s.own, s.cooling.healthy)] else []

/-- R57: the pump owners: the LIVE entries that show the flag, each with its pump-healthy flag, and the station itself. -/
def State.pumpOwners (s : State) : List (Nat × Bool) :=
  s.ownOwner .pump ++ s.liveRecords.filterMap (fun nr => if nr.2.pumpOwner then some (nr.1, nr.2.pumpHealthy) else none)

/-- R57: the fan owners, formed the same way. -/
def State.fanOwners (s : State) : List (Nat × Bool) :=
  s.ownOwner .fan ++ s.liveRecords.filterMap (fun nr => if nr.2.fanOwner then some (nr.1, nr.2.fanHealthy) else none)

/-! ## R58: wind values -/

/-- R58: one source of wind values. -/
structure WindSource where
  station : Nat
  direction : Option Int
  speed : Option Nat
  twist : Option Int
deriving DecidableEq, Repr

/-- R58: the station's own values, present as the Wind Input Unit publishes them (R118, R120, R121). -/
def State.ownWind (s : State) : WindSource where
  station := s.own
  direction := if s.cfg.vane && s.wind.vaneValid then some s.wind.direction else none
  speed := if s.cfg.anemometer && s.wind.speedStatus == .valid then s.wind.ownSpeed else none
  twist := if s.cfg.encoder && s.wind.twistStatus == .valid then s.wind.ownTwist else none

/-- R58: the sources in ascending station order. -/
def State.windSources (s : State) : List WindSource :=
  s.table.threads.toList.filterMap (fun ne =>
    if ne.1 = s.own then some s.ownWind
    else ne.2.liveRecord.map (fun r => { station := ne.1, direction := r.direction, speed := r.windSpeed, twist := r.twist }))

/-! ## R59: the nacelle-trip view -/

/-- R59: whether an entry is listed in the nacelle-trip view. -/
def Entry.showsNacelleTrip (e : Entry StatusRecord) : Bool :=
  e.role == .thread && (e.state == .live || e.state == .stale) &&
    (match e.record with
     | some r => r.nacelleTrip
     | none => false)

/-- R59: the stations of the nacelle-trip view. -/
def State.nacelleView (s : State) : List Nat :=
  (s.peers.filter (fun ne => ne.2.showsNacelleTrip)).map (·.1)

end Sys2Proof.Machine
end

