-- ==== Sys2Proof/Machine/Ops.lean ====
section
/-!
DEFINITION. The operations the commands share: entering a log record (R166), offering frames to the transmit queue (R13 to
R17), moving the thread state and tripping it (R94), the cause set (R152, R153), and the quiet state (R175 to R181).
-/
namespace Sys2Proof.Machine

/-! ## The fault log (R166) -/

/-- R166: a record entered whole; at the last sequence number nothing is entered. -/
def FaultLog.enter (l : FaultLog) (now origin cls code severity action : Nat) (detail : Option Int)
    (noticeNumber : Option Nat) : FaultLog :=
  if Config.lastSequence ≤ l.newest then l
  else
    let record : LogRecord :=
      { sequence := l.newest + 1, stamp := millisecondCount now, origin := origin, cls := cls, code := code,
        severity := severity, action := action, detail := detail, noticeNumber := noticeNumber }
    if Config.logSize ≤ l.records.length then
      { l with records := l.records.drop 1 ++ [record], newest := l.newest + 1, overwritten := l.overwritten + 1 }
    else { l with records := l.records ++ [record], newest := l.newest + 1 }

/-- R166: a record entered in the log of the station. -/
def enterRecord (s : State) (origin cls code severity action : Nat) (detail : Option Int)
    (noticeNumber : Option Nat) : State :=
  { s with log := s.log.enter s.now origin cls code severity action detail noticeNumber }

/-- R151 for a NOTE: it is given the action LOGGED and a record, and nothing else follows. -/
def reportNote (s : State) (cls code : Nat) (detail : Int) : State :=
  enterRecord s s.own cls code Severity.note.code FaultAction.logged.code (some detail) none

/-! ## The transmit queue (R13 to R17) -/

/-- R13: a frame put into the order of precedence bytes, after those that are not higher. -/
def insertSlot (own : Nat) (f : Frame) : List Slot → List Slot
  | [] => [{ frame := f, onLine := false }]
  | x :: rest =>
    if x.frame.precedence own ≤ f.precedence own then x :: insertSlot own f rest
    else { frame := f, onLine := false } :: x :: rest

/-- A queued LOG ENTRY that is not on the line. -/
def Slot.isLog (x : Slot) : Bool := !x.onLine && x.frame.kind == 28

/-- A queued status that is not on the line. -/
def Slot.isStatus (x : Slot) : Bool := !x.onLine && x.frame.kind == 16

/-- The queue without its last slot of a kind; `none` when it holds none. -/
def removeLast (p : Slot → Bool) : List Slot → Option (List Slot)
  | [] => none
  | x :: rest =>
    match removeLast p rest with
    | some rest' => some (x :: rest')
    | none => if p x then some rest else none

/-- R14: room for a status: a free slot, or the newest queued LOG ENTRY evicted.  The count is of evictions. -/
def roomForStatus (q : List Slot) : Option (List Slot × Nat) :=
  if q.length < Config.queueSlots then some (q, 0)
  else (removeLast Slot.isLog q).map (fun q' => (q', 1))

/-- R15, R16: room for a notice or a yaw frame: failing a LOG ENTRY, the queued status is evicted. -/
def roomForUrgent (q : List Slot) : Option (List Slot × Nat) :=
  if q.length < Config.queueSlots then some (q, 0)
  else
    match removeLast Slot.isLog q with
    | some q' => some (q', 1)
    | none => (removeLast Slot.isStatus q).map (fun q' => (q', 1))

/-- R19: a transmit loss. -/
def LinkControl.lose (l : LinkControl) (n : Nat) : LinkControl := { l with losses := min 255 (l.losses + n) }

/-- R14: the queued status replaced in its place. -/
def replaceStatus (r : StatusRecord) : List Slot → List Slot
  | [] => []
  | x :: rest =>
    if x.isStatus then { x with frame := .threadStatus r } :: rest else x :: replaceStatus r rest

/-- R14: a THREAD STATUS offered. -/
def offerStatus (s : State) (r : StatusRecord) : State :=
  if s.takesOffers = false then s
  else if s.link.queue.any Slot.isStatus then
    { s with link := { s.link with queue := replaceStatus r s.link.queue,
                                   superseded := countHeld 255 s.link.superseded } }
  else
    match roomForStatus s.link.queue with
    | some (q, evicted) =>
      { s with link := { s.link.lose evicted with queue := insertSlot s.own (.threadStatus r) q } }
    | none => { s with link := s.link.lose 1 }

/-- R16: a yaw frame offered. -/
def offerYaw (s : State) (f : Frame) : State :=
  if s.takesOffers = false then s
  else
    match roomForUrgent s.link.queue with
    | some (q, evicted) => { s with link := { s.link.lose evicted with queue := insertSlot s.own f q } }
    | none => { s with link := s.link.lose 1 }

/-- R15: a FAULT NOTICE offered; it takes its number when it enters, and a drop reports LINK 5 NOTE (assumption 34). -/
def offerNotice (s : State) (cls code severity action : Nat) (detail : Int) : State :=
  if s.takesOffers = false then s
  else
    match roomForUrgent s.link.queue with
    | some (q, evicted) =>
      let number := (s.link.noticeCounter + 1) % 65536
      let notice : Notice :=
        { number := number, cls := cls, code := code, severity := severity, action := action, detail := detail,
          logSequence := s.log.newest % 65536 }
      { s with link := { s.link.lose evicted with noticeCounter := number,
                                                  queue := insertSlot s.own (.faultNotice notice) q } }
    | none => reportNote { s with link := s.link.lose 1 } clsLink 5 (cls * 100 + code)

/-- R17: the conditions under which a LOG ENTRY enters. -/
def roomForLog (q : List Slot) : Bool :=
  decide (q.length + 3 ≤ Config.queueSlots) && decide ((q.filter (fun x => x.frame.kind == 28)).length < 2)

/-! ## The thread state -/

/-- R51: a change is pending. -/
def markChange (s : State) : State := { s with table := { s.table with changePending := true } }

/-- R77: every change of the thread state is told to the Peer Table. -/
def setThread (s : State) (t : ThreadState) : State :=
  if s.thread.state = t then s else markChange { s with thread := { s.thread with state := t } }

/-- R73: the commands and targets zeroed at once. -/
def AllotmentUnit.zero (a : AllotmentUnit) : AllotmentUnit :=
  { a with pTarget := 0, qTarget := 0, pCommand := 0, qCommand := 0 }

/-- R94, R154: the trip ordered; a thread already TRIPPED is not changed. -/
def tripThread (s : State) : State :=
  if s.thread.state = .tripped then s
  else
    let s := setThread s .tripped
    { s with thread := { s.thread with stateTimer := none, recoveryTimer := none, lockCount := 0,
                                       breakerStep := .waitCharge, breakerOpenTimer := some s.now },
             allotment := s.allotment.zero }

/-- R87, R90, R95: the thread enters OFF, and the restart hold starts; the breaker step and the lock count stand until
their next entry (assumption 74). -/
def enterOff (s : State) : State :=
  let s := setThread s .off
  { s with thread := { s.thread with stateTimer := none, restartHold := some s.now } }

/-! ## The cause set (R152, R153) -/

/-- R152: a cause added, or the ended mark of a held latched cause cleared. -/
def addCauseTo (cls code : Nat) : List Cause → List Cause
  | [] => [{ cls := cls, code := code, kind := causeKind cls code, ended := false }]
  | c :: rest =>
    if c.cls = cls ∧ c.code = code then
      match c.kind with
      | .latched => { c with ended := false } :: rest
      | .condition => c :: rest
    else c :: addCauseTo cls code rest

def addCause (s : State) (cls code : Nat) : State :=
  { s with fault := { s.fault with causes := addCauseTo cls code s.fault.causes } }

/-- R153: the condition of a cause has ended. -/
def endConditionIn (cls code : Nat) : List Cause → List Cause
  | [] => []
  | c :: rest =>
    if c.cls = cls ∧ c.code = code then
      match c.kind with
      | .condition => rest
      | .latched => { c with ended := true } :: rest
    else c :: endConditionIn cls code rest

def endCondition (s : State) (cls code : Nat) : State :=
  { s with fault := { s.fault with causes := endConditionIn cls code s.fault.causes } }

/-! ## The quiet state (R175 to R181) -/

/-- R181: the return from QUIET to ACTIVE, with the changes each block takes. -/
def returnToActive (s : State) : State :=
  { s with
    quiet := { s.quiet with state := .active, wakeTimer := none, callCount := 0, callMark := none,
                            lastMark := none, call := none },
    cadence := { s.cadence with reference := .seeking, seekCount := 0, timer := some s.now,
                                expiry := Config.wakeExpiry, overdue := false },
    table := { s.table with changePending := true },
    thread := { s.thread with quietTimer := none } }

/-- R178: the moment of the third mark from a mark heard at `h`: the first h + 400k µs, k from 1, that lies at least
200 µs ahead. -/
def thirdMark (now h : Nat) : Nat :=
  h + Config.cadence * max 1 ((now + 2 * Config.callSpacing - h + (Config.cadence - 1)) / Config.cadence)

/-- R178: the moments of a wake call fixed from the last mark heard. -/
def startCall (s : State) : State :=
  let first :=
    match s.quiet.lastMark with
    | some h => if s.now < h + Config.callWindow then some (thirdMark s.now h - 2 * Config.callSpacing) else none
    | none => none
  { s with quiet := { s.quiet with
      call := some { done := 0, first := first, since := s.now, waiting := false, markEnd := none } } }

/-- R177: a wake cause other than a recognised call. -/
def wakeCause (s : State) : State :=
  match s.quiet.state with
  | .active => s
  | .pending => { s with quiet := { s.quiet with state := .active } }
  | .quiet =>
    if s.link.state = .silent then returnToActive s
    else if s.quiet.call.isSome then s
    else startCall s

/-- R176: the entry into QUIET (assumption 21). -/
def enterQuiet (s : State) : State :=
  { s with
    quiet := { s.quiet with state := .quiet, callCount := 0, callMark := none, lastMark := none, call := none,
                            wakeTimer := if s.quiet.wakePeriod = 0 then none else some s.now },
    cadence := { s.cadence with timer := none, overdue := false },
    thread := { s.thread with quietTimer := some s.now } }

/-- R175: the completion test (assumption 12). -/
def quietTest (s : State) : State :=
  if s.quiet.state = .pending ∧ s.link.state = .joined ∧ s.yaw.state = .idle ∧ s.link.queue = [] then enterQuiet s
  else s

end Sys2Proof.Machine
end

