-- ==== Sys2Proof/Machine/Sessions.lean ====
section
/-!
DEFINITION. The moves of a yaw session that more than one command makes: entering a yaw state, stopping and abandoning a
session (R136, R144, R145), the local end at a clash (R147), allocation (R137), release and driving (R139, R141).
-/
namespace Sys2Proof.Machine

/-- R126, R132: the yaw state entered; a change is pending, and leaving Y_IDLE stops the stagger timer. -/
def setYaw (s : State) (y : YawState) : State :=
  if s.yaw.state = y then s
  else
    let stagger := if s.yaw.state = .idle then none else s.yaw.stagger
    markChange { s with yaw := { s.yaw with state := y, stagger := stagger } }

/-- R126: the session timers stopped. -/
def YawControl.noTimers (y : YawControl) : YawControl :=
  { y with answerWait := none, startWait := none, releaseWait := none, driveTimer := none, driveReached := false,
           brakeDelay := none, applyWait := none }

/-- Every motor output OFF. -/
def YawControl.motorsOff (y : YawControl) : YawControl := { y with motors := PerMotor.all .off }

/-- The entry into Y_IDLE, at which quiet control makes its test (R175). -/
def enterIdle (s : State) : State :=
  quietTest (setYaw { s with yaw := s.yaw.noTimers.motorsOff } .idle)

/-- A YAW STOP for the session held, offered to the queue (R144). -/
def offerStop (s : State) : State := offerYaw s (.yawStop s.yaw.session.proposer s.yaw.session.tag)

/-- R146: the hold started. -/
def startHold (s : State) : State := { s with yaw := { s.yaw with hold := some s.now } }

/-- R145: the entry into Y_STOPPING. -/
def enterStopping (s : State) : State :=
  setYaw { s with yaw := { s.yaw.noTimers.motorsOff with brakeDelay := some s.now } } .stopping

/-- R144: a session stopped by this station. -/
def stopSession (s : State) : State := enterStopping (offerStop s)

/-- R136: a proposal abandoned for a reason and a station. -/
def abandon (s : State) (reason station : Nat) : State :=
  enterIdle (startHold (offerStop (reportNote s clsYaw 6 (10 * reason + station))))

/-- R136, R138, R143: PLANT 1, PLANT 2 or PLANT 6 has entered the cause set. -/
def barSession (s : State) : State :=
  match s.yaw.state with
  | .proposing => abandon s reasonEmergency s.own
  | .joined => enterIdle (offerStop s)
  | .releasing | .driving => stopSession s
  | .idle | .stopping => s

/-- R145: the return to Y_IDLE from Y_STOPPING, which starts the hold. -/
def finishStopping (s : State) : State := enterIdle (startHold s)

/-- R147: the local end of a session at an address clash (assumptions 30, 62). -/
def endLocally (s : State) : State :=
  if s.yaw.state = .idle then s
  else
    let s := if s.yaw.state = .stopping then startHold s else s
    setYaw { s with yaw := { s.yaw.noTimers.motorsOff with release := false } } .idle

/-! ## Twist limits (R131) -/

/-- R131: the twist limit of a mode. -/
def SessionMode.limit : SessionMode → Int
  | .storm => Config.stormTwistLimit
  | .auto | .untwist | .order => Config.twistLimit

/-- R131: a twist that has reached the limit of a mode in a direction. -/
def atLimit (mode : SessionMode) (direction : Direction) (t : Int) : Bool :=
  match direction with
  | .cw => decide (mode.limit ≤ t)
  | .ccw => decide (t ≤ -mode.limit)

/-- The same for a twist that may be absent. -/
def twistReached (mode : SessionMode) (direction : Direction) (t : Option Int) : Bool :=
  match t with
  | none => false
  | some t => atLimit mode direction t

/-! ## Allocation (R137) -/

/-- R137: one participant of the round, with its offer and the run count given so far. -/
structure Share where
  station : Nat
  offer : Nat
  given : Nat
deriving DecidableEq, Repr

/-- R137: one round in ascending station order: one motor to each participant whose run count is below its offer,
while any of `left` remain. -/
def giveRound : Nat → List Share → Nat × List Share
  | left, [] => (left, [])
  | left, p :: rest =>
    if 0 < left ∧ p.given < p.offer then
      let r := giveRound (left - 1) rest
      (r.1, { p with given := p.given + 1 } :: r.2)
    else
      let r := giveRound left rest
      (r.1, p :: r.2)

/-- R137: rounds until nothing is left, or `fuel` rounds have been gone. -/
def giveRounds : Nat → Nat → List Share → List Share
  | 0, _, ps => ps
  | fuel + 1, left, ps =>
    let r := giveRound left ps
    giveRounds fuel r.1 r.2

/-- R137: the run counts for a budget.  A round that can give a motor gives at least one, so `budget` rounds
suffice. -/
def allocate (budget : Nat) (offers : List (Nat × Nat)) : List (Nat × Nat) :=
  (giveRounds budget budget (offers.map (fun p => { station := p.1, offer := p.2, given := 0 }))).map
    (fun p => (p.station, p.given))

/-- A pair put into ascending station order. -/
def insertStation (p : Nat × Nat) : List (Nat × Nat) → List (Nat × Nat)
  | [] => [p]
  | q :: rest => if p.1 ≤ q.1 then p :: q :: rest else q :: insertStation p rest

/-- R137: the offers, the own one as it stands and each expected station's from its answer, ascending. -/
def State.offers (s : State) : List (Nat × Nat) :=
  s.yaw.session.expected.foldr
    (fun n acc =>
      match s.yaw.session.answers.find? (fun a => a.station == n) with
      | some a => insertStation (n, a.offered) acc
      | none => insertStation (n, 0) acc)
    [(s.own, s.motorsReady)]

/-- The run count a list gives a station. -/
def runCountOf (allocation : List (Nat × Nat)) (n : Nat) : Option Nat :=
  (allocation.find? (fun p => p.1 == n)).map (·.2)

/-- R139: the entry into Y_RELEASING. -/
def enterReleasing (s : State) : State :=
  setYaw { s with yaw := { s.yaw.noTimers with release := true, releaseWait := some s.now } } .releasing

/-- R137: allocation and START, by a proposer whose answers are all READY (assumption 63). -/
def allocateAndStart (s : State) : State :=
  let allocation := allocate s.yaw.session.budget s.offers
  let session := { s.yaw.session with allocation := allocation,
                                      runCount := (runCountOf allocation s.own).getD 0,
                                      startTime := s.now }
  let frame := Frame.yawStart session.tag session.mode.code session.direction.code session.budget allocation
  enterReleasing (offerYaw { s with yaw := { s.yaw with session := session } } frame)

/-! ## Release and driving (R139, R141) -/

/-- R139: the participants other than this station. -/
def State.otherParticipants (s : State) : List Nat :=
  (s.yaw.session.allocation.map (·.1)).filter (· ≠ s.own)

/-- The latest record of a station, as the Peer Table holds it. -/
def State.recordOf (s : State) (n : Nat) : Option StatusRecord := (s.table.threads.get? n).bind (·.record)

/-- R139, R142, R143: a record bears the session's proposer and tag. -/
def Session.bornBy (x : Session) (r : StatusRecord) : Bool := r.proposer == x.proposer && r.sessionTag == x.tag

/-- R139: a participant's record counts as released. -/
def Session.released (x : Session) (r : StatusRecord) : Bool :=
  x.bornBy r &&
    (match YawState.ofCode r.yawCode with
     | some .releasing => r.brakesReleased
     | some .driving => true
     | _ => false)

/-- R142, R143: a participant's record shows that it has stopped. -/
def Session.stopped (x : Session) (r : StatusRecord) : Bool :=
  x.bornBy r &&
    (match YawState.ofCode r.yawCode with
     | some .stopping | some .idle => true
     | _ => false)

/-- R139: the three conditions for driving. -/
def State.mayDrive (s : State) : Bool :=
  s.pins.brakesReleased &&
  s.otherParticipants.all (fun n =>
    match s.recordOf n with
    | some r => s.yaw.session.released r
    | none => false) &&
  !twistReached s.yaw.session.mode s.yaw.session.direction s.wind.sharedTwist

/-- The motor output of a direction. -/
def Direction.output : Direction → MotorOutput
  | .cw => .runCw
  | .ccw => .runCcw

/-- R141: the motor outputs with the first run-count ready motors running. -/
def State.drivenMotors (s : State) : PerMotor MotorOutput :=
  (s.readyMotors.take s.yaw.session.runCount).foldl
    (fun ms m => ms.set m s.yaw.session.direction.output) (PerMotor.all .off)

/-- R141: the entry into Y_DRIVING. -/
def enterDriving (s : State) : State :=
  setYaw { s with yaw := { s.yaw.noTimers with motors := s.drivenMotors,
                                               driveTimer := some s.yaw.session.startTime } } .driving

/-- R139: the conditions judged in Y_RELEASING. -/
def judgeDriving (s : State) : State :=
  if s.yaw.state = .releasing ∧ s.mayDrive = true then enterDriving s else s

/-- The station is in Y_RELEASING or Y_DRIVING. -/
def State.inSession (s : State) : Bool := s.yaw.state == .releasing || s.yaw.state == .driving

/-- R143: a new shared twist that has reached the limit stops the session; otherwise R139 is judged on it. -/
def judgeTwist (s : State) : State :=
  if s.inSession = true ∧ twistReached s.yaw.session.mode s.yaw.session.direction s.wind.sharedTwist = true then
    stopSession s
  else judgeDriving s

/-- R142, R143: a status taken from station `n` is judged for a stop already made, then for release
(assumption 63). -/
def judgeStatus (s : State) (n : Nat) : State :=
  match s.recordOf n with
  | none => s
  | some r =>
    if s.inSession = true ∧ s.yaw.session.stopped r = true ∧
        (n = s.yaw.session.proposer ∨ (s.yaw.session.proposer = s.own ∧ n ∈ s.otherParticipants)) then
      stopSession s
    else if n ∈ s.otherParticipants then judgeDriving s
    else s

end Sys2Proof.Machine
end

