-- ==== Sys2Proof/Machine/Reports.lean ====
section
/-!
DEFINITION. Taking a report (R151), taking a nacelle trip from a peer (R157, R158), counting a discard (R19, R20), and
sessions stopped with a report (R142, R143).
-/
namespace Sys2Proof.Machine

/-- R148: a severity that adds a cause and trips the thread. -/
def Severity.trips : Severity → Bool
  | .tripThread | .tripNacelle => true
  | .note | .warn => false

/-- R151: the action of a report, judged against the thread state as it stands. -/
def reportAction (s : State) (cls code : Nat) : Severity → FaultAction
  | .note => .logged
  | .warn => if cls = clsYaw ∧ (code = 1 ∨ code = 7) then .yawStopped else .logged
  | .tripThread =>
    if cls = clsLink ∧ code = 1 then .silenced
    else if s.thread.state = .tripped then .none else .threadTripped
  | .tripNacelle => .nacelleTripSent

/-- R152: whether the entry of a cause into the set is told to Yaw Control as a stop. -/
def barsSession (cls code : Nat) : Bool := cls == clsPlant && (code == 1 || code == 2 || code == 6)

/-- R151, steps 1 to 5: the report taken whole. -/
def takeReport (s : State) (cls code : Nat) (severity : Severity) (detail : Int) : State :=
  let action := reportAction s cls code severity
  let s1 := if severity.trips then tripThread (addCause s cls code) else s
  let s2 := enterRecord s1 s1.own cls code severity.code action.code (some detail) none
  if severity = .note then s2
  else wakeCause (offerNotice s2 cls code severity.code action.code detail)

/-- R151 and R152: a report, and what Yaw Control does when a cause it is told of enters the set (assumption 26). -/
def reportFault (s : State) (cls code : Nat) (severity : Severity) (detail : Int) : State :=
  let t := takeReport s cls code severity detail
  if severity.trips = true ∧ barsSession cls code = true ∧ s.holdsCause cls code = false then barSession t else t

/-- R157, R158: PLANT 6 added and the trip ordered; then the record, if one is entered; then the wake cause and
Yaw Control (assumption 26). -/
def takeNacelleTrip (s : State) (record : State → State) : State :=
  let t := wakeCause (record (tripThread (addCause s clsPlant 6)))
  if s.holdsCause clsPlant 6 = false then barSession t else t

/-- R157, R158: the nacelle-taken mark of a station. -/
def markTaken (s : State) (n : Nat) : State :=
  { s with fault := { s.fault with taken := s.fault.taken.set n true } }

/-- R157: a notice that bears the nacelle flag. -/
def takeNacelleNotice (s : State) (sender : Nat) (n : Notice) : State :=
  takeNacelleTrip s (fun s =>
    markTaken (enterRecord s sender n.cls n.code n.severity FaultAction.nacelleTripTaken.code (some n.detail)
      (some n.number)) sender)

/-- R158: a status that shows the nacelle-trip flag newly. -/
def takeNacelleStatus (s : State) (sender : Nat) : State :=
  takeNacelleTrip s (fun t =>
    if s.fault.taken.get? sender = some true then t
    else
      markTaken (enterRecord t sender clsPlant 6 Severity.tripThread.code FaultAction.nacelleTripTaken.code none none)
        sender)

/-- R19, R20: a discard counted, and LINK 3 WARN when the count of the window rises from 50 to 51. -/
def countDiscard (s : State) : State :=
  let t := { s with link := { s.link with windowDiscards := countHeld 65535 s.link.windowDiscards } }
  if s.link.windowDiscards = 50 then reportFault t clsLink 3 .warn 51 else t

/-- R142, R143: a session stopped for an entry gone STALE, after its report (assumption 67). -/
def stopForStale (s : State) (n : Nat) : State := stopSession (reportFault s clsYaw 7 .warn n)

end Sys2Proof.Machine
end

