-- ==== Sys2Proof/Machine/Allotment.lean ====
section
/-!
DEFINITION. The Allotment Unit's computation in its six stages (R62 to R72).
-/
namespace Sys2Proof.Machine

/-- R62: C_own from the rated current and the thermal factor. -/
def capabilityOf (rated factor : Nat) : Nat := rated * factor / 1000

/-- R62: C_own set from F as the Cooling Unit holds it. -/
def setCapability (s : State) : State :=
  { s with allotment := { s.allotment with capability := capabilityOf s.cfg.rated s.cooling.factor } }

/-- R63: the plant demands D_p and D_q. -/
def State.intake (s : State) : Nat × Int :=
  if s.demand.mode = .produce ∧ s.table.controller.state ≠ .lost then
    ((clamp 0 28000 s.demand.active).toNat, clamp (-28000) 28000 s.demand.reactive)
  else (0, 0)

/-- R65: S, with a peer's capability above 4000 read as 4000. -/
def State.capabilitySum (s : State) : Nat :=
  (s.contributing.map (fun nc => if nc.1 = s.own then nc.2 else min 4000 nc.2)).sum

/-- R65: the raw shares. -/
def State.rawShare (s : State) : Nat × Int :=
  (s.intake.1 * s.allotment.capability / s.capabilitySum,
   trunc (s.intake.2 * s.allotment.capability) s.capabilitySum)

/-- R66: targets in RUN, active first. -/
def targetsRun (c pRaw : Nat) (qRaw : Int) : Nat × Int :=
  (min pRaw c, clip qRaw (isqrt (c * c - min pRaw c * min pRaw c)))

/-- R67: the support current for a voltage. -/
def supportCurrent (rated : Nat) (v : Option Nat) : Nat :=
  match v with
  | none => 0
  | some v => if v < 900 then min rated (2 * rated * (900 - v) / 1000) else 0

/-- R67: targets in RIDE_THROUGH, reactive first. -/
def targetsRideThrough (c pRaw support : Nat) : Nat × Int :=
  (min pRaw (isqrt (c * c - min support c * min support c)), (min support c : Nat))

/-- R69: the slew in amperes per period. -/
def slew (rated : Nat) : Nat := max 1 (rated / 250)

/-- R69: a command moved toward its target by at most the slew. -/
def ramp (step : Nat) (target command : Int) : Int :=
  if target - command ≤ step ∧ command - target ≤ step then target
  else if command < target then command + step
  else command - step

/-- R70: the envelope in RUN and STOPPING. -/
def envelopeRun (c p : Nat) (q : Int) : Nat × Int :=
  let p' := min p c
  (p', if q * q > ((c * c - p' * p' : Nat) : Int) then withSign q (isqrt (c * c - p' * p')) else q)

/-- R71: the envelope in RIDE_THROUGH. -/
def envelopeRideThrough (c p : Nat) (q : Int) : Nat × Int :=
  let q' := clip q c
  (min p (isqrt (c * c - q'.natAbs * q'.natAbs)), q')

/-- R64: the targets of a period, by the thread state. -/
def State.targets (s : State) : Nat × Int :=
  let c := s.allotment.capability
  match s.thread.state with
  | .run => if c = 0 then (0, 0) else targetsRun c s.rawShare.1 s.rawShare.2
  | .rideThrough =>
    if c = 0 then (0, 0) else targetsRideThrough c s.rawShare.1 (supportCurrent s.cfg.rated s.gridVoltage)
  | .off | .precharge | .sync | .stopping | .tripped => (0, 0)

/-- R64, R69 to R72: the commands of a period for its targets, by the thread state. -/
def State.commands (s : State) (p : Nat) (q : Int) : Nat × Int :=
  let c := s.allotment.capability
  let step := slew s.cfg.rated
  let pRamp := (ramp step p s.allotment.pCommand).toNat
  match s.thread.state with
  | .off | .precharge | .sync | .tripped => (0, 0)
  | .run | .stopping => envelopeRun c pRamp (ramp step q s.allotment.qCommand)
  | .rideThrough => envelopeRideThrough c pRamp q

/-- R61 to R72: the computation of a period. -/
def allot (s : State) : State :=
  let s := setCapability s
  let t := s.targets
  let c := s.commands t.1 t.2
  { s with allotment := { s.allotment with pTarget := t.1, qTarget := t.2, pCommand := c.1, qCommand := c.2 } }

end Sys2Proof.Machine
end

