-- ==== Sys2Proof/Machine/StackPort.lean ====
section
/-!
DEFINITION. The stack exchange and the transitions of the thread that commands of other blocks share (R78 to R81, R84,
R87, R90).
-/
namespace Sys2Proof.Machine

/-- R81: a miss (assumptions 39, 52). -/
def missReply (s : State) : State :=
  let n := countHeld 255 s.thread.missCount
  let validity :=
    if s.thread.validity = .absent then .absent else if n ≤ 2 then .held else .expired
  let thread := { s.thread with
    exchange := { s.thread.exchange with outstanding := false },
    missCount := n,
    validity := validity,
    recoveryCount := 0,
    recoveryTimer := if n ≤ 2 then s.thread.recoveryTimer else none,
    gridTimer := if n ≤ 2 then s.thread.gridTimer else none }
  if n = 3 ∧ s.thread.portOut = false then
    let severity := if s.thread.state = .off ∨ s.thread.state = .tripped then Severity.warn else Severity.tripThread
    reportFault { s with thread := { thread with portOut := true } } clsStack 3 severity 3
  else { s with thread := thread }

/-- R79: the command message as it stands. -/
def State.commandMessage (s : State) (offset : Nat) : StackCommand where
  number := (s.thread.exchange.sent.number + 1) % 256
  active := s.allotment.pCommand
  reactive := s.allotment.qCommand
  offset := offset
  gates := s.thread.state.gates
  contactorClosed := s.thread.state.contactor
  breakerClosed := breakerCommand s.thread.state s.thread.breakerStep

/-- R93: the breaker-open time at an exchange that sends a breaker command. -/
def breakerOpenAfter (s : State) (closed : Bool) : Timer :=
  if closed then none
  else if s.thread.exchange.sent.breakerClosed then some s.now
  else s.thread.breakerOpenTimer

/-- R78, R79: a new command message sent. -/
def sendCommand (s : State) (offset : Nat) : State :=
  let m := s.commandMessage offset
  { s with thread := { s.thread with
      exchange := { sent := m, outstanding := true, begun := s.now },
      breakerOpenTimer := breakerOpenAfter s m.breakerClosed } }

/-- R78, R80: an exchange begun; one still outstanding ends as a miss first. -/
def beginExchange (s : State) (offset : Nat) : State :=
  sendCommand (if s.thread.exchange.outstanding then missReply s else s) offset

/-- R84: the start conditions, all together. -/
def State.mayStart (s : State) : Bool :=
  s.thread.state == .off && s.demand.mode == .produce && s.table.controller.state == .live &&
  decide (0 < s.allotment.capability) && s.fault.causes.isEmpty && s.quiet.state == .active && s.isJoined &&
  decide (s.thread.restartHold.remaining s.now Config.restartHold = 0) && !s.thread.portOut

/-- R84: the start test taken at a period. -/
def startTest (s : State) : State :=
  if s.mayStart then
    let s := setThread s .precharge
    { s with thread := { s.thread with stateTimer := some s.now, breakerStep := .waitCharge } }
  else s

/-- R90: both commands at 0 in STOPPING. -/
def completeStop (s : State) : State :=
  if s.thread.state = .stopping ∧ s.allotment.pCommand = 0 ∧ s.allotment.qCommand = 0 then enterOff s else s

/-- R87, R90: the effective demand has changed. -/
def judgeDemand (s : State) : State :=
  if s.demand.mode = .produce then s
  else
    match s.thread.state with
    | .precharge | .sync => enterOff s
    | .run | .rideThrough =>
      let s := setThread s .stopping
      { s with thread := { s.thread with stateTimer := none, recoveryTimer := none } }
    | .off | .stopping | .tripped => s

end Sys2Proof.Machine
end

