-- ==== Sys2Proof/Machine/Cadence.lean ====
section
/-!
DEFINITION. The Cadence Unit: periods (R25, R32), carrier offsets (R33, R34), marks sent, overdue and heard (R26 to R31), and
the commands CADENCE_EXPIRY, OVERDUE_MARK, STAND_IN_PERIOD and EARLY_MARK_WINDOW_END.
-/
namespace Sys2Proof.Machine

/-- R33: the offset for a rank among the switching threads. -/
def carrierOffset (rank members : Nat) : Nat := rank * Config.carrierCounts / members

/-- R33: the number of members with a station number lower than the own. -/
def State.carrierRank (s : State) : Nat := (s.switchingSet.filter (fun n => decide (n < s.own))).length

/-- R33: the pending offset computed in a period. -/
def State.nextOffset (s : State) : Nat :=
  if s.thread.state.switching then carrierOffset s.carrierRank s.switchingSet.length else 0

/-- R32 to R34: the pending offset becomes the latched one, and a new one is computed. -/
def latchOffset (s : State) : State :=
  { s with cadence := { s.cadence with latchedOffset := s.cadence.pendingOffset, pendingOffset := s.nextOffset } }

/-- R32: the work of a period: offset, start test, exchange with the commands of the period before, allotment, and
the end of a stop (assumption 16). -/
def periodWork (s : State) : State :=
  let s := startTest (latchOffset s)
  completeStop (allot (beginExchange s s.cadence.latchedOffset))

/-- R25: a period begun from a restart point. -/
def beginPeriod (s : State) (restart : Nat) : State :=
  let s := { s with cadence := { s.cadence with timer := some restart, overdue := false, expiry := Config.cadence,
                                                count := (s.cadence.count + 1) % 65536 } }
  if s.periodWorks then periodWork s else s

/-- R31: the reference after a period begun by the station's own expiry. -/
def CadenceUnit.ownPeriod (c : CadenceUnit) : CadenceUnit :=
  match c.reference with
  | .locked => c
  | .seeking =>
    { c with seekCount := c.seekCount + 1,
             reference := if Config.seekLimit ≤ c.seekCount + 1 then .locked else .seeking }

/-- R31: the reference enters SEEKING. -/
def CadenceUnit.seek (c : CadenceUnit) : CadenceUnit := { c with reference := .seeking, seekCount := 0 }

/-- R26, R5: the station's own mark, whose first bit is the restart point. -/
def sendMark (s : State) : State :=
  beginPeriod { s with link := { s.link with ownMark := some s.now }, cadence := s.cadence.ownPeriod } s.now

/-- R26, R27: the expiry taken by a station that is JOINED and keeps the cadence. -/
def takeExpiry (s : State) (lineDominant : Bool) : State :=
  if s.cadence.overdue then s
  else if lineDominant then { s with cadence := { s.cadence with overdue := true } }
  else sendMark s

/-- CADENCE_EXPIRY (R26, R36, R39) (assumption 49). -/
def cadenceExpiry (s : State) (lineDominant : Bool) : State :=
  if s.cadence.timer.reached s.now s.cadence.expiry = true ∧ s.keepsCadence = true then
    if s.isJoined then takeExpiry s lineDominant
    else if s.isSilent then beginPeriod s s.now
    else s
  else s

def execCadenceExpiry (lineDominant : Bool) (s : State) : Host.Outcome State Fault Refusal :=
  .next (cadenceExpiry s lineDominant)

/-- OVERDUE_MARK (R27): the mark started at the idle waited for, unless the line already reads dominant there. -/
def overdueMark (s : State) (lineDominant : Bool) : State :=
  if s.cadence.overdue = true ∧ s.isJoined = true ∧ s.keepsCadence = true ∧ s.lineIdle lineDominant = true then sendMark s
  else s

def execOverdueMark (lineDominant : Bool) (s : State) : Host.Outcome State Fault Refusal :=
  .next (overdueMark s lineDominant)

/-- STAND_IN_PERIOD (R28) (assumption 44). -/
def standInPeriod (s : State) : State :=
  if s.cadence.overdue = true ∧ s.isJoined = true ∧ s.keepsCadence = true ∧
      s.cadence.timer.reached s.now (s.cadence.expiry + Config.cadence) = true then
    beginPeriod { s with cadence := s.cadence.seek } s.now
  else s

def execStandInPeriod (s : State) : Host.Outcome State Fault Refusal := .next (standInPeriod s)

/-- R30: an early mark counted, and LINK 2 WARN when the count rises from 10 to 11. -/
def countEarly (s : State) : State :=
  let t := { s with cadence := { s.cadence with earlyMarks := countHeld 255 s.cadence.earlyMarks } }
  if s.cadence.earlyMarks = 10 then reportFault { t with cadence := t.cadence.seek } clsLink 2 .warn 11 else t

/-- R29: a heard mark taken by its reading at the run's first bit. -/
def hearMark (s : State) (firstBit : Nat) : State :=
  match s.cadence.reference with
  | .seeking => beginPeriod { s with cadence := { s.cadence with reference := .locked } } firstBit
  | .locked =>
    if s.cadence.timer.reached firstBit Config.acceptFrom then beginPeriod s firstBit else countEarly s

/-- EARLY_MARK_WINDOW_END (R30); in SILENT the count keeps its value until reset (R39; assumption 50). -/
def earlyMarkWindowEnd (s : State) : State :=
  if s.running = true ∧ s.cadence.earlyWindow.reached s.now Config.window = true then
    { s with cadence := { s.cadence with earlyMarks := if s.isSilent then s.cadence.earlyMarks else 0,
                                         earlyWindow := s.cadence.earlyWindow.again Config.window } }
  else s

def execEarlyMarkWindowEnd (s : State) : Host.Outcome State Fault Refusal := .next (earlyMarkWindowEnd s)

end Sys2Proof.Machine
end

