-- ==== Sys2Proof/Machine/Thread.lean ====
section
/-!
DEFINITION. Thread Control's own commands: the exchange of QUIET, stack replies and misses, and the timers of the thread
states (R78 to R95).
-/
namespace Sys2Proof.Machine

/-- QUIET_EXCHANGE_TIMER (R78, R79): an exchange of QUIET, with offset 0. -/
def quietExchange (s : State) : State :=
  if s.isJoined = true ∧ s.quiet.state = .quiet ∧ s.thread.quietTimer.reached s.now Config.quietExchange = true then
    beginExchange { s with thread := { s.thread with
      quietTimer := s.thread.quietTimer.again Config.quietExchange } } 0
  else s

def execQuietExchangeTimer (s : State) : Host.Outcome State Fault Refusal := .next (quietExchange s)

/-! ## Replies (R80, R81, R85, R86, R88 to R93) -/

/-- R80: a reply is good. -/
def State.goodReply (s : State) (r : StackReply) : Bool :=
  s.thread.exchange.outstanding && decide (s.now ≤ s.thread.exchange.begun + Config.replyWait) && r.checkPassed &&
  r.number == s.thread.exchange.sent.number

/-- R81: what every good reply does to the record, the miss count and the port service. -/
def recordReply (s : State) (r : StackReply) : State :=
  let n := s.thread.recoveryCount + 1
  let back := s.thread.portOut && decide (25 ≤ n)
  let t := { s with thread := { s.thread with
    exchange := { s.thread.exchange with outstanding := false },
    reply := some r,
    validity := .valid,
    missCount := 0,
    portOut := s.thread.portOut && !back,
    recoveryCount := if s.thread.portOut && !back then n else 0 } }
  if back then endCondition t clsStack 3 else t

/-- R91: the overvoltage count after a good reply. -/
def overvoltageAfter (count v : Nat) : Nat := if 1200 < v then min 2 (count + 1) else 0

/-- R91: the grid-healthy timer after a good reply. -/
def gridTimerAfter (t : Timer) (now v : Nat) : Timer :=
  if 900 ≤ v ∧ v ≤ 1100 then (if t.isSome then t else some now) else none

/-- R93: the states in which the main breaker is compared with a closed command. -/
def ThreadState.breakerHeldClosed : ThreadState → Bool
  | .sync | .run | .rideThrough | .stopping => true
  | .off | .precharge | .tripped => false

/-- R93: the states in which the main breaker is compared with an open command. -/
def ThreadState.breakerHeldOpen : ThreadState → Bool
  | .off | .tripped => true
  | .sync | .run | .rideThrough | .stopping | .precharge => false

/-- R93: the detail of a breaker mismatch that a reply shows, if it shows one. -/
def breakerMismatch (s : State) (r : StackReply) : Option Int :=
  if s.thread.state.breakerHeldClosed = true ∧ r.breakerClosed = false then some 1
  else if s.thread.state.breakerHeldOpen = true ∧ r.breakerClosed = true ∧ s.thread.breakerOpenTimer.isSome = true ∧
      Config.breakerTime < s.thread.breakerOpenTimer.elapsed s.now then some 2
  else none

/-- R93: the breaker feedback agrees with the command. -/
def breakerAgrees (s : State) (r : StackReply) : Bool :=
  (s.thread.state.breakerHeldClosed && r.breakerClosed) || (s.thread.state.breakerHeldOpen && !r.breakerClosed)

/-- R92: the onset of a fault line against the previous good reply. -/
def lineOnset (line : StackReply → Bool) (previous : Option StackReply) (r : StackReply) : Bool :=
  line r && !(previous.elim false line)

/-- R92: the end of a fault line against the previous good reply. -/
def lineEnd (line : StackReply → Bool) (previous : Option StackReply) (r : StackReply) : Bool :=
  !line r && previous.elim false line

/-- The trip conditions that one good reply shows against the state before it (R91 to R93). -/
structure ReplyFaults where
  grid2 : Bool
  stack4 : Bool
  stack1 : Bool
  stack2 : Bool
  stack7 : Option Int
deriving DecidableEq, Repr

def replyFaults (s : State) (r : StackReply) : ReplyFaults where
  grid2 := s.thread.overvoltageCount == 1 && decide (1200 < r.grid)
  stack4 := !s.thread.dcLinkFault && decide (1150 < r.dcLink)
  stack1 := lineOnset (·.overcurrent) s.thread.reply r
  stack2 := lineOnset (·.desaturation) s.thread.reply r
  stack7 := if s.thread.breakerFault then none else breakerMismatch s r

/-- R83: a reply that shows a trip condition makes no other transition. -/
def ReplyFaults.any (f : ReplyFaults) : Bool := f.grid2 || f.stack4 || f.stack1 || f.stack2 || f.stack7.isSome

/-- A report made only when its condition holds. -/
def reportIf (c : Bool) (cls code : Nat) (detail : Int) (s : State) : State :=
  if c then reportFault s cls code .tripThread detail else s

/-- An end of condition told only when it holds. -/
def endIf (c : Bool) (cls code : Nat) (s : State) : State := if c then endCondition s cls code else s

/-- R91 to R93: the faults and the ends of conditions a good reply shows, judged against the state `s0` before it
(assumption 17). -/
def judgeReplyFaults (s0 : State) (r : StackReply) (s : State) : State :=
  let f := replyFaults s0 r
  let dcEnd := s0.thread.dcLinkFault && decide (r.dcLink ≤ 1100)
  let breakerEnd := s0.thread.breakerFault && breakerAgrees s0 r
  let s := { s with thread := { s.thread with
    overvoltageCount := overvoltageAfter s0.thread.overvoltageCount r.grid,
    gridTimer := gridTimerAfter s0.thread.gridTimer s0.now r.grid,
    dcLinkFault := (s0.thread.dcLinkFault && !dcEnd) || f.stack4,
    breakerFault := (s0.thread.breakerFault && !breakerEnd) || f.stack7.isSome } }
  let s := endIf (lineEnd (·.overcurrent) s0.thread.reply r) clsStack 1 s
  let s := endIf (lineEnd (·.desaturation) s0.thread.reply r) clsStack 2 s
  let s := endIf dcEnd clsStack 4 s
  let s := endIf breakerEnd clsStack 7 s
  let s := reportIf f.grid2 clsGrid 2 r.grid s
  let s := reportIf f.stack4 clsStack 4 r.dcLink s
  let s := reportIf f.stack1 clsStack 1 (isqrt (r.active.natAbs * r.active.natAbs + r.reactive.natAbs * r.reactive.natAbs)) s
  let s := reportIf f.stack2 clsStack 2 0 s
  reportIf f.stack7.isSome clsStack 7 (f.stack7.getD 0) s

/-- R85, R86, R88, R89: the transition that a good reply makes in the thread state it finds.  The breaker step is left at
WAIT_BREAKER for SYNC, and the lock count at 25 for RUN (assumption 74). -/
def replyTransition (s : State) (r : StackReply) : State :=
  match s.thread.state with
  | .precharge =>
    match s.thread.breakerStep with
    | .waitCharge =>
      if r.contactorClosed = true ∧ 850 ≤ r.dcLink then
        { s with thread := { s.thread with breakerStep := .waitBreaker } }
      else s
    | .waitBreaker =>
      if r.breakerClosed then
        let s := setThread s .sync
        { s with thread := { s.thread with stateTimer := some s.now, lockCount := 0 } }
      else s
  | .sync =>
    if r.locked then
      let s := { s with thread := { s.thread with lockCount := s.thread.lockCount + 1 } }
      if 25 ≤ s.thread.lockCount then
        let s := setThread s .run
        { s with thread := { s.thread with stateTimer := none } }
      else s
    else { s with thread := { s.thread with lockCount := 0 } }
  | .run =>
    if r.grid < 850 then
      let s := setThread s .rideThrough
      reportNote { s with thread := { s.thread with stateTimer := some s.now, recoveryTimer := none } } clsGrid 3 r.grid
    else s
  | .rideThrough =>
    { s with thread := { s.thread with recoveryTimer :=
        if r.grid < 900 then none else if s.thread.recoveryTimer.isSome then s.thread.recoveryTimer else some s.now } }
  | .off | .stopping | .tripped => s

/-- R80: a good reply taken. -/
def takeReply (s : State) (r : StackReply) : State :=
  let t := judgeReplyFaults s r (recordReply s r)
  if (replyFaults s r).any then t else replyTransition t r

/-- STACK_REPLY (R80): a reply that is not good is discarded. -/
def stackReply (s : State) (r : StackReply) : State :=
  if s.running = true ∧ s.goodReply r = true then takeReply s r else s

def execStackReply (reply : StackReply) (s : State) : Host.Outcome State Fault Refusal := .next (stackReply s reply)

/-- STACK_REPLY_TIMEOUT (R80): 360 µs without a good reply. -/
def stackReplyTimeout (s : State) : State :=
  if s.running = true ∧ s.thread.exchange.outstanding = true ∧
      s.thread.exchange.begun + Config.replyWait ≤ s.now then missReply s
  else s

def execStackReplyTimeout (s : State) : Host.Outcome State Fault Refusal := .next (stackReplyTimeout s)

/-! ## Timers of the thread states -/

/-- PRECHARGE_TIMEOUT (R85): STACK 5, whose condition has ended at the moment it is reported. -/
def prechargeTimeout (s : State) : State :=
  if s.thread.state = .precharge ∧ s.thread.stateTimer.reached s.now Config.prechargeLimit = true ∧ s.running = true then
    endCondition
      (reportFault s clsStack 5 .tripThread (match s.thread.breakerStep with | .waitCharge => 1 | .waitBreaker => 2))
      clsStack 5
  else s

def execPrechargeTimeout (s : State) : Host.Outcome State Fault Refusal := .next (prechargeTimeout s)

/-- SYNC_TIMEOUT (R86): STACK 6, whose condition has ended at the moment it is reported. -/
def syncTimeout (s : State) : State :=
  if s.thread.state = .sync ∧ s.thread.stateTimer.reached s.now Config.syncLimit = true ∧ s.running = true then
    endCondition (reportFault s clsStack 6 .tripThread s.thread.lockCount) clsStack 6
  else s

def execSyncTimeout (s : State) : Host.Outcome State Fault Refusal := .next (syncTimeout s)

/-- RIDE_THROUGH_RECOVERY (R89). -/
def rideThroughRecovery (s : State) : State :=
  if s.thread.state = .rideThrough ∧ s.thread.recoveryTimer.reached s.now Config.recoveryTime = true ∧
      s.running = true then
    let spent := min 32767 (s.thread.stateTimer.elapsed s.now / Config.ms)
    let s := setThread s .run
    reportNote { s with thread := { s.thread with stateTimer := none, recoveryTimer := none } } clsGrid 4 spent
  else s

def execRideThroughRecovery (s : State) : Host.Outcome State Fault Refusal := .next (rideThroughRecovery s)

/-- RIDE_THROUGH_TOO_LONG (R89, R91): GRID 1, reported as ended at once while the grid-healthy timer stands at 1 s. -/
def rideThroughTooLong (s : State) : State :=
  if s.thread.state = .rideThrough ∧ s.thread.stateTimer.reached s.now (Config.rideThroughLimit + 1) = true ∧
      s.running = true then
    endIf (s.thread.gridTimer.reached s.now Config.gridHealthy) clsGrid 1
      (reportFault s clsGrid 1 .tripThread (s.gridVoltage.getD 0))
  else s

def execRideThroughTooLong (s : State) : Host.Outcome State Fault Refusal := .next (rideThroughTooLong s)

/-- GRID_HEALTHY_TIMER (R91). -/
def gridHealthyTimer (s : State) : State :=
  if s.thread.gridTimer.reached s.now Config.gridHealthy = true ∧ s.running = true then
    endCondition (endCondition s clsGrid 1) clsGrid 2
  else s

def execGridHealthyTimer (s : State) : Host.Outcome State Fault Refusal := .next (gridHealthyTimer s)

/-- RESTART_HOLD_EXPIRY (R95): the hold runs out at 0 (assumption 11). -/
def restartHoldExpiry (s : State) : State :=
  if s.thread.restartHold.reached s.now Config.restartHold = true ∧ s.held = false then
    { s with thread := { s.thread with restartHold := none } }
  else s

def execRestartHoldExpiry (s : State) : Host.Outcome State Fault Refusal := .next (restartHoldExpiry s)

end Sys2Proof.Machine
end

