-- ==== Sys2Proof/Machine/Table.lean ====
section
/-!
DEFINITION. The Peer Table: frames taken into entries (R43, R44, R49), ageing (R45 to R48) and the building of the own status
(R51 to R53), with the commands AGEING_STEP and STATUS_BUILD.
-/
namespace Sys2Proof.Machine

/-! ## Frames taken (R43, R44) -/

/-- R44: the frame is a repeat of the last one taken. -/
def Entry.isRepeat {ρ : Type} (e : Entry ρ) (tag : Nat) : Bool := e.record.isSome && e.lastTag == some tag

/-- R43: state and consecutive-good count after a new frame, for a STALE limit. -/
def Entry.advance {ρ : Type} (e : Entry ρ) (stale : Nat) : EntryState × Nat :=
  match e.state with
  | .absent | .lost => (.heard, 1)
  | .heard => if stale < e.age then (.heard, 1) else if 3 ≤ e.good + 1 then (.live, 3) else (.heard, e.good + 1)
  | .live | .stale => (.live, 3)

/-- R43, R44: a good frame at an entry. -/
def Entry.take {ρ : Type} (e : Entry ρ) (role : Role) (tag : Nat) (record : ρ) (stale : Nat) : Entry ρ :=
  if e.isRepeat tag then { e with age := 0 }
  else
    { role := role, state := (e.advance stale).1, age := 0, good := (e.advance stale).2, record := some record,
      lastTag := some tag }

/-! ## THREAD STATUS (R43, R59, R142, R143) -/

/-- R59: a taken status is told to the Fault Unit: the flag shown where the record did not show it before, or an entry
made LIVE from HEARD with the flag shown. -/
def tellsNacelleTrip (before after : Entry StatusRecord) (r : StatusRecord) : Bool :=
  r.nacelleTrip &&
    (!(before.record.elim false (·.nacelleTrip)) || (before.state == .heard && after.state == .live))

/-- STATUS_TAKEN (R43): a good THREAD STATUS of another station. -/
def takeStatus (s : State) (n : Nat) (r : StatusRecord) : State :=
  match s.table.threads.get? n with
  | none => s
  | some e =>
    let e' := e.take .thread r.tag r s.quiet.threadLimits.1
    let t := { s with table := { s.table with threads := s.table.threads.set n e' } }
    if e.isRepeat r.tag then t
    else judgeStatus (if tellsNacelleTrip e e' r then takeNacelleStatus t n else t) n

/-! ## PLANT DEMAND (R48, R49, R160, R177) -/

/-- R49: the acknowledge tag has changed, as told to the Fault Unit. -/
def tellsAcknowledge (before : Entry DemandRecord) (d : DemandRecord) : Bool :=
  (before.state == .live || before.state == .stale) && before.record.elim false (fun o => o.ackTag != d.ackTag)

/-- R160: a change of the acknowledge tag. -/
def takeAcknowledge (s : State) : State :=
  if s.thread.state = .tripped then { s with fault := { s.fault with pendingAck := some s.now } } else s

/-- R177: a new demand record that is a wake cause. -/
def DemandRecord.wakes (d : DemandRecord) : Bool :=
  PlantMode.read d.modeCode == .produce || PlantMode.read d.modeCode == .storm

/-- DEMAND_TAKEN (R49). -/
def takeDemand (s : State) (d : DemandRecord) : State :=
  let e := s.table.controller
  let t := { s with table := { s.table with
    controller := e.take .turbineController d.tag d s.quiet.controllerLimits.1 } }
  if e.isRepeat d.tag then t
  else
    let t := judgeDemand (if tellsAcknowledge e d then takeAcknowledge t else t)
    if d.wakes then wakeCause t else t

/-! ## Ageing (R45) -/

/-- R45: one ageing step of an entry. -/
def Entry.ageStep {ρ : Type} (e : Entry ρ) (limits : Nat × Nat) : Entry ρ :=
  match e.state with
  | .absent => e
  | .heard | .live | .stale | .lost =>
    let age := countHeld 65535 e.age
    if limits.2 < age then { e with age := age, state := .lost, good := 0 }
    else if limits.1 < age ∧ e.state = .live then { e with age := age, state := .stale }
    else { e with age := age }

/-- The stations whose entries went from `live` to STALE in a step (assumption 22). -/
def newlyStale (before after : PerThread (Entry StatusRecord)) : List Nat :=
  ((before.toList.zip after.toList).filter (fun p => p.1.2.state != .stale && p.2.2.state == .stale)).map (·.1.1)

/-- R142, R143: an entry gone STALE that stops the session: a participant's at the proposer, the proposer's at the
others. -/
def State.staleStops (s : State) (n : Nat) : Bool :=
  s.inSession &&
    (if s.yaw.session.proposer = s.own then decide (n ∈ s.otherParticipants) else n == s.yaw.session.proposer)

/-- AGEING_STEP (R45 to R48) (assumption 51). -/
def age (s : State) : State :=
  let threads := s.table.threads.map (fun n e => if n = s.own then e else e.ageStep s.quiet.threadLimits)
  let controller := s.table.controller.ageStep s.quiet.controllerLimits
  let lost := s.table.controller.state != .lost && controller.state == .lost
  let t := { s with table := { s.table with threads := threads, controller := controller } }
  let t := if lost then judgeDemand (reportFault t clsPlant 3 .warn (min 32767 controller.age)) else t
  match (newlyStale s.table.threads threads).filter s.staleStops with
  | [] => t
  | n :: _ => stopForStale t n

def ageingStep (s : State) : State :=
  if s.running = true ∧ s.table.ageTimer.reached s.now Config.ageing = true then
    age { s with table := { s.table with ageTimer := s.table.ageTimer.again Config.ageing } }
  else s

def execAgeingStep (s : State) : Host.Outcome State Fault Refusal := .next (ageingStep s)

/-! ## The own status (R51 to R53) -/

/-- R51: the status period. -/
def State.statusPeriod (s : State) : Nat :=
  match s.quiet.state with
  | .active | .pending => Config.statusPeriod
  | .quiet => s.quiet.interval * Config.sec

/-- R51: a status is due. -/
def State.statusDue (s : State) : Bool :=
  s.table.statusTimer.reached s.now s.statusPeriod ||
    (s.table.changePending && s.table.statusTimer.reached s.now Config.changeDelay)

/-- R52: the status as the blocks stand, with a tag (assumption 23). -/
def State.statusNow (s : State) (tag : Nat) : StatusRecord where
  tag := tag
  nacelleTrip := s.nacelleFlag
  threadCode := s.thread.state.code
  capability := s.allotment.capability
  yawCode := s.yaw.state.code
  active := s.measured.1
  motorsReady := s.motorsReady
  reactive := s.measured.2
  heatLoad := s.cooling.heatKilowatts
  pumpOwner := s.cfg.role == .pump
  flowDemand := s.cooling.flowDemand
  fanOwner := s.cfg.role == .fan
  fanDemand := s.cooling.fanDemand
  isolated := s.cfg.isolated
  fanHealthy := s.cfg.role == .fan && s.cooling.healthy
  pumpHealthy := s.cfg.role == .pump && s.cooling.healthy
  proposer := s.yaw.session.proposer
  sessionTag := s.yaw.session.tag
  direction := s.ownWind.direction
  windSpeed := s.ownWind.speed
  brakesReleased := s.pins.brakesReleased
  twist := s.ownWind.twist
  cadenceCount := s.cadence.count
  lastWindow := min 255 s.link.lastWindow
  foreign := s.link.foreign
  corrected := s.link.corrected
  losses := s.link.losses
  superseded := s.link.superseded

/-- R53: the status built, put into the own entry, and offered. -/
def buildStatus (s : State) : State :=
  let tag := (s.table.statusTag + 1) % 256
  let r := s.statusNow tag
  let threads :=
    match s.table.threads.get? s.own with
    | some e => s.table.threads.set s.own { e with record := some r, lastTag := some tag }
    | none => s.table.threads
  offerStatus { s with table := { s.table with threads := threads, statusTag := tag, statusTimer := some s.now,
                                               changePending := false } } r

/-- STATUS_BUILD (R51) (assumption 13). -/
def statusBuild (s : State) : State := if s.isJoined = true ∧ s.statusDue = true then buildStatus s else s

def execStatusBuild (s : State) : Host.Outcome State Fault Refusal := .next (statusBuild s)

end Sys2Proof.Machine
end

