-- ==== Sys2Proof/Machine/Cooling.lean ====
section
/-!
DEFINITION. The Cooling Unit: the stages of its 100 ms evaluation in their order (R98 to R111), tachometer pulses (R110) and the
PWM output (R109), with the commands COOLING_EVALUATION, TACH_PULSE and PWM_PERIOD_END.
-/
namespace Sys2Proof.Machine

/-! ## Sensors (R99, R100) -/

/-- R99: the range of a valid temperature. -/
def validTemperature (v : Int) : Bool := decide (-400 ≤ v ∧ v ≤ 1500)

/-- R99: a reading classified: the value, when valid. -/
def classifyReading (reading : Option Int) : Option Int := reading.filter validTemperature

/-- R99: one evaluation of a sensor record (assumption 25). -/
def Sensor.step (x : Sensor) (reading : Option Int) : Sensor :=
  match classifyReading reading with
  | some v => { state := .valid, last := v, hold := 0 }
  | none =>
    match x.state with
    | .notRead => { x with state := .failed }
    | .valid => { x with state := .holding, hold := 1 }
    | .holding => if 10 < x.hold + 1 then { x with state := .failed } else { x with hold := x.hold + 1 }
    | .failed => x

/-- R99: the value the later stages use. -/
def Sensor.value (x : Sensor) : Option Int :=
  match x.state with
  | .valid | .holding => some x.last
  | .notRead | .failed => none

/-- R100: whether the evaluation reports the sensor. -/
def Sensor.reports (x : Sensor) (reading : Option Int) : Bool :=
  (classifyReading reading).isNone && (x.state == .notRead || x.state == .valid)

/-- R100: the report of a sensor gone invalid. -/
def reportSensor (before : Sensor) (reading : Option Int) (code : Nat) (s : State) : State :=
  if before.reports reading then reportFault s clsThermal code .warn (reading.getD (-32768)) else s

/-- R82, R99: the heatsink reading; `none` while the reply record is absent, when none is taken. -/
def State.heatsinkReading (s : State) : Option (Option Int) :=
  match s.thread.validity with
  | .absent => none
  | .expired => some none
  | .valid | .held => some (s.thread.reply.map (·.heatsink))

/-- R99, R100: the heatsink sensor. -/
def senseHeatsink (s : State) : State :=
  match s.heatsinkReading with
  | none => s
  | some reading =>
    reportSensor s.cooling.heatsink reading 2
      { s with cooling := { s.cooling with heatsink := s.cooling.heatsink.step reading } }

/-- R99, R100: the inlet sensor. -/
def senseInlet (reading : Option Int) (s : State) : State :=
  reportSensor s.cooling.inlet reading 3
    { s with cooling := { s.cooling with inlet := s.cooling.inlet.step reading } }

/-- R99, R100: the outlet sensor. -/
def senseOutlet (reading : Option Int) (s : State) : State :=
  reportSensor s.cooling.outlet reading 5
    { s with cooling := { s.cooling with outlet := s.cooling.outlet.step reading } }

/-! ## The thermal factor (R101 to R103) -/

/-- R101: a term that falls from 1000 at `full` to 0 at `zero`. -/
def fallingTerm (full zero : Int) (t : Option Int) : Nat :=
  match t with
  | none => 0
  | some t => if t ≤ full then 1000 else if zero ≤ t then 0 else (1000 * (zero - t) / (zero - full)).toNat

/-- R101: F_hs. -/
def heatsinkTerm (t : Option Int) : Nat := fallingTerm 700 900 t

/-- R101: F_in. -/
def inletTerm (t : Option Int) : Nat := fallingTerm 450 550 t

/-- R102: coolant flow is proven. -/
def State.flowProven (s : State) : Bool :=
  match s.cfg.role with
  | .pump => s.cooling.healthy
  | .fan | .none => s.pumpOwners.any (·.2)

/-- R101 to R103: the terms and F. -/
def formFactor (s : State) : State :=
  let hs := heatsinkTerm s.cooling.heatsink.value
  let inl := inletTerm s.cooling.inlet.value
  let flow := if s.flowProven then 1000 else 500
  { s with cooling := { s.cooling with factorHeatsink := hs, factorInlet := inl, factorFlow := flow,
                                       factor := min (min hs inl) flow } }

/-- R103: the derate note. -/
def derateNote (s : State) : State :=
  if s.cooling.derateArmed then
    if s.cooling.factor < 1000 then
      reportNote { s with cooling := { s.cooling with derateArmed := false, derateCount := 0 } } clsThermal 4
        s.cooling.factor
    else s
  else if s.cooling.factor = 1000 then
    if 100 ≤ s.cooling.derateCount + 1 then
      { s with cooling := { s.cooling with derateArmed := true, derateCount := 0 } }
    else { s with cooling := { s.cooling with derateCount := s.cooling.derateCount + 1 } }
  else { s with cooling := { s.cooling with derateCount := 0 } }

/-- R104: the heatsink trip. -/
def heatsinkTrip (s : State) : State :=
  if s.cooling.heatsink.state = .valid then
    if s.cooling.thermalFlag = false ∧ 950 ≤ s.cooling.heatsink.last then
      reportFault { s with cooling := { s.cooling with thermalFlag := true } } clsThermal 1 .tripThread
        s.cooling.heatsink.last
    else if s.cooling.thermalFlag = true ∧ s.cooling.heatsink.last < 850 then
      endCondition { s with cooling := { s.cooling with thermalFlag := false } } clsThermal 1
    else s
  else s

/-! ## Heat load and demands (R105 to R107) -/

/-- R105: the heat load in watts for measured currents. -/
def heatWatts (p q : Int) : Nat :=
  let i := isqrt (p.natAbs * p.natAbs + q.natAbs * q.natAbs)
  2 * i + i * i / 400

/-- R106: the temperature term. -/
def outletTerm (t : Option Int) : Nat :=
  match t with
  | none => 100
  | some t => if t ≤ 350 then 0 else min 100 (20 + (80 * (t - 350) / 150).toNat)

/-- R106: the own flow demand. -/
def flowDemandOf (switching : Bool) (outlet : Option Int) (kilowatts : Nat) : Nat :=
  max (if switching then 20 else 0) (max (outletTerm outlet) (min 100 (2 * kilowatts)))

/-- R107: the own fan demand. -/
def fanDemandOf (inlet : Option Int) : Nat :=
  match inlet with
  | none => 100
  | some t => if t ≤ 300 then 0 else if 450 ≤ t then 100 else (100 * (t - 300) / 150).toNat

/-- R105 to R107: heat load and own demands. -/
def formDemands (s : State) : State :=
  let w := heatWatts s.measured.1 s.measured.2
  let kw := min 255 (w / 1000)
  { s with cooling := { s.cooling with
      heatWatts := w, heatKilowatts := kw,
      flowDemand := flowDemandOf s.thread.state.switching s.cooling.outlet.value kw,
      fanDemand := fanDemandOf s.cooling.inlet.value } }

/-! ## The merged command, the proof and the pump owners (R108 to R111) -/

/-- R108: the merged command of an owner (assumption 23). -/
def State.mergedCommand (s : State) : Nat :=
  match s.cfg.role with
  | .pump => (s.liveRecords.map (·.2.flowDemand)).foldl max s.cooling.flowDemand
  | .fan => (s.liveRecords.map (·.2.fanDemand)).foldl max s.cooling.fanDemand
  | .none => 0

/-- R108, R109: the command formed by an owner in JOINED and SILENT, and the next duty. -/
def mergeCommand (s : State) : State :=
  if s.cfg.role ≠ .none ∧ (s.isJoined || s.isSilent) = true then
    { s with cooling := { s.cooling with command := s.mergedCommand, nextDuty := s.mergedCommand * 20 } }
  else s

/-- R110: the low and high runs after a count against the minimum, for the command in force while it was counted. -/
def proofRuns (count minimum command low high : Nat) : Nat × Nat :=
  if count < minimum then (if 30 ≤ command then countHeld Config.proofRun low else 0, 0)
  else (0, countHeld Config.proofRun high)

/-- R110: the proof of the owned actuator, judged against the command of the previous evaluation (assumption 54). -/
def judgeProof (command : Nat) (s : State) : State :=
  if s.cfg.role = .none then s
  else
    let count := s.cooling.tachCount
    let runs := proofRuns count s.cfg.tachMinimum command s.cooling.lowRun s.cooling.highRun
    let c := { s.cooling with lowRun := runs.1, highRun := runs.2, tachCount := 0 }
    if runs.1 = Config.proofRun ∧ s.cooling.healthy = true then
      reportFault { s with cooling := { c with healthy := false } } clsCooling
        (if s.cfg.role = .pump then 1 else 2) .warn count
    else if runs.2 = Config.proofRun ∧ s.cooling.healthy = false then
      { s with cooling := { c with healthy := true } }
    else { s with cooling := c }

/-- R111: switching with no pump owner. -/
def pumpAbsence (s : State) : State :=
  if s.thread.state.switching = true ∧ s.pumpOwners = [] then
    let run := countHeld Config.proofRun s.cooling.absenceRun
    let c := { s.cooling with absenceRun := run }
    if run = Config.proofRun ∧ s.cooling.absenceLogged = false then
      reportFault { s with cooling := { c with absenceLogged := true } } clsCooling 3 .warn 0
    else { s with cooling := c }
  else { s with cooling := { s.cooling with absenceRun := 0, absenceLogged := false } }

/-- R62: C_own set at an evaluation where no period begins allotment, in LISTEN and while QUIET. -/
def capabilityAtEvaluation (s : State) : State :=
  if s.link.state = .listen ∨ s.quiet.state = .quiet then setCapability s else s

/-- R98: one evaluation, its stages in their order (assumption 53). -/
def coolingStages (s : State) (inlet outlet : Option Int) : State :=
  let command := s.cooling.command
  let s := senseOutlet outlet (senseInlet inlet (senseHeatsink s))
  let s := heatsinkTrip (derateNote (formFactor s))
  let s := mergeCommand (formDemands s)
  capabilityAtEvaluation (pumpAbsence (judgeProof command s))

/-- COOLING_EVALUATION (R98). -/
def coolingEvaluation (s : State) (inlet outlet : Option Int) : State :=
  if s.running = true ∧ s.cooling.timer.reached s.now Config.evaluation = true then
    coolingStages { s with cooling := { s.cooling with timer := s.cooling.timer.again Config.evaluation } } inlet outlet
  else s

def execCoolingEvaluation (inlet outlet : Option Int) (s : State) : Host.Outcome State Fault Refusal :=
  .next (coolingEvaluation s inlet outlet)

/-- TACH_PULSE (R110) (assumption 55). -/
def tachPulse (s : State) : State :=
  if s.running then { s with cooling := { s.cooling with tachCount := countHeld 65535 s.cooling.tachCount } } else s

def execTachPulse (s : State) : Host.Outcome State Fault Refusal := .next (tachPulse s)

/-- PWM_PERIOD_END (R109) (assumption 10). -/
def pwmPeriodEnd (s : State) : State :=
  if s.held = false ∧ s.cooling.pwmStart + Config.pwmPeriod ≤ s.now then
    { s with cooling := { s.cooling with runningDuty := s.cooling.nextDuty,
                                         pwmStart := s.cooling.pwmStart + Config.pwmPeriod } }
  else s

def execPwmPeriodEnd (s : State) : Host.Outcome State Fault Refusal := .next (pwmPeriodEnd s)

end Sys2Proof.Machine
end

