-- ==== Sys2Proof/Machine/Wind.lean ====
section
/-!
DEFINITION. The Wind Input Unit: vane edges (R115, R116), anemometer edges (R119) and the stages of the 100 ms evaluation in
their order (R114, R117 to R124), with the commands VANE_RISING_EDGE, VANE_FALLING_EDGE, VANE_WRAP, ANEMOMETER_EDGE
and WIND_EVALUATION.
-/
namespace Sys2Proof.Machine

/-! ## The vane (R115, R116) -/

/-- R115: the distance of two captures, modulo 65536. -/
def captureDistance (later earlier : Nat) : Nat := (later + Config.captureWrap - earlier) % Config.captureWrap

/-- R116: the tests of a valid sample on the period length and the high time. -/
def validSample (p h : Nat) : Bool := decide (500 ≤ p ∧ p ≤ 2000 ∧ p ≤ 50 * h ∧ 50 * h ≤ 49 * p)

/-- R116: the signed angle m of a sample. -/
def sampleAngle (p h : Nat) : Int :=
  if 3600 * h / p < 1800 then ((3600 * h / p : Nat) : Int) else ((3600 * h / p : Nat) : Int) - 3600

/-- R115: the overrun count of the interval. -/
def WindUnit.overrun (w : WindUnit) : WindUnit := { w with overruns := countHeld 255 w.overruns }

/-- R116: a sample judged, and added to the accumulator when valid (assumption 25). -/
def WindUnit.sample (w : WindUnit) (p h : Nat) : WindUnit :=
  if validSample p h then
    { w with sampleSum := w.sampleSum + sampleAngle p h, sampleCount := w.sampleCount + 1 }
  else w

/-- R115: the closed period judged at a rising edge with the given capture. -/
def WindUnit.closePeriod (w : WindUnit) (capture : Nat) : WindUnit :=
  match w.periodOpen, w.highCapture with
  | none, _ => w
  | some _, none => w.overrun
  | some start, some high =>
    if w.broken then w.overrun else w.sample (captureDistance capture start) (captureDistance high start)

/-- R115: a new period opened at the moment of a rising edge. -/
def WindUnit.openPeriod (w : WindUnit) (now : Nat) : WindUnit :=
  { w with periodOpen := some (captureTimer now), openedAt := now / Config.us, highCapture := none, broken := false,
           wrapped := false }

/-- VANE_RISING_EDGE (R115). -/
def vaneRising (s : State) : State :=
  if s.running = true ∧ s.cfg.vane = true then
    { s with wind := (s.wind.closePeriod (captureTimer s.now)).openPeriod s.now }
  else s

def execVaneRisingEdge (s : State) : Host.Outcome State Fault Refusal := .next (vaneRising s)

/-- R115: a falling edge while a period is open, or none. -/
def WindUnit.fall (w : WindUnit) (capture : Nat) : WindUnit :=
  match w.periodOpen, w.highCapture with
  | none, _ => w
  | some _, none => { w with highCapture := some capture }
  | some _, some _ => { w with broken := true }

/-- VANE_FALLING_EDGE (R115). -/
def vaneFalling (s : State) : State :=
  if s.running = true ∧ s.cfg.vane = true then { s with wind := s.wind.fall (captureTimer s.now) } else s

def execVaneFallingEdge (s : State) : Host.Outcome State Fault Refusal := .next (vaneFalling s)

/-- VANE_WRAP (R115): 65.536 ms after the period opened it is closed as no period (assumption 58). -/
def vaneWrap (s : State) : State :=
  if s.running = true ∧ s.cfg.vane = true ∧ s.wind.periodOpen.isSome = true ∧
      s.wind.openedAt + Config.captureWrap ≤ s.now / Config.us then
    { s with wind := { s.wind with periodOpen := none, highCapture := none, broken := false, wrapped := true } }
  else s

def execVaneWrap (s : State) : Host.Outcome State Fault Refusal := .next (vaneWrap s)

/-! ## The anemometer (R119) -/

/-- R119: one rising edge through the prescaler. -/
def WindUnit.edge (w : WindUnit) (prescaler : Nat) : WindUnit :=
  if prescaler ≤ w.prescalerPhase + 1 then
    { w with prescalerPhase := 0, edgeCount := countHeld 65535 w.edgeCount }
  else { w with prescalerPhase := w.prescalerPhase + 1 }

/-- ANEMOMETER_EDGE (R119). -/
def anemometerEdge (s : State) : State :=
  if s.running = true ∧ s.cfg.anemometer = true then { s with wind := s.wind.edge s.cfg.prescaler } else s

def execAnemometerEdge (s : State) : Host.Outcome State Fault Refusal := .next (anemometerEdge s)

/-! ## Stage 1: the vane interval and the filter (R117, R118) -/

/-- R117: the filter after a valid interval's mean. -/
def filterAfter (seedDue : Bool) (w mean : Int) : Int := if seedDue then 128 * mean else w - trunc w 128 + mean

/-- R117, R118: a valid interval. -/
def WindUnit.validInterval (w : WindUnit) : WindUnit :=
  let v := filterAfter w.seedDue w.filter (trunc w.sampleSum w.sampleCount)
  { w with filter := v, direction := trunc v 128, seedDue := false, vaneValid := true, invalidRun := 0,
           runOverruns := 0 }

/-- R117, R118: an invalid interval, before the tenth is judged. -/
def WindUnit.invalidInterval (w : WindUnit) : WindUnit :=
  { w with seedDue := true, invalidRun := countHeld 10 w.invalidRun,
           runOverruns := min 32767 (w.runOverruns + w.overruns) }

/-- R117: the accumulator cleared for the next interval. -/
def WindUnit.clearInterval (w : WindUnit) : WindUnit := { w with sampleSum := 0, sampleCount := 0, overruns := 0 }

/-- R117, R118: stage 1. -/
def closeVaneInterval (s : State) : State :=
  if s.cfg.vane = false then s
  else if 20 ≤ s.wind.sampleCount then { s with wind := s.wind.validInterval.clearInterval }
  else
    let w := s.wind.invalidInterval.clearInterval
    if w.invalidRun = 10 ∧ w.vaneValid = true then
      reportFault { s with wind := { w with vaneValid := false } } clsSense 1 .warn w.runOverruns
    else { s with wind := w }

/-! ## Stage 2: the twist encoder (R121) -/

/-- R121: a good read. -/
def goodTwist (v : Int) : Bool := decide (-14400 ≤ v ∧ v ≤ 14400)

/-- R121: stage 2. -/
def readTwist (encoder : Option Int) (s : State) : State :=
  if s.cfg.encoder = false then s
  else
    match encoder.filter goodTwist with
    | some v => { s with wind := { s.wind with ownTwist := some v, twistStatus := .valid } }
    | none =>
      let t := { s with wind := { s.wind with ownTwist := none, twistStatus := .invalid } }
      if s.wind.twistStatus = .invalid then t
      else reportFault t clsSense 3 .warn (match encoder with | some v => clip v 32767 | none => -32768)

/-! ## Stage 3: the anemometer window (R119, R120) -/

/-- R119: the own speed of a window. -/
def windowSpeed (count prescaler factor : Nat) : Nat := min 800 (count * prescaler * factor / 100)

/-- The larger of an optional value and another. -/
def largest : List Nat → Option Nat
  | [] => none
  | v :: rest => some (match largest rest with | some m => max v m | none => v)

/-- R120: the largest speed that a LIVE peer shows. -/
def State.peerSpeed (s : State) : Option Nat := largest (s.liveRecords.filterMap (·.2.windSpeed))

/-- R119: the window closed, and the status VALID from the first close on. -/
def WindUnit.closeWindow (w : WindUnit) (prescaler factor : Nat) : WindUnit :=
  { w with ownSpeed := some (windowSpeed w.edgeCount prescaler factor), edgeCount := 0, windowCount := 0,
           speedStatus := if w.speedStatus = .none then .valid else w.speedStatus }

/-- R120: a peer's wind makes an own speed below 10 suspect. -/
def suspectSpeed (own : Nat) (peer : Option Nat) : Bool :=
  decide (own < 10) && (match peer with | some v => decide (80 ≤ v) | none => false)

/-- R120: the own speed judged at a window close. -/
def judgeSpeed (own : Nat) (s : State) : State :=
  match s.wind.speedStatus with
  | .none => s
  | .valid =>
    if suspectSpeed own s.peerSpeed then
      if 60 ≤ s.wind.suspectRun + 1 then
        reportFault { s with wind := { s.wind with speedStatus := .invalid, suspectRun := 0 } } clsSense 2 .warn own
      else { s with wind := { s.wind with suspectRun := s.wind.suspectRun + 1 } }
    else { s with wind := { s.wind with suspectRun := 0 } }
  | .invalid =>
    if 10 ≤ own then
      if 10 ≤ s.wind.speedRecovery + 1 then
        { s with wind := { s.wind with speedStatus := .valid, speedRecovery := 0 } }
      else { s with wind := { s.wind with speedRecovery := s.wind.speedRecovery + 1 } }
    else { s with wind := { s.wind with speedRecovery := 0 } }

/-- R119, R120: stage 3 (assumptions 56, 57). -/
def closeAnemometerWindow (s : State) : State :=
  if s.cfg.anemometer = false then s
  else if 10 ≤ s.wind.windowCount + 1 then
    let w := s.wind.closeWindow s.cfg.prescaler s.cfg.speedFactor
    judgeSpeed (windowSpeed s.wind.edgeCount s.cfg.prescaler s.cfg.speedFactor) { s with wind := w }
  else { s with wind := { s.wind with windowCount := s.wind.windowCount + 1 } }

/-! ## Stage 4: the shared values (R122, R123) -/

/-- The largest less the smallest of a run of values; 0 for fewer than two. -/
def spread : List Int → Int
  | [] => 0
  | v :: rest => rest.foldl max v - rest.foldl min v

/-- R122: M for the directions of the sources. -/
def meanDirection (fs : List Int) : Option Int :=
  match fs with
  | [] => none
  | _ :: _ => some (trunc fs.sum fs.length)

/-- R122: the sources agree. -/
def sourcesAgree (fs : List Int) : Bool := decide (spread fs ≤ 150)

/-- R122, R123: stage 4, and the judging of the new shared twist by Yaw Control (R139, R143). -/
def formShared (s : State) : State :=
  let sources := s.windSources
  let fs := sources.filterMap (·.direction)
  let agree := sourcesAgree fs
  let t := { s with wind := { s.wind with
    misalignment := meanDirection fs,
    agreeing := agree,
    sharedSpeed := largest (sources.filterMap (·.speed)),
    sharedTwist := (sources.filterMap (·.twist)).head? } }
  judgeTwist (if s.wind.agreeing = true ∧ agree = false then reportNote t clsSense 4 (spread fs) else t)

/-! ## Stage 5: the storm flag (R124) -/

/-- R124: the storm flag and its runs. -/
def WindUnit.stormStep (w : WindUnit) (mode : PlantMode) : WindUnit :=
  let set := match w.sharedSpeed with | some v => if 250 ≤ v then countHeld 300 w.setRun else 0 | none => 0
  let clear := match w.sharedSpeed with | some v => if v < 200 then countHeld 6000 w.clearRun else 0 | none => 0
  if w.storm then
    if clear = 6000 ∧ mode ≠ .storm then { w with storm := false, setRun := 0, clearRun := clear }
    else { w with setRun := set, clearRun := clear }
  else if mode = .storm ∨ set = 300 then { w with storm := true, setRun := set, clearRun := 0 }
  else { w with setRun := set, clearRun := clear }

/-- R124: stage 5. -/
def updateStorm (s : State) : State := { s with wind := s.wind.stormStep s.demand.mode }

/-! ## The evaluation (R114) -/

/-- R114: the stages in their order. -/
def windStages (s : State) (encoder : Option Int) : State :=
  updateStorm (formShared (closeAnemometerWindow (readTwist encoder (closeVaneInterval s))))

/-- WIND_EVALUATION (R114). -/
def windEvaluation (s : State) (encoder : Option Int) : State :=
  if s.running = true ∧ s.wind.timer.reached s.now Config.evaluation = true then
    windStages { s with wind := { s.wind with timer := s.wind.timer.again Config.evaluation } } encoder
  else s

def execWindEvaluation (encoder : Option Int) (s : State) : Host.Outcome State Fault Refusal :=
  .next (windEvaluation s encoder)

end Sys2Proof.Machine
end

