-- ==== Sys2Proof/Machine/Yaw.lean ====
section
/-!
DEFINITION. Yaw Control's own commands: the 100 ms check with its triggers and inhibits (R128 to R131), proposing (R132, R133), and
the waits, brakes and motors of a session (R136 to R146).
-/
namespace Sys2Proof.Machine

/-! ## Dwell counters (R128) -/

/-- R128: a dwell counter, with the sign it counts, after a check. -/
def dwellAfter (threshold limit : Nat) (m : Option Int) (count : Nat) (positive : Bool) : Nat × Bool :=
  match m with
  | none => (0, positive)
  | some v =>
    if threshold ≤ v.natAbs then
      if decide (0 < v) = positive then (countHeld limit count, positive) else (1, decide (0 < v))
    else (0, positive)

/-- R128: both dwell counters. -/
def YawControl.dwell (y : YawControl) (m : Option Int) : YawControl :=
  let a := dwellAfter 80 100 m y.autoDwell y.autoPositive
  let b := dwellAfter 40 20 m y.stormDwell y.stormPositive
  { y with autoDwell := a.1, autoPositive := a.2, stormDwell := b.1, stormPositive := b.2 }

/-! ## Triggers (R129) -/

/-- R129: what a trigger names. -/
structure Trigger where
  mode : SessionMode
  direction : Direction
deriving DecidableEq, Repr

/-- CW reduces a positive misalignment. -/
def towardWind (m : Int) : Direction := if 0 < m then .cw else .ccw

/-- CW increases twist, so a positive twist is taken off CCW. -/
def againstTwist (t : Int) : Direction := if 0 < t then .ccw else .cw

/-- R129, row 1. -/
def State.stormTrigger (s : State) : Option Trigger :=
  match s.wind.misalignment with
  | some m => if s.wind.storm = true ∧ s.yaw.stormDwell = 20 then some ⟨.storm, towardWind m⟩ else none
  | none => none

/-- R129, row 2. -/
def State.orderTrigger (s : State) : Option Trigger :=
  match s.demand.order with
  | .turnCw => some ⟨.order, .cw⟩
  | .turnCcw => some ⟨.order, .ccw⟩
  | .auto | .hold | .untwist => none

/-- R129, row 3. -/
def State.untwistTrigger (s : State) : Option Trigger :=
  match s.wind.sharedTwist with
  | some t =>
    if s.demand.order = .untwist ∧ s.wind.storm = false ∧ 1800 < t.natAbs then some ⟨.untwist, againstTwist t⟩ else none
  | none => none

/-- R129, row 4. -/
def State.autoTrigger (s : State) : Option Trigger :=
  match s.wind.misalignment, s.wind.sharedSpeed with
  | some m, some v =>
    if s.demand.order = .auto ∧ s.yaw.autoDwell = 100 ∧ 30 ≤ v ∧ s.wind.agreeing = true ∧ s.wind.storm = false then
      some ⟨.auto, towardWind m⟩
    else none
  | _, _ => none

/-- R129: the first trigger that holds. -/
def State.trigger (s : State) : Option Trigger :=
  s.stormTrigger <|> s.orderTrigger <|> s.untwistTrigger <|> s.autoTrigger

/-! ## Inhibits (R131) -/

/-- R131: the inhibit of the twist limit. -/
def State.limitInhibits (s : State) (t : Trigger) : Bool := twistReached t.mode t.direction s.wind.sharedTwist

/-- R131: an entry state that holds the ring. -/
def EntryState.holdsRing : EntryState → Bool
  | .heard | .stale | .lost => true
  | .absent | .live => false

/-- R131: the lowest yaw-capable peer that is not LIVE. -/
def State.peerInhibits (s : State) : Option Nat := (s.yawPeers.find? (·.2.holdsRing)).map (·.1)

/-- R131: any inhibit holds for a trigger. -/
def State.inhibited (s : State) (t : Trigger) : Bool :=
  !s.yawCapable || !s.brakesHealthy || s.yawBarred || (t.mode != .storm && s.wind.sharedTwist.isNone) ||
    s.limitInhibits t || s.peerInhibits.isSome

/-- R131: at a check at which a trigger holds, the note of each inhibit that does not hold is armed again
(assumption 29). -/
def rearmNotes (s : State) (t : Trigger) : State :=
  { s with yaw := { s.yaw with
    noteYaw4 := s.yaw.noteYaw4 || !(s.limitInhibits t && t.mode != .storm),
    noteYaw5 := s.yaw.noteYaw5 || !(s.limitInhibits t && t.mode == .storm),
    noteYaw8 := s.yaw.noteYaw8 || s.peerInhibits.isNone } }

/-- R131: YAW 4 or YAW 5, once while its note is armed. -/
def logLimit (t : Trigger) (s : State) : State :=
  if s.limitInhibits t then
    let twist := s.wind.sharedTwist.getD 0
    if t.mode = .storm then
      if s.yaw.noteYaw5 then reportFault { s with yaw := { s.yaw with noteYaw5 := false } } clsYaw 5 .warn twist else s
    else if s.yaw.noteYaw4 then reportNote { s with yaw := { s.yaw with noteYaw4 := false } } clsYaw 4 twist
    else s
  else s

/-- R131: YAW 8, once while its note is armed. -/
def logPeer (s : State) : State :=
  match s.peerInhibits with
  | some n => if s.yaw.noteYaw8 then reportNote { s with yaw := { s.yaw with noteYaw8 := false } } clsYaw 8 n else s
  | none => s

/-- R131: the inhibits logged, the twist limit before the peer (assumption 61). -/
def logInhibits (t : Trigger) (s : State) : State := logPeer (logLimit t s)

/-! ## The check (R128) -/

/-- R129: a trigger is judged at a check of a station that takes part in sessions. -/
def State.judgesTriggers (s : State) : Bool :=
  s.isJoined && s.takesPart && s.yaw.state == .idle && s.yaw.stagger.isNone &&
    decide (s.yaw.hold.remaining s.now Config.yawHold = 0)

/-- R130: the budget (assumption 27). -/
def State.budgetNow (s : State) : Nat :=
  if s.demand.auxGrid then 28 else if s.demand.budget = 0 then s.cfg.backupBudget else s.demand.budget

/-- R130 to R132: a trigger that holds in ACTIVE, judged with the budget as it stands. -/
def forwardTrigger (s : State) (t : Trigger) : State :=
  let r := logInhibits t (rearmNotes s t)
  if s.inhibited t then r
  else
    { r with yaw := { r.yaw with
        stagger := some { since := s.now, mode := t.mode, direction := t.direction, budget := s.budgetNow } } }

/-- R129: the triggers judged; while QUIET_PENDING or QUIET one that holds is only a wake cause. -/
def judgeTriggers (s : State) : State :=
  if s.judgesTriggers then
    match s.trigger with
    | none => s
    | some t => if s.quiet.state = .active then forwardTrigger s t else wakeCause s
  else s

/-- R142: M is absent or near zero. -/
def nearZero (limit : Nat) (v : Option Int) : Bool :=
  match v with
  | none => true
  | some v => decide (v.natAbs ≤ limit)

/-- R142: the order that triggers a session of a mode and direction. -/
def orderOf : SessionMode → Direction → Option YawOrder
  | .auto, _ => some .auto
  | .untwist, _ => some .untwist
  | .order, .cw => some .turnCw
  | .order, .ccw => some .turnCcw
  | .storm, _ => none

/-- R142: the twist and order conditions of the modes other than STORM. -/
def State.orderStops (s : State) : Bool :=
  match orderOf s.yaw.session.mode s.yaw.session.direction with
  | none => false
  | some o => s.wind.sharedTwist.isNone || s.demand.order != o

/-- R142: the condition of the mode alone. -/
def State.modeStops (s : State) : Bool :=
  match s.yaw.session.mode with
  | .auto => nearZero 15 s.wind.misalignment
  | .storm => nearZero 10 s.wind.misalignment
  | .untwist => nearZero 900 s.wind.sharedTwist
  | .order => false

/-- R142: the drive time has reached 120 s. -/
def State.driveDone (s : State) : Bool := s.yaw.driveReached || s.yaw.driveTimer.reached s.now Config.driveTime

/-- R142: the proposer's stop conditions at a check. -/
def judgeProposer (s : State) : State :=
  if s.inSession = true ∧ s.yaw.session.proposer = s.own ∧
      (s.modeStops || s.orderStops || s.driveDone) = true then stopSession s
  else s

/-- YAW_CHECK (R128): dwell counters, triggers, then stop conditions (assumptions 31, 60). -/
def yawCheck (s : State) : State :=
  if (s.isJoined || s.isSilent) = true ∧ s.yaw.checkTimer.reached s.now Config.evaluation = true then
    let y := { s.yaw.dwell s.wind.misalignment with checkTimer := s.yaw.checkTimer.again Config.evaluation }
    judgeProposer (judgeTriggers { s with yaw := y })
  else s

def execYawCheck (s : State) : Host.Outcome State Fault Refusal := .next (yawCheck s)

/-! ## Proposing (R132, R133) -/

/-- R133: the expected set, ascending. -/
def State.expectedNow (s : State) : List Nat := (s.yawPeers.filter (fun p => p.2 == .live)).map (·.1)

/-- R133: the session record of a proposal, with the budget of its trigger (R130); its run count and start
time are 0 until the START (assumption 66). -/
def State.newSession (s : State) (g : Stagger) : Session where
  proposer := s.own
  tag := (s.yaw.proposalCounter + 1) % 256
  direction := g.direction
  mode := g.mode
  budget := g.budget
  twist := s.wind.sharedTwist
  expected := s.expectedNow
  answers := []
  allocation := []
  runCount := 0
  startTime := 0

/-- R133: the proposal made. -/
def propose (s : State) (g : Stagger) : State :=
  let x := s.newSession g
  let t := offerYaw { s with yaw := { s.yaw with proposalCounter := x.tag, session := x } }
    (.yawProposal x.tag x.mode.code x.direction.code x.budget x.twist)
  let t := setYaw { t with yaw := { t.yaw with answerWait := some t.now } } .proposing
  if x.expected = [] then allocateAndStart t else t

/-- STAGGER_EXPIRY (R132) (assumption 62). -/
def staggerExpiry (s : State) : State :=
  match s.yaw.stagger with
  | none => s
  | some g =>
    if s.isJoined = true ∧ s.yaw.state = .idle ∧ g.since + Config.staggerUnit * s.own ≤ s.now then
      let t : Trigger := ⟨g.mode, g.direction⟩
      let u := { s with yaw := { s.yaw with stagger := none } }
      if u.inhibited t then logInhibits t u else propose u g
    else s

def execStaggerExpiry (s : State) : Host.Outcome State Fault Refusal := .next (staggerExpiry s)

/-! ## Waits of a session (R136, R138, R140, R142) -/

/-- R136: the lowest member of the expected set that has not answered. -/
def Session.lowestMissing (x : Session) : Option Nat :=
  x.expected.find? (fun n => !x.answers.any (fun a => a.station == n))

/-- ANSWER_WAIT_EXPIRY (R136). -/
def answerWaitExpiry (s : State) : State :=
  if s.isJoined = true ∧ s.yaw.state = .proposing ∧ s.yaw.answerWait.reached s.now Config.answerWait = true then
    match s.yaw.session.lowestMissing with
    | some n => abandon s reasonNoAnswer n
    | none => s
  else s

def execAnswerWaitExpiry (s : State) : Host.Outcome State Fault Refusal := .next (answerWaitExpiry s)

/-- START_WAIT_EXPIRY (R138). -/
def startWaitExpiry (s : State) : State :=
  if s.isJoined = true ∧ s.yaw.state = .joined ∧ s.yaw.startWait.reached s.now Config.startWait = true then enterIdle s
  else s

def execStartWaitExpiry (s : State) : Host.Outcome State Fault Refusal := .next (startWaitExpiry s)

/-- RELEASE_WAIT_EXPIRY (R140). -/
def releaseWaitExpiry (s : State) : State :=
  if s.isJoined = true ∧ s.yaw.state = .releasing ∧ s.yaw.releaseWait.reached s.now Config.releaseWait = true then
    stopSession (reportFault s clsYaw 1 .warn 1)
  else s

def execReleaseWaitExpiry (s : State) : Host.Outcome State Fault Refusal := .next (releaseWaitExpiry s)

/-- DRIVE_TIME_EXPIRY (R142): the proposer stops the session at its next check. -/
def driveTimeExpiry (s : State) : State :=
  if s.isJoined = true ∧ s.yaw.state = .driving ∧ s.yaw.driveTimer.reached s.now Config.driveTime = true then
    { s with yaw := { s.yaw with driveTimer := none, driveReached := true } }
  else s

def execDriveTimeExpiry (s : State) : Host.Outcome State Fault Refusal := .next (driveTimeExpiry s)

/-! ## Brakes and motors (R139, R141, R143, R145) -/

/-- R139, R141, R145: the new brake feedback judged in the yaw state it finds. -/
def judgeBrakes (s : State) : State :=
  match s.yaw.state with
  | .releasing => judgeDriving s
  | .driving =>
    if s.pins.brakesReleased then s
    else stopSession (reportFault { s with yaw := s.yaw.motorsOff } clsYaw 1 .warn 2)
  | .stopping => if s.pins.brakesReleased = false ∧ s.yaw.applyWait.isSome = true then finishStopping s else s
  | .idle | .proposing | .joined => s

/-- BRAKE_FEEDBACK_CHANGE (R139). -/
def brakeFeedback (s : State) (released : Bool) : State :=
  let t := { s with pins := { s.pins with brakesReleased := released } }
  if s.isJoined then judgeBrakes t else t

def execBrakeFeedbackChange (released : Bool) (s : State) : Host.Outcome State Fault Refusal :=
  .next (brakeFeedback s released)

/-- R143: whether a motor's outputs are on. -/
def State.motorRuns (s : State) (motor : Nat) : Bool :=
  match s.yaw.motors.get? motor with
  | some .runCw | some .runCcw => true
  | some .off | none => false

/-- MOTOR_FAULT_INPUT (R143) (assumptions 32, 67). -/
def motorFaultInput (s : State) (motor : Nat) (active : Bool) : State :=
  let t := { s with pins := { s.pins with motorFault := s.pins.motorFault.set motor active } }
  if s.running = false then t
  else if active then
    if s.inSession = true ∧ s.motorRuns motor = true then
      stopSession (reportFault { t with yaw := { t.yaw with faultMotor := some motor } } clsYaw 3 .tripThread motor)
    else t
  else if s.yaw.faultMotor = some motor then
    endCondition { t with yaw := { t.yaw with faultMotor := none } } clsYaw 3
  else t

def execMotorFaultInput (motor : Nat) (active : Bool) (s : State) : Host.Outcome State Fault Refusal :=
  .next (motorFaultInput s motor active)

/-- BRAKE_DELAY_EXPIRY (R145): brakes that already read APPLIED end the stop at once. -/
def brakeDelayExpiry (s : State) : State :=
  if s.isJoined = true ∧ s.yaw.state = .stopping ∧ s.yaw.brakeDelay.reached s.now Config.brakeDelay = true then
    let t := { s with yaw := { s.yaw with release := false, brakeDelay := none, applyWait := some s.now } }
    if s.pins.brakesReleased then t else finishStopping t
  else s

def execBrakeDelayExpiry (s : State) : Host.Outcome State Fault Refusal := .next (brakeDelayExpiry s)

/-- APPLY_WAIT_EXPIRY (R145). -/
def applyWaitExpiry (s : State) : State :=
  if s.isJoined = true ∧ s.yaw.state = .stopping ∧ s.yaw.applyWait.reached s.now Config.applyWait = true then
    finishStopping (reportFault s clsYaw 2 .warn 0)
  else s

def execApplyWaitExpiry (s : State) : Host.Outcome State Fault Refusal := .next (applyWaitExpiry s)

/-- HOLD_TIMER_EXPIRY (R146) (assumption 11). -/
def holdTimerExpiry (s : State) : State :=
  if s.held = false ∧ s.yaw.hold.reached s.now Config.yawHold = true then { s with yaw := { s.yaw with hold := none } }
  else s

def execHoldTimerExpiry (s : State) : Host.Outcome State Fault Refusal := .next (holdTimerExpiry s)

end Sys2Proof.Machine
end

