-- ==== Sys2Proof/Machine/YawFrames.lean ====
section
/-!
DEFINITION. The YAW frames as Yaw Control takes them: proposals and answers (R134, R135), answers heard (R136), START (R138) and
STOP (R144), with the frames R188 has it ignore.
-/
namespace Sys2Proof.Machine

/-- A YAW PROPOSAL heard, read by R188. -/
structure Proposal where
  proposer : Nat
  tag : Nat
  mode : SessionMode
  direction : Direction
  budget : Nat
  twist : Option Int
deriving DecidableEq, Repr

/-! ## Answering (R135) -/

/-- R135: the reason of the first condition that fails, or 0 when all hold. -/
def State.refusal (s : State) (p : Proposal) : Nat :=
  if s.motorsReady = 0 ∨ s.yawBarred = true then reasonMotor
  else if s.brakesHealthy = false then reasonBrake
  else if (twistReached p.mode p.direction s.wind.sharedTwist || twistReached p.mode p.direction p.twist) = true then
    reasonTwist
  else if s.demand.order = .hold ∧ p.mode ≠ .storm then reasonHold
  else 0

/-- R135: the answer offered for a reason. -/
def offerAnswer (s : State) (p : Proposal) (reason : Nat) : State :=
  offerYaw s (.yawAnswer p.proposer p.tag (if reason = 0 then verdictReady else verdictRefuse)
    (if reason = 0 then s.motorsReady else 0) reason)

/-- R135: the session record of a station that answers READY; its run count and start time are 0 until the START
(assumption 66). -/
def Proposal.session (p : Proposal) : Session where
  proposer := p.proposer
  tag := p.tag
  direction := p.direction
  mode := p.mode
  budget := p.budget
  twist := p.twist
  expected := []
  answers := []
  allocation := []
  runCount := 0
  startTime := 0

/-- R134, R135: a proposal taken in Y_IDLE. -/
def answerProposal (s : State) (p : Proposal) : State :=
  let t := offerAnswer s p (s.refusal p)
  if s.refusal p = 0 then
    setYaw { t with yaw := { t.yaw with session := p.session, startWait := some t.now } } .joined
  else t

/-- R134: the session in hand left without a frame and without a hold, for a proposal taken as in Y_IDLE
(assumption 33). -/
def yieldTo (s : State) (p : Proposal) : State :=
  let y := { s.yaw.noTimers.motorsOff with session := { s.yaw.session with answers := [] } }
  quietTest (answerProposal (setYaw { s with yaw := y } .idle) p)

/-- R134: the proposal is new. -/
def State.newProposal (s : State) (p : Proposal) : Bool :=
  !(p.proposer == s.yaw.session.proposer && p.tag == s.yaw.session.tag)

/-- R134: a new proposal, by the yaw state (assumption 59). -/
def judgeProposal (s : State) (p : Proposal) : State :=
  match s.yaw.state with
  | .idle => answerProposal s p
  | .proposing => if p.proposer < s.own then yieldTo s p else s
  | .joined => if p.proposer ≤ s.yaw.session.proposer then yieldTo s p else s
  | .releasing | .driving | .stopping => offerAnswer s p reasonBusy

/-- R132: a proposal heard in Y_IDLE stops the stagger timer. -/
def dropStagger (s : State) : State := { s with yaw := { s.yaw with stagger := none } }

/-- R132, R134: a proposal heard (assumption 28). -/
def hearProposal (s : State) (p : Proposal) : State :=
  let t := dropStagger s
  if s.newProposal p then judgeProposal t p else t

/-- YAW_PROPOSAL_TAKEN (R134, R188) (assumptions 27, 72). -/
def takeProposal (s : State) (sender tag modeCode directionCode budget : Nat) (twist : Option Int) : State :=
  match SessionMode.ofCode modeCode, Direction.ofCode directionCode with
  | some mode, some direction =>
    if s.takesPart = true ∧ budget ≠ 0 then
      hearProposal s { proposer := sender, tag := tag, mode := mode, direction := direction, budget := budget,
                       twist := twist }
    else s
  | _, _ => s

/-! ## Answers heard (R136) -/

/-- R136: an answer added to the list. -/
def addAnswer (s : State) (a : Answer) : State :=
  { s with yaw := { s.yaw with session := { s.yaw.session with answers := s.yaw.session.answers ++ [a] } } }

/-- R136: an answer is taken into the list. -/
def State.takesAnswer (s : State) (sender proposer tag : Nat) : Bool :=
  s.takesPart && s.yaw.state == .proposing && proposer == s.own && tag == s.yaw.session.tag &&
    decide (sender ∈ s.yaw.session.expected) && !s.yaw.session.answers.any (fun a => a.station == sender)

/-- R136: every member of the expected set has answered READY. -/
def Session.complete (x : Session) : Bool :=
  x.expected.all (fun n => x.answers.any (fun a => a.station == n && a.ready))

/-- YAW_ANSWER_TAKEN (R136, R188) (assumption 45). -/
def takeAnswer (s : State) (sender proposer tag verdict offered reason : Nat) : State :=
  if (verdict = verdictReady ∨ verdict = verdictRefuse) ∧ s.takesAnswer sender proposer tag = true then
    let t := addAnswer s { station := sender, ready := verdict == verdictReady, offered := offered, reason := reason }
    if verdict = verdictRefuse then abandon t reason sender
    else if t.yaw.session.complete then allocateAndStart t
    else t
  else s

/-! ## START and STOP (R138, R144) -/

/-- R188: a list of a START that Yaw Control takes: strictly ascending stations, run counts of at most 4
(assumption 73). -/
def goodAllocation : List (Nat × Nat) → Bool
  | [] => true
  | (n, count) :: rest =>
    decide (count ≤ 4) && (match rest with | (m, _) :: _ => decide (n < m) | [] => true) && goodAllocation rest

/-- YAW_START_TAKEN (R138, R188). -/
def takeStart (s : State) (sender tag modeCode directionCode budget : Nat) (allocation : List (Nat × Nat)) : State :=
  if s.takesPart = true ∧ (SessionMode.ofCode modeCode).isSome = true ∧ (Direction.ofCode directionCode).isSome = true ∧
      budget ≠ 0 ∧ goodAllocation allocation = true ∧ s.yaw.state = .joined ∧ sender = s.yaw.session.proposer ∧
      tag = s.yaw.session.tag then
    match runCountOf allocation s.own with
    | some count =>
      enterReleasing { s with yaw := { s.yaw with session := { s.yaw.session with
        allocation := allocation, runCount := count, startTime := s.now } } }
    | none => enterIdle s
  else s

/-- YAW_STOP_TAKEN (R144). -/
def takeStop (s : State) (sender proposer tag : Nat) : State :=
  if s.takesPart = true ∧ proposer = s.yaw.session.proposer ∧ tag = s.yaw.session.tag then
    match s.yaw.state with
    | .proposing => abandon s reasonStopHeard sender
    | .joined => enterIdle s
    | .releasing | .driving => enterStopping s
    | .idle | .stopping => s
  else s

end Sys2Proof.Machine
end

