-- ==== Sys2Proof/Machine/Fault.lean ====
section
/-!
DEFINITION. The Fault Unit's own commands and the notices it takes: safety inputs (R150), peer notices (R156, R157), the 100 ms
evaluation (R158, R159, R161) and the lapse of an acknowledgement (R162).
-/
namespace Sys2Proof.Machine

/-! ## Safety inputs (R150) -/

/-- The input as last seen by the Fault Unit. -/
def FaultUnit.seen (f : FaultUnit) : SafetyInput → Bool
  | .emergencyStop => f.stopSeen
  | .arcOrFire => f.fireSeen

/-- The input as now seen. -/
def FaultUnit.see (f : FaultUnit) (input : SafetyInput) (active : Bool) : FaultUnit :=
  match input with
  | .emergencyStop => { f with stopSeen := active }
  | .arcOrFire => { f with fireSeen := active }

/-- The level of an input. -/
def Pins.safety (p : Pins) : SafetyInput → Bool
  | .emergencyStop => p.emergencyStop
  | .arcOrFire => p.arcOrFire

/-- An input at a new level. -/
def Pins.setSafety (p : Pins) (input : SafetyInput) (active : Bool) : Pins :=
  match input with
  | .emergencyStop => { p with emergencyStop := active }
  | .arcOrFire => { p with arcOrFire := active }

/-- R150: the code of the PLANT fault an input raises. -/
def safetyCode : SafetyInput → Nat
  | .emergencyStop => 1
  | .arcOrFire => 2

/-- R150: an input seen at a level. -/
def seeSafety (s : State) (input : SafetyInput) (active : Bool) : State :=
  let t := { s with fault := s.fault.see input active }
  if active = true ∧ s.fault.seen input = false then reportFault t clsPlant (safetyCode input) .tripNacelle 0
  else if active = false ∧ s.fault.seen input = true then endCondition t clsPlant (safetyCode input)
  else t

/-- SAFETY_INPUT_CHANGE (R150): watched from the acceptance of the image onward. -/
def safetyInputChange (s : State) (input : SafetyInput) (active : Bool) : State :=
  let t := { s with pins := s.pins.setSafety input active }
  if s.running then seeSafety t input active else t

def execSafetyInputChange (input : SafetyInput) (active : Bool) (s : State) : Host.Outcome State Fault Refusal :=
  .next (safetyInputChange s input active)

/-! ## Notices from peers (R156, R157) -/

/-- R156: the accept-mask bit of a class 1 to 8. -/
def State.accepts (s : State) (cls : Nat) : Bool := s.cfg.acceptMask.getLsbD (cls - 1)

/-- NOTICE_TAKEN and NACELLE_NOTICE_TAKEN (R156, R157). -/
def takeNotice (s : State) (sender : Nat) (n : Notice) : State :=
  if n.cls = 0 ∨ 8 < n.cls then s
  else if n.severity = Severity.tripNacelle.code then takeNacelleNotice s sender n
  else if s.accepts n.cls then
    enterRecord s sender n.cls n.code n.severity n.action (some n.detail) (some n.number)
  else s

/-! ## The evaluation (R158, R159, R161) -/

/-- R161, step 1: marks of stations out of the view cleared, and PLANT 6 removed when the view is empty. -/
def clearTaken (s : State) : State :=
  let t := { s with fault := { s.fault with
    taken := s.fault.taken.map (fun n m => m && decide (n ∈ s.nacelleView)) } }
  if s.nacelleView = [] then endCondition t clsPlant 6 else t

/-- R161: a latched cause whose ended mark is set. -/
def Cause.finished (c : Cause) : Bool := c.kind == .latched && c.ended

/-- R161, step 2. -/
def removeEnded (s : State) : State :=
  if s.fault.pendingAck.isSome then
    { s with fault := { s.fault with causes := s.fault.causes.filter (fun c => !c.finished) } }
  else s

/-- R161, step 3, R95: the release. -/
def releaseThread (s : State) : State :=
  if s.fault.pendingAck.isSome = true ∧ s.thread.state = .tripped ∧ s.fault.causes = [] then
    let t := enterOff s
    reportNote { t with fault := { t.fault with pendingAck := none } } clsPlant 7 0
  else s

/-- FAULT_EVALUATION (R161). -/
def faultEvaluation (s : State) : State :=
  if s.running = true ∧ s.fault.timer.reached s.now Config.evaluation = true then
    releaseThread (removeEnded (clearTaken
      { s with fault := { s.fault with timer := s.fault.timer.again Config.evaluation } }))
  else s

def execFaultEvaluation (s : State) : Host.Outcome State Fault Refusal := .next (faultEvaluation s)

/-- ACK_LAPSE (R162). -/
def ackLapse (s : State) : State :=
  if s.running = true ∧ s.fault.pendingAck.reached s.now Config.ackLapse = true then
    reportNote { s with fault := { s.fault with pendingAck := none } } clsPlant 4 s.fault.causes.length
  else s

def execAckLapse (s : State) : Host.Outcome State Fault Refusal := .next (ackLapse s)

end Sys2Proof.Machine
end

