-- ==== Sys2Proof/Machine/LogService.lean ====
section
/-!
DEFINITION. The log service: a LOG REQUEST taken (R168), the building of a LOG ENTRY (R169) and its offer (R17, R170), with the command
LOG_ENTRY_OFFER.
-/
namespace Sys2Proof.Machine

/-- R164: the oldest sequence number held. -/
def FaultLog.oldest (l : FaultLog) : Nat := l.overwritten + 1

/-- R168: a request for this station. -/
def FaultLog.request (l : FaultLog) (fromSequence count : Nat) : FaultLog :=
  let n := if count = 0 then 1 else min 16 count
  let first := max 1 fromSequence
  if l.newest < first then { l with cursor := .emptyDue, remaining := 1 }
  else if l.oldest ≤ first then { l with cursor := .answering, next := first, remaining := n, gap := false }
  else { l with cursor := .answering, next := l.oldest, remaining := n, gap := true }

/-- LOG_REQUEST_TAKEN (R168). -/
def takeLogRequest (s : State) (target fromSequence count : Nat) : State :=
  if target = s.own then { s with log := s.log.request fromSequence count } else s

/-- R169: the entry of a record. -/
def LogRecord.entry (r : LogRecord) (gap : Bool) : LogEntry where
  sequence := r.sequence
  stamp := r.stamp
  empty := false
  gap := gap
  origin := r.origin
  cls := r.cls
  code := r.code
  severity := r.severity
  action := r.action
  detail := r.detail
  noticeNumber := r.noticeNumber

/-- R169: the single entry of an EMPTY_DUE answer. -/
def emptyEntry (newest : Nat) : LogEntry where
  sequence := newest
  stamp := 0
  empty := true
  gap := false
  origin := 0
  cls := 0
  code := 0
  severity := 0
  action := 0
  detail := none
  noticeNumber := none

/-- R170, third row: the cursor at a record overwritten meanwhile moves to the oldest held and marks the skip. -/
def FaultLog.skip (l : FaultLog) : FaultLog :=
  if l.next < l.oldest then { l with next := l.oldest, gap := true } else l

/-- R170: the cursor after an entry the queue has taken. -/
def FaultLog.advance (l : FaultLog) : FaultLog :=
  { l with next := l.next + 1, remaining := l.remaining - 1, gap := false,
           cursor := if l.remaining ≤ 1 then .idle else .answering }

/-- R170: the cursor's next entry with the cursor after it; no entry where the answer ends, its
remaining count kept (assumption 64). -/
def FaultLog.nextEntry (l : FaultLog) : FaultLog × Option LogEntry :=
  match l.cursor with
  | .idle => (l, none)
  | .emptyDue => ({ l with cursor := .idle, remaining := 0 }, some (emptyEntry l.newest))
  | .answering =>
    match l.skip.records.find? (fun r => r.sequence == l.skip.next) with
    | some r => (l.skip.advance, some (r.entry l.skip.gap))
    | none => ({ l.skip with cursor := .idle }, none)

/-- R17, R170: the next entry offered, when the queue's conditions hold. -/
def offerLogEntry (s : State) : State :=
  if s.isJoined = true ∧ roomForLog s.link.queue = true then
    match s.log.nextEntry with
    | (l, some e) =>
      { s with log := l, link := { s.link with queue := insertSlot s.own (.logEntry e) s.link.queue } }
    | (l, none) => { s with log := l }
  else s

/-- LOG_ENTRY_OFFER (R170) (assumption 14). -/
def logEntryOffer (s : State) : State := offerLogEntry s

def execLogEntryOffer (s : State) : Host.Outcome State Fault Refusal := .next (logEntryOffer s)

end Sys2Proof.Machine
end

