-- ==== Sys2Proof/Machine/Quiet.lean ====
section
/-!
DEFINITION. Quiet control: the QUIET ORDER (R174), the entry into QUIET (R175), the marks of a wake call (R178), the recognition of a heard
call (R179) and the wake timer (R180).
-/
namespace Sys2Proof.Machine

/-- R174: an order taken into the interval and wake period. -/
def QuietControl.order (q : QuietControl) (interval wakePeriod : Nat) : QuietControl :=
  { q with interval := if interval = 0 then 1 else min 60 interval, wakePeriod := wakePeriod }

/-- QUIET_ORDER_TAKEN (R174). -/
def takeQuietOrder (s : State) (interval wakePeriod : Nat) : State :=
  if s.thread.state.quietable then
    let q := s.quiet.order interval wakePeriod
    match s.quiet.state with
    | .active => quietTest { s with quiet := { q with state := .pending } }
    | .pending => { s with quiet := q }
    | .quiet => { s with quiet := { q with wakeTimer := if wakePeriod = 0 then none else some s.now } }
  else s

/-- ENTRY_INTO_QUIET (R175) (assumption 12). -/
def entryIntoQuiet (s : State) : State := if s.held = false then quietTest s else s

def execEntryIntoQuiet (s : State) : Host.Outcome State Fault Refusal := .next (entryIntoQuiet s)

/-! ## The station's own call (R178) -/

/-- R178: the moment of the next mark; absent while it is the next idle. -/
def WakeCall.moment (c : WakeCall) : Option Nat := c.first.map (· + Config.callSpacing * c.done)

/-- R178: one more mark of the call made. -/
def WakeCall.advance (c : WakeCall) : WakeCall := { c with done := c.done + 1, waiting := false, markEnd := none }

/-- R178: a mark of the call driven. -/
def driveCallMark (s : State) (c : WakeCall) : State :=
  { s with link := { s.link with ownMark := some s.now },
           quiet := { s.quiet with call := some { c.advance with first := some (c.first.getD s.now) } } }

/-- R178: a heard mark stands as the call's mark; with the last one the call ends. -/
def standForMark (s : State) (c : WakeCall) : State :=
  if 3 ≤ c.done + 1 then returnToActive s else { s with quiet := { s.quiet with call := some c.advance } }

/-- R178: whether the run that keeps the line from being idle was heard as a mark (R3: idle comes 12 bit times
after it) (assumption 24). -/
def WakeCall.behindMark (c : WakeCall) (now : Nat) : Bool :=
  match c.markEnd with
  | none => false
  | some e => decide (now < e + Config.idleTime)

/-- R178: the moment of a mark, or the idle waited for; a mark on the line while the first one waits for the next idle
stands for none (assumption 68). -/
def callMarkDue (s : State) (c : WakeCall) (lineIdle : Bool) : State :=
  if lineIdle then driveCallMark s c
  else if c.first.isNone = true ∨ c.waiting = true then s
  else if c.behindMark s.now then standForMark s c
  else { s with quiet := { s.quiet with call := some { c with waiting := true } } }

/-- R178: whether a mark of the call is due. -/
def WakeCall.due (c : WakeCall) (now : Nat) : Bool :=
  decide (c.done < 3) && (match c.moment with | none => true | some m => decide (m ≤ now))

/-- WAKE_CALL_MARK (R178). -/
def wakeCallMark (s : State) (lineDominant : Bool) : State :=
  match s.quiet.call with
  | none => s
  | some c => if s.isJoined = true ∧ c.due s.now = true then callMarkDue s c (s.lineIdle lineDominant) else s

def execWakeCallMark (lineDominant : Bool) (s : State) : Host.Outcome State Fault Refusal :=
  .next (wakeCallMark s lineDominant)

/-- R178: the line has not become idle 1000 µs after a mark's moment: of a mark waited for, or of the last one driven,
whose run has not ended (assumption 35). -/
def WakeCall.overdue (c : WakeCall) (ownMark : Option Nat) (now : Nat) : Bool :=
  (decide (c.done < 3) && (c.waiting || c.first.isNone) && decide (c.moment.getD c.since + Config.callWindow ≤ now)) ||
    (decide (0 < c.done) && (match ownMark with | none => false | some m => decide (m + Config.callWindow ≤ now)))

/-- WAKE_CALL_GIVE_UP (R178). -/
def wakeCallGiveUp (s : State) : State :=
  match s.quiet.call with
  | none => s
  | some c => if s.isJoined = true ∧ c.overdue s.link.ownMark s.now = true then returnToActive s else s

def execWakeCallGiveUp (s : State) : Host.Outcome State Fault Refusal := .next (wakeCallGiveUp s)

/-- R178: a run heard as a mark during the call. -/
def callHearsMark (s : State) (c : WakeCall) : State :=
  if c.waiting then standForMark s c
  else { s with quiet := { s.quiet with call := some { c with markEnd := some s.now } } }

/-- R178: the run of a mark this station drove has ended; with the last one the call ends. -/
def ownMarkEnds (s : State) : State :=
  match s.quiet.call with
  | none => s
  | some c => if 3 ≤ c.done then returnToActive s else s

/-! ## A heard call (R179) -/

/-- R179: the call count after a mark. -/
def QuietControl.countMark (q : QuietControl) (firstBit : Nat) : Nat :=
  match q.callMark with
  | none => 1
  | some m => if 1 ≤ q.callCount ∧ firstBit ≤ m + Config.callStep then q.callCount + 1 else 1

/-- R179: a mark handed to quiet control with no call in progress. -/
def hearCallMark (s : State) (firstBit : Nat) : State :=
  let n := s.quiet.countMark firstBit
  if 3 ≤ n then returnToActive s
  else { s with quiet := { s.quiet with lastMark := some firstBit, callCount := n, callMark := some firstBit } }

/-- R178, R179: a mark heard in QUIET. -/
def quietHearsMark (s : State) (firstBit : Nat) : State :=
  match s.quiet.call with
  | none => hearCallMark s firstBit
  | some c => callHearsMark s c

/-! ## The wake timer (R180) -/

/-- WAKE_TIMER_EXPIRY (R180). -/
def wakeTimerExpiry (s : State) : State :=
  if s.running = true ∧ s.quiet.state = .quiet ∧
      s.quiet.wakeTimer.reached s.now (s.quiet.wakePeriod * Config.minute) = true then
    wakeCause { s with quiet := { s.quiet with wakeTimer := none } }
  else s

def execWakeTimerExpiry (s : State) : Host.Outcome State Fault Refusal := .next (wakeTimerExpiry s)

end Sys2Proof.Machine
end

