-- ==== Sys2Proof/Machine/Link.lean ====
section
/-!
DEFINITION. The Link Controller's commands: dominant runs (R2 to R4), receptions and their dispatch (R9, R18, R22), the error window
(R20), and the start and end of a sending (R11, R12).
-/
namespace Sys2Proof.Machine

/-! ## Dominant runs (R2, R4, R18, R29) -/

/-- R2, R3: a run of a class that began at a moment, as the receiver takes it: a frame or a reception it breaks is
counted, and the phase follows.  A correction of the broken frame's header is not counted here: only FRAME_RECEIVED
brings the levels that show it (assumption 18). -/
def receiveRun (s : State) (c : RunClass) (start : Nat) : State :=
  let phase := s.phaseAt start
  let t := { s with receiver := { s.receiver with phase := phaseAfterRun c phase } }
  if runBreaks c start phase then countDiscard t else t

/-- R3: the line is recessive from the end of a run on. -/
def endRun (s : State) : State := { s with receiver := { s.receiver with recessiveSince := some s.now } }

/-- R4: the line is dominant until the run's end. -/
def holdRun (s : State) : State := { s with receiver := { s.receiver with recessiveSince := none } }

/-- R18, R29: a heard mark handed to its owner. -/
def handMark (s : State) (firstBit : Nat) : State :=
  match s.link.state with
  | .listen => hearMark s firstBit
  | .joined => if s.keepsCadence then hearMark s firstBit else quietHearsMark s firstBit
  | .configRead | .configFault | .silent => s

/-- R26, R178: the run a station drove is not taken as a heard mark. -/
def endOwnMark (s : State) : State := ownMarkEnds { s with link := { s.link with ownMark := none } }

/-- DOMINANT_RUN_END (R2) (assumption 36). -/
def dominantRunEnd (s : State) (length : Nat) (early : Fin 4) : State :=
  if s.running then
    let c := classifyRun length
    let start := runStart s.now length early
    let t := endRun (receiveRun s c start)
    if s.link.ownMark.isSome then endOwnMark t
    else if c = .mark then handMark t start
    else t
  else s

def execDominantRunEnd (length : Nat) (early : Fin 4) (s : State) : Host.Outcome State Fault Refusal :=
  .next (dominantRunEnd s length early)

/-- R4: the report of a stuck run, at most once a second. -/
def reportStuck (s : State) : State :=
  let due := match s.link.lastStuckReport with
    | none => true
    | some t => decide (t + Config.stuckSpacing ≤ s.now)
  if due then reportFault { s with link := { s.link with lastStuckReport := some s.now } } clsLink 4 .warn 0 else s

/-- STUCK_DOMINANT (R2, R4): a reception in hand is broken as the run passes 24 (assumption 36). -/
def stuckDominant (s : State) (early : Fin 4) : State :=
  if s.running then reportStuck (holdRun (receiveRun s .stuck (runStart s.now 24 early))) else s

def execStuckDominant (early : Fin 4) (s : State) : Host.Outcome State Fault Refusal := .next (stuckDominant s early)

/-! ## Receptions (R9, R18, R22) -/

/-- ADDRESS_CLASH (R22, R51, R147, R172): SILENT, the queue emptied, the status timer stopped, the session and the log answer
ended, LINK 1 (assumptions 30, 41, 60). -/
def addressClash (s : State) : State :=
  let t := { s with link := { s.link with state := .silent, queue := [], listenTimer := none },
                    table := { s.table with statusTimer := none },
                    log := { s.log with cursor := .idle, remaining := 0 } }
  reportFault (endLocally t) clsLink 1 .tripThread s.own

/-- R18, R22: a good status in LISTEN, JOINED and SILENT. -/
def dispatchStatus (s : State) (sender : Nat) (r : StatusRecord) : State :=
  if sender = s.own then (if s.link.state = .silent then s else addressClash s) else takeStatus s sender r

/-- RECEIVE_DISPATCH (R18). -/
def dispatch (s : State) (sender : Nat) (f : Frame) : State :=
  let joined := s.link.state == .joined
  match f with
  | .threadStatus r => dispatchStatus s sender r
  | .plantDemand d => takeDemand s d
  | .faultNotice n => if s.link.state = .listen then s else takeNotice s sender n
  | .yawProposal tag mode direction budget twist =>
    if joined then takeProposal s sender tag mode direction budget twist else s
  | .yawAnswer proposer tag verdict offered reason =>
    if joined then takeAnswer s sender proposer tag verdict offered reason else s
  | .yawStart tag mode direction budget allocation =>
    if joined then takeStart s sender tag mode direction budget allocation else s
  | .yawStop proposer tag => if joined then takeStop s sender proposer tag else s
  | .quietOrder interval wakePeriod => if joined then takeQuietOrder s interval wakePeriod else s
  | .logRequest target fromSequence count => if joined then takeLogRequest s target fromSequence count else s
  | .logEntry _ => s

/-- R7, R19: a header taken after a one-bit correction, counted where FRAME_RECEIVED ends the reception
(assumption 18). -/
def countCorrection (corrected : Bool) (s : State) : State :=
  if corrected then { s with link := { s.link with corrected := countHeld 255 s.link.corrected } } else s

/-- R9, R19: how a reception ends. -/
def endReception (s : State) : Reception → State
  | .abandoned | .discarded => countDiscard s
  | .foreign => countDiscard { s with link := { s.link with foreign := countHeld 255 s.link.foreign } }
  | .good sender f => dispatch s sender f

/-- R3: the receiver at the end of a reception. -/
def leaveReception (r : Reception) (s : State) : State :=
  { s with receiver := { s.receiver with phase := r.phase s.now } }

/-- FRAME_RECEIVED (R9); the station's own frame on the line is taken through no check (R12, R18) (assumption 46). -/
def frameReceived (s : State) (levels : List Level) : State :=
  if s.running = true ∧ s.receives = true then
    endReception (countCorrection (receive levels).1 (leaveReception (receive levels).2 s)) (receive levels).2
  else s

def execFrameReceived (levels : List Level) (s : State) : Host.Outcome State Fault Refusal :=
  .next (frameReceived s levels)

/-- ERROR_WINDOW_END (R20). -/
def errorWindowEnd (s : State) : State :=
  if s.running = true ∧ s.link.errorWindow.reached s.now Config.window = true then
    { s with link := { s.link with lastWindow := s.link.windowDiscards, windowDiscards := 0,
                                   errorWindow := s.link.errorWindow.again Config.window } }
  else s

def execErrorWindowEnd (s : State) : Host.Outcome State Fault Refusal := .next (errorWindowEnd s)

/-! ## Sending (R11, R12, R14) -/

/-- R11: the head goes onto the line. -/
def startHead : List Slot → List Slot
  | [] => []
  | x :: rest => { x with onLine := true } :: rest

/-- R11: the conditions for starting the head of the queue. -/
def State.maySend (s : State) (lineDominant : Bool) : Bool :=
  s.isJoined && s.lineIdle lineDominant && !s.link.queue.isEmpty && !s.sending && !s.inGuard

/-- TRANSMIT_START (R11): the station drives the start bit. -/
def transmitStart (s : State) (lineDominant : Bool) : State :=
  if s.maySend lineDominant then
    { s with link := { s.link with queue := startHead s.link.queue },
             receiver := { phase := .abandoned, recessiveSince := none } }
  else s

def execTransmitStart (lineDominant : Bool) (s : State) : Host.Outcome State Fault Refusal :=
  .next (transmitStart s lineDominant)

/-- The frame on the line. -/
def onLineFrame (q : List Slot) : Option Frame := (q.find? (·.onLine)).map (·.frame)

/-- The queue without the frame on the line. -/
def removeOnLine (q : List Slot) : List Slot := q.filter (fun x => !x.onLine)

/-- R12: the frame on the line stays in the queue after lost contention. -/
def keepOnLine (q : List Slot) : List Slot := q.map (fun x => { x with onLine := false })

/-- R170, R175: a frame has left the queue (assumption 14). -/
def frameLeft (s : State) : State := quietTest (offerLogEntry s)

/-- R14: a status that lost contention leaves as superseded when a newer one is queued (assumption 69). -/
def supersededOnLine (q : List Slot) (f : Frame) : Bool := f.kind == 16 && q.any Slot.isStatus

/-- R12, R14: the sending of a frame has ended. -/
def endSending (s : State) (f : Frame) : Sending → State
  | .complete => frameLeft { s with link := { s.link with queue := removeOnLine s.link.queue } }
  | .corrupted => frameLeft { s with link := { s.link.lose 1 with queue := removeOnLine s.link.queue } }
  | .lost =>
    if supersededOnLine s.link.queue f then
      frameLeft { s with link := { s.link with queue := removeOnLine s.link.queue,
                                               superseded := countHeld 255 s.link.superseded } }
    else { s with link := { s.link with queue := keepOnLine s.link.queue } }

/-- R3, R12: the receiver at the end of a sending. -/
def leaveSending (f : Frame) (heard : List Level) (o : Sending) (s : State) : State :=
  { s with receiver := s.receiver.afterSending s.now (o.phase s.now (contentionLost s.own f heard)) heard }

/-- TRANSMIT_END (R12); levels that end nothing leave the frame on the line. -/
def transmitEnd (s : State) (heard : List Level) : State :=
  match onLineFrame s.link.queue with
  | none => s
  | some f =>
    if s.isJoined then
      match sendingOutcome s.own f heard with
      | none => s
      | some o => endSending (leaveSending f heard o s) f o
    else s

def execTransmitEnd (heard : List Level) (s : State) : Host.Outcome State Fault Refusal := .next (transmitEnd s heard)

end Sys2Proof.Machine
end

