-- ==== Sys2Proof/Machine/Startup.lean ====
section
/-!
DEFINITION. Resets (R182), the configuration image (R183, R184, R187), the entry into LISTEN (R185) and the entry into JOINED (R186).
-/
namespace Sys2Proof.Machine

/-! ## Resets (R182) -/

/-- Every block at its reset values; the waiting commands, the pins and the reset lines are as they are
(assumption 6). -/
def resetBlocks (s : State) : State := { State.reset with pending := s.pending, pins := s.pins, resets := s.resets }

/-- POWER_ON_RESET (R182). -/
def powerOnReset (s : State) : State := { resetBlocks s with resets := { s.resets with powerOnHeld := true } }

def execPowerOnReset (s : State) : Host.Outcome State Fault Refusal := .next (powerOnReset s)

/-- RESET_INPUT (R182). -/
def resetInput (s : State) : State := { resetBlocks s with resets := { s.resets with inputHeld := true } }

def execResetInput (s : State) : Host.Outcome State Fault Refusal := .next (resetInput s)

/-- The lines let go. -/
def powerOnGoes : ResetLines → Bool
  | .powerOn | .both => true
  | .resetInput => false

def inputGoes : ResetLines → Bool
  | .resetInput | .both => true
  | .powerOn => false

/-- R182: the lines held after a release, with the code of a release that leaves none held. -/
def ResetUnit.release (r : ResetUnit) (lines : ResetLines) : ResetUnit where
  powerOnHeld := r.powerOnHeld && !(powerOnGoes lines)
  inputHeld := r.inputHeld && !(inputGoes lines)
  code :=
    if (r.powerOnHeld && !(powerOnGoes lines)) || (r.inputHeld && !(inputGoes lines)) then r.code
    else if r.powerOnHeld && powerOnGoes lines then 1 else 2

/-- RESET_RELEASE (R182): with the last reset held, the millisecond count starts from 0 in CONFIG_READ. -/
def resetRelease (s : State) (lines : ResetLines) : State :=
  if s.held then { resetBlocks s with resets := s.resets.release lines } else s

def execResetRelease (lines : ResetLines) (s : State) : Host.Outcome State Fault Refusal :=
  .next (resetRelease s lines)

/-! ## The image (R183, R184, R187) -/

/-- R183: the sum of the image mod 256. -/
def imageSum (image : List Byte) : Nat := (image.map (·.toNat)).sum % 256

/-- R183: both checks of the image. -/
def imageAccepted (image : List Byte) : Bool :=
  decide (image.length = 32 ∧ imageSum image = 0 ∧ 1 ≤ field image 0 1 ∧ field image 0 1 ≤ 7)

/-- A field held in its range. -/
def clampNat (lo hi x : Nat) : Nat := max lo (min hi x)

/-- R184: the prescaler given. -/
def prescalerOf (x : Nat) : Nat := if x ≤ 1 then 1 else if x ≤ 4 then 4 else 16

/-- A flag bit of byte 4. -/
def imageFlag (image : List Byte) (bit : Nat) : Bool := field image 4 1 / 2 ^ bit % 2 == 1

/-- R184, spec 13: the values given to the blocks. -/
def ConfigValues.ofImage (image : List Byte) : ConfigValues where
  station := field image 0 1
  rated := clampNat 500 4000 (field image 1 2)
  motors := min 4 (field image 3 1)
  isolated := imageFlag image 0
  vane := imageFlag image 1
  anemometer := imageFlag image 2
  encoder := imageFlag image 3
  role := CoolingRole.ofImage (field image 5 1)
  tachMinimum := max 1 (field image 6 1)
  prescaler := prescalerOf (field image 7 1)
  speedFactor := clampNat 10 500 (field image 8 2)
  backupBudget := clampNat 1 28 (field image 10 1)
  acceptMask := BitVec.ofNat 8 (field image 11 1)

/-- R184: the rows of the table whose fields are clamped. -/
def clampedRows (image : List Byte) : List Nat :=
  (if 500 ≤ field image 1 2 ∧ field image 1 2 ≤ 4000 then [] else [1]) ++
  (if field image 3 1 ≤ 4 then [] else [2]) ++
  (if field image 5 1 ≤ 2 then [] else [3]) ++
  (if 1 ≤ field image 6 1 then [] else [4]) ++
  (if field image 7 1 = 1 ∨ field image 7 1 = 4 ∨ field image 7 1 = 16 then [] else [5]) ++
  (if 10 ≤ field image 8 2 ∧ field image 8 2 ≤ 500 then [] else [6]) ++
  (if 1 ≤ field image 10 1 ∧ field image 10 1 ≤ 28 then [] else [7])

/-- R183: the image rejected. -/
def rejectImage (s : State) (image : List Byte) : State :=
  { s with config := { image := image, values := none, faultOutput := true },
           link := { s.link with state := .configFault } }

/-- R41: the own entry at the entry into LISTEN (assumption 40). -/
def ownEntry : Entry StatusRecord := { Entry.initial with role := .thread, state := .live }

/-- ENTRY_INTO_LISTEN (R185): what begins in each block (assumptions 10, 46). -/
def enterListen (s : State) : State :=
  setCapability { s with
    link := { s.link with state := .listen, listenTimer := some s.now, errorWindow := some s.now },
    receiver := { phase := .abandoned, recessiveSince := some s.now },
    cadence := { s.cadence with timer := some s.now, reference := .seeking, seekCount := 0, earlyWindow := some s.now },
    table := { s.table with threads := s.table.threads.set s.own ownEntry, ageTimer := some s.now },
    cooling := { s.cooling with timer := some s.now },
    wind := { s.wind with timer := some s.now },
    fault := { s.fault with timer := some s.now } }

/-- START_RECORD (R167). -/
def startRecord (s : State) : State :=
  enterRecord s s.own clsSystem s.resets.code Severity.note.code FaultAction.logged.code (some s.own) none

/-- R184: one PLANT 5 WARN for each clamped field. -/
def reportClamped (rows : List Nat) (s : State) : State :=
  rows.foldl (fun (t : State) (row : Nat) => reportFault t clsPlant 5 .warn row) s

/-- R150, R184: a safety input found ACTIVE. -/
def seePin (input : SafetyInput) (s : State) : State :=
  if s.pins.safety input then seeSafety s input true else s

/-- R183 to R185, R167: the image accepted. -/
def acceptImage (s : State) (image : List Byte) : State :=
  let t := { s with config := { image := image, values := some (ConfigValues.ofImage image), faultOutput := false } }
  seePin .arcOrFire (seePin .emergencyStop (reportClamped (clampedRows image) (startRecord (enterListen t))))

/-- CONFIG_IMAGE_READ (R183): the 32 bytes, read once in CONFIG_READ. -/
def configImageRead (s : State) (image : List Byte) : State :=
  if s.held = false ∧ s.link.state = .configRead ∧ image.length = 32 then
    if imageAccepted image then acceptImage s image else rejectImage s image
  else s

def execConfigImageRead (image : List Byte) (s : State) : Host.Outcome State Fault Refusal :=
  .next (configImageRead s image)

/-! ## Joining (R37, R186) -/

/-- ENTRY_INTO_JOINED (R186), but for the evaluation and the cadence. -/
def enterJoined (s : State) : State :=
  { s with
    link := { s.link with state := .joined, listenTimer := none },
    table := { s.table with statusTimer := some s.now, changePending := true },
    thread := { s.thread with restartHold := some s.now, breakerOpenTimer := some s.now },
    yaw := { s.yaw with checkTimer := some s.now },
    cooling := { s.cooling with timer := some s.now } }

/-- R37: the expiry is taken at the moment of joining (assumptions 42, 70). -/
def State.takesExpiryAtJoining (s : State) : Bool :=
  s.cadence.reference == .seeking || decide (s.cadence.expiry < s.cadenceReading)

/-- R37: the beginning of the cadence at joining. -/
def beginCadence (s : State) (lineDominant : Bool) : State :=
  if s.takesExpiryAtJoining then takeExpiry s lineDominant else s

/-- LISTEN_TIMEOUT (R185, R186) (assumption 15). -/
def listenTimeout (s : State) (lineDominant : Bool) (inlet outlet : Option Int) : State :=
  if s.held = false ∧ s.link.state = .listen ∧ s.link.listenTimer.reached s.now Config.listenTime = true then
    beginCadence (coolingStages (enterJoined s) inlet outlet) lineDominant
  else s

def execListenTimeout (lineDominant : Bool) (inlet outlet : Option Int) (s : State) :
    Host.Outcome State Fault Refusal :=
  .next (listenTimeout s lineDominant inlet outlet)

end Sys2Proof.Machine
end

