-- ==== Sys2Proof/Machine/Dispatch.lean ====
section
/-!
DEFINITION. One arm per command of the table, each one call of its meaning.
-/
namespace Sys2Proof.Machine

def exec (i : Instr) (s : State) : Host.Outcome State Fault Refusal :=
  match i with
  | .powerOnReset => Sys2Proof.Machine.execPowerOnReset s
  | .resetInput => Sys2Proof.Machine.execResetInput s
  | .resetRelease lines => Sys2Proof.Machine.execResetRelease lines s
  | .configImageRead image => Sys2Proof.Machine.execConfigImageRead image s
  | .listenTimeout lineDominant inlet outlet => Sys2Proof.Machine.execListenTimeout lineDominant inlet outlet s
  | .dominantRunEnd length early => Sys2Proof.Machine.execDominantRunEnd length early s
  | .stuckDominant early => Sys2Proof.Machine.execStuckDominant early s
  | .frameReceived levels => Sys2Proof.Machine.execFrameReceived levels s
  | .errorWindowEnd => Sys2Proof.Machine.execErrorWindowEnd s
  | .transmitStart lineDominant => Sys2Proof.Machine.execTransmitStart lineDominant s
  | .transmitEnd heard => Sys2Proof.Machine.execTransmitEnd heard s
  | .cadenceExpiry lineDominant => Sys2Proof.Machine.execCadenceExpiry lineDominant s
  | .overdueMark lineDominant => Sys2Proof.Machine.execOverdueMark lineDominant s
  | .standInPeriod => Sys2Proof.Machine.execStandInPeriod s
  | .earlyMarkWindowEnd => Sys2Proof.Machine.execEarlyMarkWindowEnd s
  | .quietExchangeTimer => Sys2Proof.Machine.execQuietExchangeTimer s
  | .stackReply reply => Sys2Proof.Machine.execStackReply reply s
  | .stackReplyTimeout => Sys2Proof.Machine.execStackReplyTimeout s
  | .prechargeTimeout => Sys2Proof.Machine.execPrechargeTimeout s
  | .syncTimeout => Sys2Proof.Machine.execSyncTimeout s
  | .rideThroughRecovery => Sys2Proof.Machine.execRideThroughRecovery s
  | .rideThroughTooLong => Sys2Proof.Machine.execRideThroughTooLong s
  | .gridHealthyTimer => Sys2Proof.Machine.execGridHealthyTimer s
  | .restartHoldExpiry => Sys2Proof.Machine.execRestartHoldExpiry s
  | .ageingStep => Sys2Proof.Machine.execAgeingStep s
  | .statusBuild => Sys2Proof.Machine.execStatusBuild s
  | .coolingEvaluation inlet outlet => Sys2Proof.Machine.execCoolingEvaluation inlet outlet s
  | .tachPulse => Sys2Proof.Machine.execTachPulse s
  | .pwmPeriodEnd => Sys2Proof.Machine.execPwmPeriodEnd s
  | .vaneRisingEdge => Sys2Proof.Machine.execVaneRisingEdge s
  | .vaneFallingEdge => Sys2Proof.Machine.execVaneFallingEdge s
  | .vaneWrap => Sys2Proof.Machine.execVaneWrap s
  | .anemometerEdge => Sys2Proof.Machine.execAnemometerEdge s
  | .windEvaluation encoder => Sys2Proof.Machine.execWindEvaluation encoder s
  | .yawCheck => Sys2Proof.Machine.execYawCheck s
  | .staggerExpiry => Sys2Proof.Machine.execStaggerExpiry s
  | .answerWaitExpiry => Sys2Proof.Machine.execAnswerWaitExpiry s
  | .startWaitExpiry => Sys2Proof.Machine.execStartWaitExpiry s
  | .brakeFeedbackChange released => Sys2Proof.Machine.execBrakeFeedbackChange released s
  | .releaseWaitExpiry => Sys2Proof.Machine.execReleaseWaitExpiry s
  | .driveTimeExpiry => Sys2Proof.Machine.execDriveTimeExpiry s
  | .motorFaultInput motor active => Sys2Proof.Machine.execMotorFaultInput motor active s
  | .brakeDelayExpiry => Sys2Proof.Machine.execBrakeDelayExpiry s
  | .applyWaitExpiry => Sys2Proof.Machine.execApplyWaitExpiry s
  | .holdTimerExpiry => Sys2Proof.Machine.execHoldTimerExpiry s
  | .safetyInputChange input active => Sys2Proof.Machine.execSafetyInputChange input active s
  | .faultEvaluation => Sys2Proof.Machine.execFaultEvaluation s
  | .ackLapse => Sys2Proof.Machine.execAckLapse s
  | .logEntryOffer => Sys2Proof.Machine.execLogEntryOffer s
  | .entryIntoQuiet => Sys2Proof.Machine.execEntryIntoQuiet s
  | .wakeCallMark lineDominant => Sys2Proof.Machine.execWakeCallMark lineDominant s
  | .wakeCallGiveUp => Sys2Proof.Machine.execWakeCallGiveUp s
  | .wakeTimerExpiry => Sys2Proof.Machine.execWakeTimerExpiry s

end Sys2Proof.Machine
end

