-- ==== Sys2Proof/Safety.lean ====
section
/-!
DEFINITION. What the manual says holds at all times, as predicates of the state: the log (R166), the queue (R13 to R17), the
envelope (R72), the cause set (R149, R160, R23), yaw (R141, R143, R145), the cadence (R24, R34), the quiet state (R175, R176) and
the own entry (R41).
-/
namespace Sys2Proof

/-- R91, R92: a reply with both fault lines inactive and both voltages below their limits; the breaker is judged apart. -/
def StackReply.Calm (r : StackReply) : Prop :=
  r.overcurrent = false ∧ r.desaturation = false ∧ r.dcLink ≤ 1100 ∧ r.grid ≤ 1200

end Sys2Proof

namespace Sys2Proof.Machine

/-- R166: at most 64 records with consecutive ascending sequence numbers up to the newest, and the number held plus
the overwritten count equals the newest. -/
def FaultLog.Consecutive (l : FaultLog) : Prop :=
  l.records.length ≤ Config.logSize ∧
  l.records.length + l.overwritten = l.newest ∧
  l.newest ≤ Config.lastSequence ∧
  l.records.map (·.sequence) = List.range' (l.overwritten + 1) l.records.length

/-- R13 to R17: at most 8 frames in order of kind (and so of precedence byte), one at most on the line, one status at
most off the line, two LOG ENTRY frames at most, and none at all where the queue takes no offers. -/
def State.QueueKept (s : State) : Prop :=
  s.link.queue.length ≤ Config.queueSlots ∧
  (s.link.queue.map (·.frame.kind)).Pairwise (· ≤ ·) ∧
  (s.link.queue.filter (·.onLine)).length ≤ 1 ∧
  (s.link.queue.filter Slot.isStatus).length ≤ 1 ∧
  (s.link.queue.filter (fun x => x.frame.kind == 28)).length ≤ 2 ∧
  (s.takesOffers = false → s.link.queue = [])

/-- R72: the states in which both commands are zero. -/
def ThreadState.zeroCommands : ThreadState → Bool
  | .off | .precharge | .sync | .tripped => true
  | .run | .rideThrough | .stopping => false

/-- R75, R176: the states in which no period begins allotment, and the thread is OFF or TRIPPED. -/
def State.resting (s : State) : Bool :=
  s.quiet.state != .active || s.link.state == .configRead || s.link.state == .configFault || s.link.state == .listen

/-- R72: the commands lie in the circle of C_own and are zero in OFF, PRECHARGE, SYNC and TRIPPED; and a resting station's
thread is OFF or TRIPPED. -/
def State.EnvelopeKept (s : State) : Prop :=
  (s.allotment.pCommand : Int) * s.allotment.pCommand + s.allotment.qCommand * s.allotment.qCommand ≤
    (s.allotment.capability : Int) * s.allotment.capability ∧
  (s.thread.state.zeroCommands = true → s.allotment.pCommand = 0 ∧ s.allotment.qCommand = 0) ∧
  (s.resting = true → s.thread.state.quietable = true)

/-- R148: the fifteen faults that can enter the cause set, as class, code and kind. -/
def causeTable : List (Nat × Nat × CauseKind) :=
  [(clsStack, 1, .latched), (clsStack, 2, .latched), (clsStack, 3, .condition), (clsStack, 4, .condition),
   (clsStack, 5, .latched), (clsStack, 6, .latched), (clsStack, 7, .condition), (clsGrid, 1, .condition),
   (clsGrid, 2, .condition), (clsThermal, 1, .condition), (clsYaw, 3, .latched), (clsLink, 1, .condition),
   (clsPlant, 1, .latched), (clsPlant, 2, .latched), (clsPlant, 6, .condition)]

/-- R149, R152, R160, R23: no cause stands twice, each is a fault of R148 with its kind, a thread that is not TRIPPED holds
none, and a SILENT station holds LINK 1. -/
def State.CausesKept (s : State) : Prop :=
  (s.fault.causes.map (fun c => (c.cls, c.code))).Nodup ∧
  (∀ c ∈ s.fault.causes, (c.cls, c.code, c.kind) ∈ causeTable) ∧
  (s.thread.state ≠ .tripped → s.fault.causes = []) ∧
  (s.link.state = .silent → s.holdsCause clsLink 1 = true)

/-- The number of motors whose outputs are on. -/
def YawControl.running (y : YawControl) : Nat :=
  ([1, 2, 3, 4].filter (fun m => y.motors.get? m != some .off)).length

/-- R141, R143, R145, R147: motors run in Y_DRIVING only, at most the run count of them, with the brakes read RELEASED and
the shared twist short of the limit; the brakes are released only from Y_RELEASING to Y_STOPPING and never during the
apply wait; a session is in hand only while JOINED. -/
def State.YawKept (s : State) : Prop :=
  (s.yaw.state ≠ .idle → s.isJoined = true) ∧
  (s.yaw.state ≠ .driving → s.yaw.motors = PerMotor.all .off) ∧
  (s.yaw.state = .driving →
    s.pins.brakesReleased = true ∧ s.yaw.running ≤ s.yaw.session.runCount ∧
    twistReached s.yaw.session.mode s.yaw.session.direction s.wind.sharedTwist = false) ∧
  (s.yaw.release = true →
    (s.yaw.state = .releasing ∨ s.yaw.state = .driving ∨ s.yaw.state = .stopping) ∧ s.yaw.applyWait = none)

/-- R24, R31, R34: the offsets lie in 0 to 15999, the cadence count has 16 bits, and a SEEKING station has counted fewer
than 25 own periods.  The station number is at most 7. -/
def State.CadenceKept (s : State) : Prop :=
  s.own ≤ 7 ∧
  s.cadence.latchedOffset < Config.carrierCounts ∧
  s.cadence.pendingOffset < Config.carrierCounts ∧
  s.cadence.count < 65536 ∧
  s.cadence.seekCount ≤ Config.seekLimit ∧
  (s.cadence.reference = .seeking → s.cadence.seekCount < Config.seekLimit)

/-- R175 to R178, R38: QUIET_PENDING and QUIET are states of a JOINED station; in QUIET the cadence timer is stopped and the
thread is OFF or TRIPPED; and a call is in progress only while QUIET. -/
def State.QuietKept (s : State) : Prop :=
  (s.quiet.state ≠ .active → s.link.state = .joined ∧ s.thread.state.quietable = true) ∧
  (s.quiet.state = .quiet → s.cadence.timer = none) ∧
  (s.quiet.state ≠ .quiet → s.quiet.call = none ∧ s.quiet.wakeTimer = none ∧ s.thread.quietTimer = none)

/-- R41: from LISTEN on the own entry is LIVE, of role THREAD, with age 0. -/
def State.OwnEntryKept (s : State) : Prop :=
  (s.link.state = .listen ∨ s.link.state = .joined ∨ s.link.state = .silent) →
    ∃ e, s.table.threads.get? s.own = some e ∧ e.role = .thread ∧ e.state = .live ∧ e.age = 0

/-! ## What a command may be said to have done -/

/-- R166: one more record stands in the log, and it is this one. -/
def State.Logged (s t : State) (origin cls code severity action : Nat) (detail : Option Int)
    (noticeNumber : Option Nat) : Prop :=
  t.log.newest = s.log.newest + 1 ∧
  t.log.records.getLast? = some
    { sequence := s.log.newest + 1, stamp := millisecondCount s.now, origin := origin, cls := cls, code := code,
      severity := severity, action := action, detail := detail, noticeNumber := noticeNumber }

/-- A report can be logged and sent, and finds the station ACTIVE. -/
def State.CanReport (s : State) : Prop :=
  s.log.newest < Config.lastSequence ∧ s.link.queue.length < Config.queueSlots ∧ s.quiet.state = .active

/-- R15, R151, R155: a notice of the station's own has entered the queue, with the next notice number. -/
def State.Noticed (s t : State) (cls code severity action : Nat) (detail : Int) : Prop :=
  t.link.noticeCounter = (s.link.noticeCounter + 1) % 65536 ∧
  ∃ x ∈ t.link.queue, x.frame = .faultNotice
    { number := (s.link.noticeCounter + 1) % 65536, cls := cls, code := code, severity := severity, action := action,
      detail := detail, logSequence := t.log.newest % 65536 }

/-- R78, R94, R93, R151 to R154: a trip report has been taken: the cause held, the thread TRIPPED with its trip line driven,
its breaker-open time started and zero commands, and the record. -/
def State.Tripped (s t : State) (cls code : Nat) (detail : Int) : Prop :=
  t.thread.state = .tripped ∧ t.tripLine = true ∧ t.holdsCause cls code = true ∧
  (s.thread.state ≠ .tripped → t.thread.breakerOpenTimer = some s.now) ∧
  t.allotment = { s.allotment with pTarget := t.allotment.pTarget, qTarget := t.allotment.qTarget,
                                   pCommand := t.allotment.pCommand, qCommand := t.allotment.qCommand } ∧
  (s.thread.state ≠ .tripped → t.allotment.pCommand = 0 ∧ t.allotment.qCommand = 0 ∧
    t.allotment.pTarget = 0 ∧ t.allotment.qTarget = 0) ∧
  s.Logged t s.own cls code Severity.tripThread.code
    (if s.thread.state = .tripped then FaultAction.none.code else FaultAction.threadTripped.code) (some detail) none

/-- R166: among the records entered since `s` stands one of the station's own with these contents. -/
def State.Reports (s t : State) (cls code severity action : Nat) (detail : Int) : Prop :=
  ∃ r ∈ t.log.records, s.log.newest < r.sequence ∧ r.origin = s.own ∧ r.cls = cls ∧ r.code = code ∧
    r.severity = severity ∧ r.action = action ∧ r.detail = some detail ∧ r.noticeNumber = none

/-- No record of a class and code has been entered since `s`. -/
def State.NoReport (s t : State) (cls code : Nat) : Prop :=
  ∀ r ∈ t.log.records, s.log.newest < r.sequence → r.cls = cls → r.code ≠ code

/-- The log takes the records of one command whole: its sequence numbers stand 16 or more short of the last. -/
def State.LogOpen (s : State) : Prop := s.log.Consecutive ∧ s.log.newest + 16 ≤ Config.lastSequence

/-- R3: the receiver waits for idle after a frame taken whole. -/
def State.received (s : State) : State := { s with receiver := { s.receiver with phase := .awaitingIdle s.now } }

/-- R2, R19: the Link Controller after a dominant run of 16 bit times or more that began at a moment: a reception in
hand is broken by it and counted, and no other. -/
def State.linkAfterRun (s : State) (first : Nat) : LinkControl :=
  if s.phaseAt first = .receiving then { s.link with windowDiscards := min 65535 (s.link.windowDiscards + 1) } else s.link

/-- R177, R178, R181: a wake cause other than a recognised call has been taken, by the quiet state it found.  ACTIVE:
nothing; QUIET_PENDING: ACTIVE, the cadence untouched; QUIET and SILENT: the return to ACTIVE; QUIET and not SILENT: the
own call fixed from the last mark heard, unless one is in progress. -/
def State.WakeTaken (s t : State) : Prop :=
  (s.quiet.state = .active → t.quiet = s.quiet ∧ t.cadence = s.cadence) ∧
  (s.quiet.state = .pending → t.quiet = { s.quiet with state := .active } ∧ t.cadence = s.cadence) ∧
  (s.quiet.state = .quiet → s.link.state = .silent →
    t.quiet = { s.quiet with state := .active, wakeTimer := none, callCount := 0, callMark := none, lastMark := none,
                             call := none } ∧
    t.cadence = { s.cadence with reference := .seeking, seekCount := 0, timer := some s.now,
                                 expiry := Config.wakeExpiry, overdue := false } ∧
    t.table.changePending = true) ∧
  (s.quiet.state = .quiet → s.link.state ≠ .silent → t.cadence = s.cadence ∧
    (s.quiet.call.isSome = true → t.quiet = s.quiet) ∧
    (s.quiet.call = none → (∀ h, s.quiet.lastMark = some h → h + Config.callWindow ≤ s.now) →
      t.quiet = { s.quiet with
        call := some { done := 0, first := none, since := s.now, waiting := false, markEnd := none } }) ∧
    (∀ h, s.quiet.call = none → s.quiet.lastMark = some h → s.now < h + Config.callWindow →
      t.quiet = { s.quiet with
        call := some { done := 0, first := some (thirdMark s.now h - 8000), since := s.now, waiting := false,
                       markEnd := none } }))

/-- R99: what an evaluation makes of a sensor record for a reading. -/
def Sensor.Moved (before after : Sensor) (reading : Option Int) : Prop :=
  (∀ v, reading = some v → -400 ≤ v → v ≤ 1500 → after = { state := .valid, last := v, hold := 0 }) ∧
  ((reading = none ∨ ∃ v, reading = some v ∧ (v < -400 ∨ 1500 < v)) →
    after.last = before.last ∧
    (before.state = .notRead → after.state = .failed) ∧
    (before.state = .valid → after.state = .holding ∧ after.hold = 1) ∧
    (before.state = .holding → 10 ≤ before.hold → after.state = .failed) ∧
    (before.state = .holding → before.hold < 10 → after.state = .holding ∧ after.hold = before.hold + 1) ∧
    (before.state = .failed → after.state = .failed))

/-- R25, R32 to R34, R62 to R72, R93: a period has been begun from a restart point, with its exchange and the computation
of the next commands; the exchange bears the offset and the commands settled in the period before, and the first that
opens the breaker starts the breaker-open time. -/
def State.PeriodBegun (s t : State) (restart : Nat) : Prop :=
  t.cadence.timer = some restart ∧ t.cadence.overdue = false ∧ t.cadence.expiry = Config.cadence ∧
  t.cadence.count = (s.cadence.count + 1) % 65536 ∧
  t.cadence.latchedOffset = s.cadence.pendingOffset ∧
  t.cadence.pendingOffset =
    (if s.thread.state.switching = true then
      (s.switchingSet.filter (fun n => decide (n < s.own))).length * 16000 / s.switchingSet.length
     else 0) ∧
  t.thread.exchange.outstanding = true ∧ t.thread.exchange.begun = s.now ∧
  t.thread.exchange.sent.number = (s.thread.exchange.sent.number + 1) % 256 ∧
  t.thread.exchange.sent.active = s.allotment.pCommand ∧ t.thread.exchange.sent.reactive = s.allotment.qCommand ∧
  t.thread.exchange.sent.offset = s.cadence.pendingOffset ∧
  t.thread.breakerOpenTimer =
    (if t.thread.exchange.sent.breakerClosed = true then none
     else if s.thread.exchange.sent.breakerClosed = true then some s.now
     else s.thread.breakerOpenTimer) ∧
  t.allotment.capability = s.cfg.rated * s.cooling.factor / 1000 ∧ t.allotment = (allot s).allotment

/-! ## Frames that the layouts hold -/

/-- Spec 13: the fields of a THREAD STATUS lie in the widths and ranges of its layout. -/
def StatusRecord.Fits (r : StatusRecord) : Prop :=
  r.tag < 256 ∧ r.threadCode < 8 ∧ r.capability < 4096 ∧ r.yawCode < 8 ∧ -4096 ≤ r.active ∧ r.active < 4096 ∧
  r.motorsReady < 8 ∧ -4096 ≤ r.reactive ∧ r.reactive < 4096 ∧ r.heatLoad < 256 ∧ r.flowDemand < 128 ∧
  r.fanDemand < 128 ∧ r.proposer < 8 ∧ r.sessionTag < 256 ∧
  (∀ v, r.direction = some v → -1800 ≤ v ∧ v ≤ 1799) ∧ (∀ v, r.windSpeed = some v → v ≤ 800) ∧
  (∀ v, r.twist = some v → -14400 ≤ v ∧ v ≤ 14400) ∧ r.cadenceCount < 65536 ∧ r.lastWindow < 256 ∧ r.foreign < 256 ∧
  r.corrected < 256 ∧ r.losses < 256 ∧ r.superseded < 256

/-- A signed 16-bit field. -/
def Signed16 (v : Int) : Prop := -32768 ≤ v ∧ v < 32768

/-- R6, R10, spec 13: a frame whose fields lie in the widths and ranges of its layout, from a sender that may send its kind. -/
def Frame.Fits (sender : Nat) : Frame → Prop
  | .faultNotice n => 1 ≤ sender ∧ sender < 8 ∧ n.number < 65536 ∧ n.cls < 256 ∧ n.code < 256 ∧ n.severity < 256 ∧
      n.action < 256 ∧ Signed16 n.detail ∧ n.logSequence < 65536
  | .yawStop proposer tag => 1 ≤ sender ∧ sender < 8 ∧ proposer < 256 ∧ tag < 256
  | .yawStart tag mode direction budget allocation => 1 ≤ sender ∧ sender < 8 ∧ tag < 256 ∧ mode < 4 ∧ direction < 2 ∧
      budget < 256 ∧ 1 ≤ allocation.length ∧ allocation.length ≤ 7 ∧ ∀ p ∈ allocation, p.1 < 256 ∧ p.2 < 256
  | .yawAnswer proposer tag verdict offered reason => 1 ≤ sender ∧ sender < 8 ∧ proposer < 256 ∧ tag < 256 ∧
      verdict < 256 ∧ offered < 256 ∧ reason < 256
  | .yawProposal tag mode direction budget twist => 1 ≤ sender ∧ sender < 8 ∧ tag < 256 ∧ mode < 4 ∧ direction < 2 ∧
      budget < 256 ∧ ∀ v, twist = some v → -32768 < v ∧ v < 32768
  | .plantDemand d => sender = 0 ∧ d.tag < 256 ∧ d.modeCode < 256 ∧ d.auxCode < 256 ∧ Signed16 d.active ∧
      Signed16 d.reactive ∧ d.orderCode < 256 ∧ d.budget < 256 ∧ d.ackTag < 256
  | .threadStatus r => 1 ≤ sender ∧ sender < 8 ∧ r.Fits
  | .quietOrder interval wakePeriod => sender = 0 ∧ interval < 256 ∧ wakePeriod < 256
  | .logRequest target fromSequence count => sender = 0 ∧ target < 256 ∧ fromSequence < 4294967296 ∧ count < 256
  | .logEntry e => 1 ≤ sender ∧ sender < 8 ∧ e.sequence < 4294967296 ∧ e.stamp < 4294967296 ∧ e.origin < 8 ∧
      e.cls < 256 ∧ e.code < 256 ∧ e.severity < 256 ∧ e.action < 256 ∧ (∀ v, e.detail = some v → Signed16 v) ∧
      ∀ v, e.noticeNumber = some v → v < 65536

/-- R7: bit `i` of a header inverted: bits 0 to 7 of byte 0, of byte 1, and c0 to c5 of the header check. -/
def flipHeader (i : Nat) (h : Byte × Byte × Byte) : Byte × Byte × Byte :=
  if i < 8 then (h.1 ^^^ (1#8 <<< i), h.2.1, h.2.2)
  else if i < 16 then (h.1, h.2.1 ^^^ (1#8 <<< (i - 8)), h.2.2)
  else (h.1, h.2.1, h.2.2 ^^^ (1#8 <<< (i - 16)))

end Sys2Proof.Machine
end

