-- ==== Sys2Proof/Certificates/Slice0/Obligations.lean ====
section
/-!
DEFINITION. The statements for the provers, one `Obligations.<Name>` each, in the order of OBLIGATIONS.json.  Each
docstring names the rules of the spec the statement formalises, and the entries of the assumption log where a clause is
the model's own choice.
-/

open Sys2Proof Sys2Proof.Machine

/-! ## The step, resets and start-up -/

/-- The model's own interface (assumptions 1 and 5): a step is the command at the front of the queue, executed on the
state with the rest of the queue; with no command waiting the part's clock counts one step of 25 ns, unless a reset is
held. -/
def Obligations.StepRunsFrontCommand : Prop :=
  (∀ (c : Instr) (s : State), step { s with pending := c :: s.pending } = exec c s) ∧
  (∀ s : State, s.pending = [] → s.held = false → step s = .next { s with now := s.now + 1 }) ∧
  (∀ s : State, s.pending = [] → s.held = true → step s = .next s)

/-- Every command answers a next state in every state, leaving the waiting commands alone (assumptions 1 and 4). But
for resets the reset lines and the clock stay, and the configuration too but for the reading of the image; the plant
inputs move only by the three commands that report them (R182, R183; assumption 6). -/
def Obligations.EveryCommandCompletes : Prop :=
  ∀ (c : Instr) (s : State), ∃ t, exec c s = .next t ∧ t.pending = s.pending ∧
    (c ≠ .powerOnReset → c ≠ .resetInput → (∀ lines, c ≠ .resetRelease lines) →
      t.resets = s.resets ∧ t.now = s.now ∧ ((∀ image, c ≠ .configImageRead image) → t.config = s.config)) ∧
    ((∀ r, c ≠ .brakeFeedbackChange r) → (∀ m a, c ≠ .motorFaultInput m a) → (∀ i a, c ≠ .safetyInputChange i a) →
      t.pins = s.pins)

/-- A frame over all commands but resets and the reading of the image: the Cooling Unit, the Wind Input Unit, the
receiver, the entries of the Peer Table, the reply record, the carrier offsets and the log cursor are changed by the
commands of their own rules only, and the yaw motor outputs are started by the commands of R139 only, any other
leaving them or turning all off. -/
def Obligations.BlocksMovedByTheirCommandsOnly : Prop :=
  ∀ (c : Instr) (s t : State), exec c s = .next t → c ≠ .powerOnReset → c ≠ .resetInput →
    (∀ lines, c ≠ .resetRelease lines) → (∀ image, c ≠ .configImageRead image) →
    ((∀ d i o, c ≠ .listenTimeout d i o) → (∀ i o, c ≠ .coolingEvaluation i o) → c ≠ .tachPulse → c ≠ .pwmPeriodEnd →
      t.cooling = s.cooling) ∧
    (c ≠ .vaneRisingEdge → c ≠ .vaneFallingEdge → c ≠ .vaneWrap → c ≠ .anemometerEdge → (∀ e, c ≠ .windEvaluation e) →
      t.wind = s.wind) ∧
    ((∀ n x, c ≠ .dominantRunEnd n x) → (∀ x, c ≠ .stuckDominant x) → (∀ levels, c ≠ .frameReceived levels) →
      (∀ d, c ≠ .transmitStart d) → (∀ heard, c ≠ .transmitEnd heard) → t.receiver = s.receiver) ∧
    ((∀ levels, c ≠ .frameReceived levels) → c ≠ .ageingStep →
      t.table.controller = s.table.controller ∧ (c ≠ .statusBuild → t.table.threads = s.table.threads)) ∧
    ((∀ r, c ≠ .stackReply r) → t.thread.reply = s.thread.reply) ∧
    ((∀ n x, c ≠ .dominantRunEnd n x) → (∀ d, c ≠ .cadenceExpiry d) → (∀ d, c ≠ .overdueMark d) → c ≠ .standInPeriod →
      (∀ d i o, c ≠ .listenTimeout d i o) →
      t.cadence.latchedOffset = s.cadence.latchedOffset ∧ t.cadence.pendingOffset = s.cadence.pendingOffset) ∧
    ((∀ levels, c ≠ .frameReceived levels) → (∀ heard, c ≠ .transmitEnd heard) → c ≠ .logEntryOffer →
      t.log.cursor = s.log.cursor ∧ t.log.next = s.log.next ∧ t.log.remaining = s.log.remaining) ∧
    ((∀ levels, c ≠ .frameReceived levels) → c ≠ .brakeFeedbackChange true → (∀ e, c ≠ .windEvaluation e) →
      t.yaw.motors = s.yaw.motors ∨ t.yaw.motors = PerMotor.all .off)

/-- R182: while either reset is held every block stands at its reset values; a release that leaves no line held notes
which kind went last, power-on reset if both went at once. The plant inputs and the waiting commands are kept over a
reset, and a release with none held does nothing: the model's choices (assumptions 1, 4 and 6). -/
def Obligations.ResetsRaisedAndReleased : Prop :=
  (∀ s : State, exec .powerOnReset s = .next { State.reset with
      pending := s.pending, pins := s.pins, resets := { s.resets with powerOnHeld := true } }) ∧
  (∀ s : State, exec .resetInput s = .next { State.reset with
      pending := s.pending, pins := s.pins, resets := { s.resets with inputHeld := true } }) ∧
  (∀ (s : State) (lines : ResetLines), s.held = false → exec (.resetRelease lines) s = .next s) ∧
  (∀ (s : State) (lines : ResetLines), s.held = true → ∃ t, exec (.resetRelease lines) s = .next t ∧
    t = { State.reset with pending := s.pending, pins := s.pins, resets := t.resets } ∧
    (t.resets.powerOnHeld = true ↔ s.resets.powerOnHeld = true ∧ lines = .resetInput) ∧
    (t.resets.inputHeld = true ↔ s.resets.inputHeld = true ∧ lines = .powerOn) ∧
    (t.held = true → t.resets.code = s.resets.code) ∧
    (t.held = false →
      t.resets.code = if s.resets.powerOnHeld = true ∧ lines ≠ .resetInput then 1 else 2))

/-- The model's state after a power-on reset (assumption 1) meets every invariant stated in this file, is in
CONFIG_READ with reset code 1, drives neither the trip line, the brakes, the motors, the actuator nor the config-fault
output, and holds nothing in its queue, cause set and log; the thread is OFF, yaw in Y_IDLE, and the quiet state
ACTIVE. -/
def Obligations.ResetMeetsEveryInvariant : Prop :=
  State.reset.log.Consecutive ∧ State.reset.QueueKept ∧ State.reset.EnvelopeKept ∧ State.reset.CausesKept ∧
  State.reset.YawKept ∧ State.reset.CadenceKept ∧ State.reset.QuietKept ∧ State.reset.OwnEntryKept ∧
  State.reset.link.state = .configRead ∧ State.reset.resets.code = 1 ∧ State.reset.tripLine = false ∧
  State.reset.yaw.release = false ∧ State.reset.yaw.motors = PerMotor.all .off ∧
  State.reset.cooling.runningDuty = 0 ∧ State.reset.cooling.nextDuty = 0 ∧ State.reset.config.faultOutput = false ∧
  State.reset.link.queue = [] ∧ State.reset.fault.causes = [] ∧ State.reset.log.records = [] ∧
  State.reset.quiet.state = .active ∧ State.reset.thread.state = .off ∧ State.reset.yaw.state = .idle

/-- R183: an image whose sum is not 0 mod 256, or whose station number is not 1 to 7, gives CONFIG_FAULT with the
config-fault output on and no value given. R183 to R185, R167, R41, R62: one that passes both checks is given to the
blocks, the station enters LISTEN with its timers started, its own entry LIVE and C_own set; with no safety input
active the log then holds the START record and one PLANT 5 WARN for each clamped field in the order of the table. The
receiver then ignores the line until it is first idle (assumptions 10 and 46). R184: the value each field of the image
is given at, inside and outside its range, and the rows of the fields that are clamped, in ascending order. R184, spec
13: the flags of byte 4 and the accept mask have no range. R150, R184: a safety input found ACTIVE then is recorded
last, PLANT 1 before PLANT 2, its cause held and the thread TRIPPED; of more than eight notices the last is dropped
with LINK 5 NOTE (R15). -/
def Obligations.ImageTaken : Prop :=
  (∀ (s : State) (first : Byte) (rest : List Byte), s.held = false → s.link.state = .configRead → rest.length = 31 →
      ((first.toNat + (rest.map (·.toNat)).sum) % 256 ≠ 0 ∨ first.toNat = 0 ∨ 7 < first.toNat) →
      exec (.configImageRead (first :: rest)) s = .next { s with
        config := { image := first :: rest, values := none, faultOutput := true },
        link := { s.link with state := .configFault } }) ∧
  (∀ (s : State) (first : Byte) (rest : List Byte), s.held = false → s.link.state = .configRead → rest.length = 31 →
      (first.toNat + (rest.map (·.toNat)).sum) % 256 = 0 → 1 ≤ first.toNat → first.toNat ≤ 7 →
      s.pins.emergencyStop = false → s.pins.arcOrFire = false → s.log = FaultLog.initial → s.link.queue = [] →
      s.quiet.state = .active →
      ∃ t, exec (.configImageRead (first :: rest)) s = .next t ∧
        t = { s with config := t.config, receiver := t.receiver, link := t.link, cadence := t.cadence,
                     table := t.table, allotment := t.allotment, cooling := t.cooling,
                     wind := t.wind, fault := t.fault, log := t.log } ∧
        t.config = { image := first :: rest, values := some (ConfigValues.ofImage (first :: rest)),
                     faultOutput := false } ∧
        t.own = first.toNat ∧
        t.link.state = .listen ∧ t.link.listenTimer = some s.now ∧ t.link.errorWindow = some s.now ∧
        t.receiver = { phase := .abandoned, recessiveSince := some s.now } ∧
        t.cadence = { s.cadence with timer := some s.now, reference := .seeking, seekCount := 0,
                                     earlyWindow := some s.now } ∧
        t.table = { s.table with
          ageTimer := some s.now,
          threads := s.table.threads.set first.toNat
            ({ role := .thread, state := .live, age := 0, good := 0, record := none, lastTag := none } :
              Entry StatusRecord) } ∧
        t.allotment = { s.allotment with
          capability := (ConfigValues.ofImage (first :: rest)).rated * s.cooling.factor / 1000 } ∧
        t.cooling = { s.cooling with timer := some s.now } ∧ t.wind = { s.wind with timer := some s.now } ∧
        t.fault = { s.fault with timer := some s.now } ∧
        t.log.records.map (fun r => (r.cls, r.code, r.severity, r.action, r.detail)) =
          (0, s.resets.code, 0, 1, some (first.toNat : Int)) ::
            (clampedRows (first :: rest)).map (fun (row : Nat) => (8, 5, 1, 1, some (row : Int)))) ∧
  (∀ image : List Byte,
      let v := ConfigValues.ofImage image
      (v.rated = if field image 1 2 < 500 then 500 else if 4000 < field image 1 2 then 4000 else field image 1 2) ∧
      (v.motors = if 4 < field image 3 1 then 4 else field image 3 1) ∧
      (v.role = if field image 5 1 = 1 then .pump else if field image 5 1 = 2 then .fan else .none) ∧
      (v.tachMinimum = if field image 6 1 = 0 then 1 else field image 6 1) ∧
      (v.prescaler = if field image 7 1 ≤ 1 then 1 else if field image 7 1 ≤ 4 then 4 else 16) ∧
      (v.speedFactor = if field image 8 2 < 10 then 10 else if 500 < field image 8 2 then 500 else field image 8 2) ∧
      (v.backupBudget = if field image 10 1 = 0 then 1 else if 28 < field image 10 1 then 28 else field image 10 1) ∧
      (v.station = field image 0 1) ∧
      (v.isolated = true ↔ field image 4 1 % 2 = 1) ∧ (v.vane = true ↔ field image 4 1 / 2 % 2 = 1) ∧
      (v.anemometer = true ↔ field image 4 1 / 4 % 2 = 1) ∧ (v.encoder = true ↔ field image 4 1 / 8 % 2 = 1) ∧
      v.acceptMask.toNat = field image 11 1 ∧
      (∀ row, row ∈ clampedRows image ↔
        (row = 1 ∧ v.rated ≠ field image 1 2) ∨ (row = 2 ∧ v.motors ≠ field image 3 1) ∨
        (row = 3 ∧ 2 < field image 5 1) ∨ (row = 4 ∧ v.tachMinimum ≠ field image 6 1) ∨
        (row = 5 ∧ v.prescaler ≠ field image 7 1) ∨ (row = 6 ∧ v.speedFactor ≠ field image 8 2) ∨
        (row = 7 ∧ v.backupBudget ≠ field image 10 1)) ∧
      (clampedRows image).Pairwise (· < ·)) ∧
  (∀ (s : State) (first : Byte) (rest : List Byte), s.held = false → s.link.state = .configRead → rest.length = 31 →
      (first.toNat + (rest.map (·.toNat)).sum) % 256 = 0 → 1 ≤ first.toNat → first.toNat ≤ 7 →
      s.log = FaultLog.initial → s.link.queue = [] → s.quiet.state = .active → s.yaw.state = .idle →
      s.fault.stopSeen = false → s.fault.fireSeen = false →
      let rows := clampedRows (first :: rest)
      let found := (if s.pins.emergencyStop = true then [1] else []) ++ (if s.pins.arcOrFire = true then [2] else [])
      ∃ t, exec (.configImageRead (first :: rest)) s = .next t ∧ t.link.state = .listen ∧ t.own = first.toNat ∧
        t.fault.stopSeen = s.pins.emergencyStop ∧ t.fault.fireSeen = s.pins.arcOrFire ∧
        (∀ code ∈ found, t.holdsCause clsPlant code = true) ∧
        (found ≠ [] → t.thread.state = .tripped ∧ t.tripLine = true) ∧
        (found = [] → t.fault.causes = s.fault.causes ∧ t.thread.state = s.thread.state) ∧
        t.link.queue.map (·.frame.kind) = List.replicate (min 8 (rows.length + found.length)) 2 ∧
        t.log.records.map (fun r => (r.cls, r.code, r.severity, r.action, r.detail)) =
          (0, s.resets.code, 0, 1, some (first.toNat : Int)) ::
            (rows.map (fun (row : Nat) => (8, 5, 1, 1, some (row : Int))) ++
             found.map (fun (code : Nat) => (8, code, 3, 3, some 0)) ++
             (if 8 < rows.length + found.length then [(6, 5, 0, 1, some 802)] else [])))

/-- R185, R186, R37, R95, R98: after 50 ms in LISTEN the station is JOINED with its timers started, and its cadence
begins: a LOCKED station whose timer has not passed its expiry keeps its timer; any other drives its first mark on a
recessive line, and is overdue on a dominant one (a reference SEEKING again after LINK 2 in LISTEN among them:
assumption 70; the expiry is taken in the same command: assumption 15). -/
def Obligations.ListenEndsInJoined : Prop :=
  ∀ (s : State) (dominant : Bool) (inlet outlet : Option Int) (t0 : Nat),
    s.held = false → s.link.state = .listen → s.link.listenTimer = some t0 → t0 + Config.listenTime ≤ s.now →
    s.quiet.state = .active → s.thread.state.quietable = true →
    ∃ t, exec (.listenTimeout dominant inlet outlet) s = .next t ∧
      t.link.state = .joined ∧ t.link.listenTimer = none ∧
      t.table.statusTimer = some s.now ∧ t.table.changePending = true ∧
      t.thread.restartHold = some s.now ∧ t.thread.breakerOpenTimer = some s.now ∧
      t.yaw.checkTimer = some s.now ∧ t.cooling.timer = some s.now ∧ t.wind = s.wind ∧
      (s.cadence.reference = .locked → s.cadenceReading ≤ s.cadence.expiry →
        t.cadence = s.cadence ∧ t.link.ownMark = s.link.ownMark) ∧
      ((s.cadence.reference = .seeking ∨ s.cadence.expiry < s.cadenceReading) → s.cadence.overdue = false →
        (dominant = true → t.cadence = { s.cadence with overdue := true } ∧ t.link.ownMark = s.link.ownMark) ∧
        (dominant = false → t.link.ownMark = some s.now ∧ t.cadence.timer = some s.now ∧
          t.cadence.count = (s.cadence.count + 1) % 65536 ∧ t.cadence.expiry = Config.cadence))

/-! ## The link -/

/-- R2, R3: at the end of a dominant run the receiver, by its phase at the run's first bit and by the idle before it,
receives on, abandons, waits or ignores. R2, R19: the window count of discards rises for each frame or reception the
run breaks, once, and for no other run; a run on an idle line that is no symbol error breaks none, and so does every
run while a reception is abandoned (assumptions 18, 47 and 65), and every run's end is delivered (assumption 46). R20:
the run that makes the count 51 reports LINK 3 WARN. R4: a run past 24 bit times breaks a reception in hand, and the
first for 1 s is reported as LINK 4 WARN; one within the second is not. A header correction of the frame broken is not
counted with the run's end (assumption 18). -/
def Obligations.DominantRunsCounted : Prop :=
  (∀ (s : State) (length : Nat) (early : Fin 4), s.running = true → 1 ≤ length →
      let start := s.now - (4 * length + early)
      let idle := ∃ r, s.receiver.recessiveSince = some r ∧ r + 48 ≤ start
      let same := s.link.windowDiscards
      let more := min 65535 (s.link.windowDiscards + 1)
      ∃ t, exec (.dominantRunEnd length early) s = .next t ∧ t.receiver.recessiveSince = some s.now ∧
        (s.sending = true → t.receiver.phase = .abandoned ∧ t.link.windowDiscards = same) ∧
        (s.sending = false → idle →
          t.receiver.phase = (if length ≤ 5 then .receiving else .abandoned) ∧
          t.link.windowDiscards = if 6 ≤ length ∧ length ≤ 15 then more else same) ∧
        (s.sending = false → ¬idle → s.receiver.phase = .receiving →
          t.receiver.phase = (if length ≤ 5 then .receiving else .abandoned) ∧
          t.link.windowDiscards = if 6 ≤ length then more else same) ∧
        (∀ e, s.sending = false → ¬idle → s.receiver.phase = .awaitingIdle e →
          t.receiver.phase = .awaitingIdle e ∧
          t.link.windowDiscards = if (length ≤ 5 ∧ e ≤ start) ∨ (6 ≤ length ∧ length ≤ 15) then more else same) ∧
        (¬idle → s.receiver.phase = .abandoned →
          t.receiver.phase = .abandoned ∧ t.link.windowDiscards = same) ∧
        (s.link.ownMark = none → (length ≤ 15 ∨ 24 < length) → s.link.windowDiscards ≠ 50 →
          t = { s with receiver := t.receiver, link := { s.link with windowDiscards := t.link.windowDiscards } }) ∧
        (s.link.ownMark = none → (length ≤ 15 ∨ 24 < length) → s.link.windowDiscards = 50 →
          t.link.windowDiscards = 51 → s.takesOffers = true → s.CanReport →
          t = { s with receiver := t.receiver, log := t.log, link := t.link } ∧
          s.Logged t s.own clsLink 3 1 1 (some 51) none ∧ s.Noticed t clsLink 3 1 1 51)) ∧
  (∀ (s : State) (early : Fin 4), s.running = true →
      let start := s.now - (96 + early)
      let idle := ∃ r, s.receiver.recessiveSince = some r ∧ r + 48 ≤ start
      let breaks := s.sending = false ∧ ¬idle ∧ s.receiver.phase = .receiving
      let due := ∀ t0, s.link.lastStuckReport = some t0 → t0 + Config.stuckSpacing ≤ s.now
      ∃ t, exec (.stuckDominant early) s = .next t ∧ t.receiver.recessiveSince = none ∧
        (s.sending = true ∨ idle ∨ s.receiver.phase = .receiving ∨ s.receiver.phase = .abandoned →
          t.receiver.phase = .abandoned) ∧
        (∀ e, s.sending = false → ¬idle → s.receiver.phase = .awaitingIdle e → t.receiver.phase = .awaitingIdle e) ∧
        (breaks → t.link.windowDiscards = min 65535 (s.link.windowDiscards + 1)) ∧
        (¬breaks → t.link.windowDiscards = s.link.windowDiscards) ∧
        (due → t.link.lastStuckReport = some s.now) ∧
        (¬breaks → ¬due → t = { s with receiver := t.receiver }) ∧
        (¬breaks → due → s.takesOffers = true → s.CanReport →
          t = { s with receiver := t.receiver, log := t.log, link := t.link } ∧
          s.Logged t s.own clsLink 4 1 1 (some 0) none ∧ s.Noticed t clsLink 4 1 1 0))

/-- R18, R29, R31, R36: in LISTEN a mark heard by a SEEKING station locks it, a LOCKED one takes a mark from a reading
of 396 µs on, and an earlier mark is only counted; the first bit of the run is the restart point, and no work is
begun. R29, R30, R32: a JOINED station that keeps the cadence begins a period with its work at an accepted mark, and
the eleventh early mark of a window, in LISTEN too, sends it back to SEEKING with LINK 2 WARN. A period that finds an
exchange outstanding is begun all the same (R80). R2, R19: a mark that breaks a reception in hand is still a mark, and
the reception is counted (without its header correction: assumption 18); the one that makes the count 51 is reported
as LINK 3 WARN before the mark is taken (R20; the order is assumption 36). A mark on an idle line counts as no broken
frame (assumption 47). The commands of the next period are computed as the Allotment Unit has them (R32, R72). -/
def Obligations.MarksHeard : Prop :=
  (∀ (s : State) (length : Nat) (early : Fin 4), s.held = false → s.link.state = .listen →
      s.link.ownMark = none → 16 ≤ length → length ≤ 24 →
      let first := s.now - (4 * length + early)
      let link := s.linkAfterRun first
      (s.phaseAt first = .receiving → s.link.windowDiscards ≠ 50) →
      (s.cadence.reference = .seeking →
        ∃ t, exec (.dominantRunEnd length early) s = .next t ∧ t = { s with
          receiver := t.receiver, link := link, cadence := {
            s.cadence with reference := .locked, timer := some first, overdue := false, expiry := Config.cadence,
                           count := (s.cadence.count + 1) % 65536 } }) ∧
      (∀ t0, s.cadence.reference = .locked → s.cadence.timer = some t0 → t0 + Config.acceptFrom ≤ first →
        ∃ t, exec (.dominantRunEnd length early) s = .next t ∧ t = { s with
          receiver := t.receiver, link := link, cadence := {
            s.cadence with timer := some first, overdue := false, expiry := Config.cadence,
                           count := (s.cadence.count + 1) % 65536 } }) ∧
      (∀ t0, s.cadence.reference = .locked → s.cadence.timer = some t0 → first < t0 + Config.acceptFrom →
        s.cadence.earlyMarks ≠ 10 →
        ∃ t, exec (.dominantRunEnd length early) s = .next t ∧ t = { s with
          receiver := t.receiver, link := link, cadence := {
            s.cadence with earlyMarks := min 255 (s.cadence.earlyMarks + 1) } })) ∧
  (∀ (s : State) (length : Nat) (early : Fin 4), s.isJoined = true → s.keepsCadence = true →
      s.link.ownMark = none → 16 ≤ length → length ≤ 24 →
      let first := s.now - (4 * length + early)
      (s.phaseAt first = .receiving → s.link.windowDiscards ≠ 50) →
      ((s.thread.exchange.outstanding = true → s.thread.missCount + 1 ≠ 3) →
        (s.cadence.reference = .seeking ∨ s.cadence.timer.reached first Config.acceptFrom = true) →
        ∃ t, exec (.dominantRunEnd length early) s = .next t ∧ s.PeriodBegun t first ∧
          t.cadence.reference = .locked ∧ t.link = s.linkAfterRun first) ∧
      (s.cadence.reference = .locked → s.cadence.timer.reached first Config.acceptFrom = false →
        s.cadence.earlyMarks ≠ 10 →
        ∃ t, exec (.dominantRunEnd length early) s = .next t ∧ t = { s with
          receiver := t.receiver, link := s.linkAfterRun first,
          cadence := { s.cadence with earlyMarks := min 255 (s.cadence.earlyMarks + 1) } })) ∧
  (∀ (s : State) (length : Nat) (early : Fin 4), s.running = true →
      (s.link.state = .listen ∨ (s.link.state = .joined ∧ s.keepsCadence = true)) →
      s.link.ownMark = none → 16 ≤ length → length ≤ 24 → s.CanReport →
      let first := s.now - (4 * length + early)
      ((s.phaseAt first = .receiving → s.link.windowDiscards ≠ 50) →
        s.cadence.reference = .locked → s.cadence.timer.reached first Config.acceptFrom = false →
        s.cadence.earlyMarks = 10 →
        ∃ t, exec (.dominantRunEnd length early) s = .next t ∧
          t = { s with receiver := t.receiver, log := t.log, link := t.link,
                       cadence := { s.cadence with earlyMarks := 11, reference := .seeking, seekCount := 0 } } ∧
          t.link.windowDiscards = (s.linkAfterRun first).windowDiscards ∧
          s.Logged t s.own clsLink 2 1 1 (some 11) none ∧ s.Noticed t clsLink 2 1 1 11) ∧
      (s.phaseAt first = .receiving → s.link.windowDiscards = 50 →
        (s.thread.exchange.outstanding = true → s.thread.missCount + 1 ≠ 3) →
        (s.cadence.reference = .seeking ∨ s.cadence.timer.reached first Config.acceptFrom = true) →
        ∃ t, exec (.dominantRunEnd length early) s = .next t ∧ t.link.windowDiscards = 51 ∧
          s.Logged t s.own clsLink 3 1 1 (some 51) none ∧ s.Noticed t clsLink 3 1 1 51 ∧
          t.cadence.reference = .locked ∧
          (s.link.state = .joined → s.PeriodBegun t first) ∧
          (s.link.state = .listen → t = { s with
            receiver := t.receiver, log := t.log, link := t.link,
            cadence := { s.cadence with
              reference := .locked, timer := some first, overdue := false, expiry := Config.cadence,
              count := (s.cadence.count + 1) % 65536 } })))

/-- R9, R19, R7: a reception that fails a check is counted once, as foreign too where check 5 failed, and a correction
of its header is counted whatever came of it; one that fails in its bits or its header is abandoned, one taken whole
leaves the receiver waiting for idle (R3). R7, R18, R19: a good frame taken after a correction is handed on as the
same frame taken clean, with its correction counted. R12, R18: no check is made with no reception in hand or with a
frame of the station's own on the line (assumption 46). R20: the discard that makes the window count 51 reports LINK 3
WARN with detail 51. R20, R30: at the end of its 1 s window each count begins again from 0, the error count having
become the last window total; in SILENT the early-mark count keeps its value (R39; assumption 50); a window that has
not ended is left alone (assumption 4). -/
def Obligations.DiscardsAndTheirWindows : Prop :=
  (∀ (s : State) (levels : List Level), (s.receiver.phase ≠ .receiving ∨ s.sending = true) →
      exec (.frameReceived levels) s = .next s) ∧
  (∀ (s : State) (levels : List Level) (corrected : Bool), s.running = true → s.receives = true →
      s.link.windowDiscards ≠ 50 →
      let link := { s.link with windowDiscards := min 65535 (s.link.windowDiscards + 1),
                                corrected := if corrected then min 255 (s.link.corrected + 1) else s.link.corrected }
      (receive levels = (corrected, .abandoned) →
        exec (.frameReceived levels) s = .next { s with
          receiver := { s.receiver with phase := .abandoned }, link := link }) ∧
      (receive levels = (corrected, .discarded) →
        exec (.frameReceived levels) s = .next { s.received with link := link }) ∧
      (receive levels = (corrected, .foreign) →
        exec (.frameReceived levels) s = .next { s.received with
          link := { link with foreign := min 255 (s.link.foreign + 1) } })) ∧
  (∀ (s : State) (levels : List Level) (sender : Nat) (f : Frame), receive levels = (true, .good sender f) →
      s.running = true → s.receives = true →
      let counted := { s with link := { s.link with corrected := min 255 (s.link.corrected + 1) } }
      (∀ clean, receive clean = (false, .good sender f) →
        exec (.frameReceived levels) s = exec (.frameReceived clean) counted) ∧
      (s.link.state = .joined → ∀ e, f = .logEntry e → exec (.frameReceived levels) s = .next counted.received) ∧
      (s.link.state = .joined → s.takesPart = true → s.yaw.state = .driving →
        f = .yawStop s.yaw.session.proposer s.yaw.session.tag →
        ∃ t, exec (.frameReceived levels) s = .next t ∧ t.yaw.state = .stopping ∧ t.link = counted.link)) ∧
  (∀ (s : State) (levels : List Level), s.running = true → s.receives = true → s.takesOffers = true → s.CanReport →
      s.link.windowDiscards = 50 →
      ((receive levels).2 = .abandoned ∨ (receive levels).2 = .discarded ∨ (receive levels).2 = .foreign) →
      ∃ t, exec (.frameReceived levels) s = .next t ∧
        t = { s with receiver := t.receiver, log := t.log, link := t.link } ∧
        t.link.windowDiscards = 51 ∧ s.Logged t s.own clsLink 3 1 1 (some 51) none ∧ s.Noticed t clsLink 3 1 1 51) ∧
  (∀ (s : State) (t0 : Nat), s.running = true →
      (s.link.errorWindow = some t0 → t0 + Config.window ≤ s.now →
        exec .errorWindowEnd s = .next { s with link := { s.link with
          lastWindow := s.link.windowDiscards, windowDiscards := 0, errorWindow := some (t0 + Config.window) } }) ∧
      (s.link.errorWindow = some t0 → s.now < t0 + Config.window → exec .errorWindowEnd s = .next s) ∧
      (s.cadence.earlyWindow = some t0 → t0 + Config.window ≤ s.now → s.link.state ≠ .silent →
        exec .earlyMarkWindowEnd s = .next { s with cadence := { s.cadence with
          earlyMarks := 0, earlyWindow := some (t0 + Config.window) } }) ∧
      (s.cadence.earlyWindow = some t0 → t0 + Config.window ≤ s.now → s.link.state = .silent →
        exec .earlyMarkWindowEnd s = .next { s with cadence := { s.cadence with
          earlyWindow := some (t0 + Config.window) } }) ∧
      (s.cadence.earlyWindow = some t0 → s.now < t0 + Config.window → exec .earlyMarkWindowEnd s = .next s))

/-- R1, R6 to R10, R187, R188: the levels on the line of every frame whose fields fit its layout are received as that
frame, from its sender, with no correction. R9: a frame cut short, a sixth equal level within it, a header that fails
its check and a length above 32 end the reception as abandoned; with the payload complete, a check that does not match
is discarded, else a kind or sender outside R10 is foreign, else a length that is not the kind's is discarded, and
else the frame is good, of that kind and sender. -/
def Obligations.SentFramesAreReceived : Prop :=
  (∀ (sender : Nat) (f : Frame), f.Fits sender → receive (frameLevels sender f) = (false, .good sender f)) ∧
  (∀ (sender : Nat) (f : Frame) (k : Nat), f.Fits sender →
      (k < (frameLevels sender f).length → receive ((frameLevels sender f).take k) = (false, .abandoned)) ∧
      (∀ b post, 30 ≤ k → k + 16 ≤ (frameLevels sender f).length →
        receive ((frameLevels sender f).take k ++ List.replicate 6 b ++ post) = (false, .abandoned))) ∧
  (∀ (b0 b1 header : Byte) (rest : List Byte), readHeader b0 b1 header = none →
      receive (stuff (false :: ([b0, b1, header] ++ rest).flatMap byteBits)) = (false, .abandoned)) ∧
  (∀ (b0 b1 : Byte) (payload check : List Byte),
      let levels := stuff (false :: ([b0, b1, headerCheck b0 b1] ++ payload ++ check).flatMap byteBits)
      let kind := b0.toNat / 8
      let sender := b0.toNat % 8
      let known : Prop :=
        (1 ≤ sender ∧ kind ∈ [2, 4, 5, 6, 7, 16, 28]) ∨ (sender = 0 ∧ kind ∈ [10, 20, 24])
      let fits : Prop :=
        (kind, payload.length) ∈ [(2, 10), (4, 2), (6, 5), (7, 5), (10, 10), (16, 24), (20, 2), (24, 6), (28, 17)] ∨
        (kind = 5 ∧ payload.length ∈ [5, 7, 9, 11, 13, 15, 17])
      (32 < b1.toNat → receive levels = (false, .abandoned)) ∧
      (1 ≤ b1.toNat → b1.toNat ≤ 32 → payload.length + check.length < b1.toNat + 2 →
        receive levels = (false, .abandoned)) ∧
      (b1.toNat ≤ 32 → payload.length = b1.toNat → check.length = (if payload = [] then 0 else 2) →
        (payload ≠ [] → check ≠ bigEndian 2 (crc payload).toNat → receive levels = (false, .discarded)) ∧
        ((payload = [] ∨ check = bigEndian 2 (crc payload).toNat) →
          (¬known → receive levels = (false, .foreign)) ∧
          (known → ¬fits → receive levels = (false, .discarded)) ∧
          (known → fits → ∃ f, receive levels = (false, .good sender f) ∧ f.kind = kind))))

/-- R7: the header check takes a header as sent, corrects any one bit of its 22 and refuses any two, and refuses
either unused bit set. -/
def Obligations.HeaderCheckCorrectsOne : Prop :=
  ∀ b0 b1 : Byte,
    readHeader b0 b1 (headerCheck b0 b1) = some (b0, b1, false) ∧
    (∀ i, i < 22 →
      readHeader (flipHeader i (b0, b1, headerCheck b0 b1)).1 (flipHeader i (b0, b1, headerCheck b0 b1)).2.1
        (flipHeader i (b0, b1, headerCheck b0 b1)).2.2 = some (b0, b1, true)) ∧
    (∀ i j, i < j → j < 22 →
      readHeader (flipHeader i (flipHeader j (b0, b1, headerCheck b0 b1))).1
        (flipHeader i (flipHeader j (b0, b1, headerCheck b0 b1))).2.1
        (flipHeader i (flipHeader j (b0, b1, headerCheck b0 b1))).2.2 = none) ∧
    (∀ h : Byte, (h.getLsbD 7 = true ∨ h.getLsbD 6 = true) → readHeader b0 b1 h = none)

/-- R11, R13: the head of the queue goes onto a line idle for 12 bit times when the station is JOINED, sends nothing
else and is not in its guard interval; on a line that is not idle, or in the guard interval, nothing is started. R12
to R14: at the end of a sending with no log answer in progress in ACTIVE, a frame sent whole leaves the queue, a
corrupted one leaves it and is counted as a loss, one that lost contention stays, and an older status that lost while
a newer is queued leaves as superseded, and stays where none is (assumption 69). R3, R12: the receiver then waits for
idle, has abandoned, or receives the winning frame, also where a run of 16 bit times takes its place, and the line is
recessive from the last dominant level read back (assumption 48). R170, R175: a frame that leaves the queue lets the
log service offer its next entry and quiet control make its test then, as LOG_ENTRY_OFFER and ENTRY_INTO_QUIET do
(assumptions 12 and 14); a queue left empty in QUIET_PENDING and Y_IDLE so enters QUIET, unless an entry has entered
it first. -/
def Obligations.SendingBeginsAndEnds : Prop :=
  (∀ (s : State) (x : Slot) (rest : List Slot) (r : Nat), s.isJoined = true → s.link.queue = x :: rest →
      (∀ y ∈ x :: rest, y.onLine = false) → s.link.ownMark = none → s.receiver.recessiveSince = some r →
      (r + 48 ≤ s.now →
        (s.keepsCadence = false ∨ s.cadence.timer = none ∨ s.cadenceReading + Config.guard < s.cadence.expiry) →
        exec (.transmitStart false) s = .next { s with
          link := { s.link with queue := { x with onLine := true } :: rest },
          receiver := { phase := .abandoned, recessiveSince := none } }) ∧
      (s.keepsCadence = true → s.cadence.timer.isSome = true → s.cadence.expiry ≤ s.cadenceReading + Config.guard →
        exec (.transmitStart false) s = .next s) ∧
      (s.now < r + 48 → exec (.transmitStart false) s = .next s) ∧
      exec (.transmitStart true) s = .next s) ∧
  (∀ (s : State) (pre post : List Slot) (f : Frame) (heard : List Level), s.isJoined = true →
      s.quiet.state = .active → s.log.cursor = .idle →
      s.link.queue = pre ++ { frame := f, onLine := true } :: post → (∀ y ∈ pre ++ post, y.onLine = false) →
      (sendingOutcome s.own f heard = some .complete → ∃ t, exec (.transmitEnd heard) s = .next t ∧
        t = { s with receiver := t.receiver, link := { s.link with queue := pre ++ post } } ∧
        t.receiver.phase = .awaitingIdle s.now) ∧
      (sendingOutcome s.own f heard = some .corrupted → ∃ t, exec (.transmitEnd heard) s = .next t ∧
        t = { s with receiver := t.receiver,
                     link := { s.link with queue := pre ++ post, losses := min 255 (s.link.losses + 1) } } ∧
        t.receiver.phase = .abandoned) ∧
      (sendingOutcome s.own f heard = some .lost → ∃ t, exec (.transmitEnd heard) s = .next t ∧
        t = { s with receiver := t.receiver, link := t.link } ∧
        ((f.kind ≠ 16 ∨ ∀ y ∈ pre ++ post, y.frame.kind ≠ 16) →
          t.link = { s.link with queue := pre ++ { frame := f, onLine := false } :: post }) ∧
        (f.kind = 16 → (∃ y ∈ pre ++ post, y.frame.kind = 16) →
          t.link = { s.link with queue := pre ++ post, superseded := min 255 (s.link.superseded + 1) }) ∧
        t.receiver.phase = (if agreeing (frameLevels s.own f) heard < headerLevels s.own f then .receiving
          else .abandoned)) ∧
      (∀ t o, sendingOutcome s.own f heard = some o → exec (.transmitEnd heard) s = .next t →
        (heard.getLast? = some false → t.receiver.recessiveSince = s.receiver.recessiveSince) ∧
        (∀ a k, heard = a ++ false :: List.replicate k true → 1 ≤ k →
          t.receiver.recessiveSince = some (s.now - 4 * k)))) ∧
  (∀ (s : State) (pre post : List Slot) (f : Frame) (heard : List Level) (o : Sending), s.isJoined = true →
      s.link.queue = pre ++ { frame := f, onLine := true } :: post → (∀ y ∈ pre ++ post, y.onLine = false) →
      sendingOutcome s.own f heard = some o →
      (o = .lost → (f.kind ≠ 16 ∨ ∀ y ∈ pre ++ post, y.frame.kind ≠ 16) →
        ∃ t, exec (.transmitEnd heard) s = .next t ∧ t = { s with
          receiver := t.receiver,
          link := { s.link with queue := pre ++ { frame := f, onLine := false } :: post } }) ∧
      ((o ≠ .lost ∨ (f.kind = 16 ∧ ∃ y ∈ pre ++ post, y.frame.kind = 16)) →
        ∃ t u v, exec (.transmitEnd heard) s = .next t ∧ exec .logEntryOffer u = .next v ∧
          exec .entryIntoQuiet v = .next t ∧
          u = { s with
            receiver := t.receiver,
            link := { s.link with
              queue := pre ++ post,
              losses := if o = .corrupted then min 255 (s.link.losses + 1) else s.link.losses,
              superseded := if o = .lost then min 255 (s.link.superseded + 1) else s.link.superseded } } ∧
          (pre ++ post = [] → s.log.cursor = .emptyDue → t.quiet = s.quiet ∧ t.log.cursor = .idle ∧
            t.link.queue = [{ frame := .logEntry (emptyEntry s.log.newest), onLine := false }]) ∧
          (pre ++ post = [] → s.log.cursor = .idle → s.quiet.state = .pending → s.yaw.state = .idle →
            t.quiet.state = .quiet ∧ t.cadence.timer = none ∧ t.thread.quietTimer = some s.now)))

/-- R12: levels read back unchanged are a frame sent whole; a first difference within the precedence byte, its stuff
bits counted in it (assumption 20), that reads dominant is lost contention, and any other first difference a
corruption, where no dominant run of 16 is read. A run of 16 bit times or more in the place of the difference is lost
contention when it began within the precedence byte, and a corruption otherwise. -/
def Obligations.ReadBackJudged : Prop :=
  ∀ (sender : Nat) (f : Frame) (heard : List Level) (i : Nat),
    sendingOutcome sender f (frameLevels sender f) = some .complete ∧
    (i < (frameLevels sender f).length → heard.take i = (frameLevels sender f).take i →
      heard[i]? = some (!((frameLevels sender f).getD i false)) →
      ((∀ j, j + 16 ≤ heard.length → ∃ k, k < 16 ∧ heard[j + k]? = some true) →
        sendingOutcome sender f heard =
          if 1 ≤ i ∧ i < headerLevels sender f ∧ (frameLevels sender f).getD i false = true then some .lost
          else some .corrupted) ∧
      (∀ first, first ≤ i → i < first + 16 → (∀ k, first ≤ k → k < first + 16 → heard[k]? = some false) →
        (first = 0 ∨ heard[first - 1]? = some true) →
        sendingOutcome sender f heard = if first < headerLevels sender f then some .lost else some .corrupted))

/-- R13: a frame enters after those whose precedence byte is not higher. R14: a status offered takes the place of a
queued status, which is superseded; else it enters a free slot, or at a full queue evicts the newest queued LOG ENTRY,
or is dropped. R15, R16: a notice and a yaw frame evict the newest queued LOG ENTRY, else the queued status, else are
dropped; each eviction and drop is a loss. R15: a notice that enters takes the next number and the log's newest, and
one dropped is recorded as LINK 5 NOTE (assumption 34). A frame on the line is neither replaced nor evicted, and
outside LISTEN and JOINED no offer is taken. -/
def Obligations.OffersToTheQueue : Prop :=
  (∀ (own : Nat) (f : Frame) (q : List Slot), ∃ a b, q = a ++ b ∧
      insertSlot own f q = a ++ { frame := f, onLine := false } :: b ∧
      (∀ x ∈ a, x.frame.precedence own ≤ f.precedence own) ∧
      (∀ x, b.head? = some x → f.precedence own < x.frame.precedence own)) ∧
  (∀ s : State,
      let q := s.link.queue
      let noStatus := ∀ x ∈ q, x.onLine = true ∨ x.frame.kind ≠ 16
      let noLog := ∀ x ∈ q, x.onLine = true ∨ x.frame.kind ≠ 28
      let newest (kind : Nat) (pre : List Slot) (x : Slot) (post : List Slot) : Prop :=
        q = pre ++ x :: post ∧ x.onLine = false ∧ x.frame.kind = kind ∧
          ∀ y ∈ post, y.onLine = true ∨ y.frame.kind ≠ kind
      let queued (n : Nat) (q' : List Slot) : State :=
        { s with link := { s.link with queue := q', losses := min 255 (s.link.losses + n) } }
      (s.takesOffers = false → ∀ r f cls code severity action detail, offerStatus s r = s ∧ offerYaw s f = s ∧
        offerNotice s cls code severity action detail = s) ∧
      (s.takesOffers = true → ∀ (r : StatusRecord) (pre : List Slot) (x : Slot) (post : List Slot),
        (q = pre ++ x :: post → x.onLine = false → x.frame.kind = 16 →
          (∀ y ∈ pre, y.onLine = true ∨ y.frame.kind ≠ 16) →
          offerStatus s r = { s with link := { s.link with
            queue := pre ++ { frame := .threadStatus r, onLine := false } :: post,
            superseded := min 255 (s.link.superseded + 1) } }) ∧
        (noStatus → q.length < 8 → offerStatus s r = queued 0 (insertSlot s.own (.threadStatus r) q)) ∧
        (noStatus → 8 ≤ q.length → newest 28 pre x post →
          offerStatus s r = queued 1 (insertSlot s.own (.threadStatus r) (pre ++ post))) ∧
        (noStatus → 8 ≤ q.length → noLog → offerStatus s r = queued 1 q)) ∧
      (s.takesOffers = true → ∀ (f : Frame) (pre : List Slot) (x : Slot) (post : List Slot),
        (q.length < 8 → offerYaw s f = queued 0 (insertSlot s.own f q)) ∧
        (8 ≤ q.length → (newest 28 pre x post ∨ (noLog ∧ newest 16 pre x post)) →
          offerYaw s f = queued 1 (insertSlot s.own f (pre ++ post))) ∧
        (8 ≤ q.length → noLog → noStatus → offerYaw s f = queued 1 q)) ∧
      (s.takesOffers = true → ∀ (cls code severity action : Nat) (detail : Int) (pre : List Slot) (x : Slot)
        (post : List Slot),
        let number := (s.link.noticeCounter + 1) % 65536
        let notice := Frame.faultNotice { number := number, cls := cls, code := code, severity := severity,
                                          action := action, detail := detail, logSequence := s.log.newest % 65536 }
        let entered (n : Nat) (q' : List Slot) : State :=
          { queued n q' with link := { (queued n q').link with noticeCounter := number } }
        (q.length < 8 →
          offerNotice s cls code severity action detail = entered 0 (insertSlot s.own notice q)) ∧
        (8 ≤ q.length → (newest 28 pre x post ∨ (noLog ∧ newest 16 pre x post)) →
          offerNotice s cls code severity action detail = entered 1 (insertSlot s.own notice (pre ++ post))) ∧
        (8 ≤ q.length → noLog → noStatus → s.log.newest < Config.lastSequence →
          let t := offerNotice s cls code severity action detail
          t = { queued 1 q with log := t.log } ∧
          s.Logged t s.own clsLink 5 0 1 (some (cls * 100 + code : Nat)) none)))

/-- R13 to R17: every step keeps the queue at 8 frames at most, in order of kind, with one frame at most on the line,
one status at most off it, two LOG ENTRY frames at most, and empty wherever it takes no offers. -/
def Obligations.QueueRulesKept : Prop :=
  ∀ s t : State, s.QueueKept → step s = .next t → t.QueueKept

/-- R22, R147, R172: a good status bearing the station's own number makes it SILENT: the queue emptied with no loss
counted, any session ended locally with motors off and brakes applied, the log answer ended, and the thread TRIPPED by
LINK 1 and logged as SILENCED. R175, R177, R39: so it does in QUIET_PENDING and QUIET, from which the station returns
to ACTIVE, the clash being a wake cause. A second such status changes nothing. The remaining count is set to 0 by the
model (assumption 41), and the check timer goes on as it stood (assumption 60). R21, R23: but for resets, every
command leaves a SILENT station SILENT with its queue empty and begins no mark. The overdue flag is cleared at the
return from QUIET (assumption 21). -/
def Obligations.ClashSilences : Prop :=
  (∀ (s : State) (levels : List Level) (r : StatusRecord), s.held = false → s.receives = true →
      receive levels = (false, .good s.own (.threadStatus r)) →
      ((s.link.state = .listen ∨ s.link.state = .joined) → s.log.newest < Config.lastSequence →
        ∃ t, exec (.frameReceived levels) s = .next t ∧ t.link.state = .silent ∧ t.link.queue = [] ∧
          t.link.losses = s.link.losses ∧ t.yaw.state = .idle ∧ t.yaw.checkTimer = s.yaw.checkTimer ∧
          (s.yaw.state ≠ .idle → t.yaw.motors = PerMotor.all .off ∧ t.yaw.release = false) ∧
          t.thread.state = .tripped ∧ t.holdsCause clsLink 1 = true ∧
          t.log.cursor = .idle ∧ t.log.remaining = 0 ∧ s.Logged t s.own clsLink 1 2 6 (some s.own) none ∧
          t.table.threads = s.table.threads ∧ t.table.controller = s.table.controller ∧ t.quiet.state = .active ∧
          (s.quiet.state ≠ .quiet → t.cadence = s.cadence) ∧
          (s.quiet.state = .quiet → t.quiet.call = none ∧ t.quiet.wakeTimer = none ∧ t.quiet.callCount = 0 ∧
            t.thread.quietTimer = none ∧
            t.cadence = { s.cadence with timer := some s.now, expiry := Config.wakeExpiry, reference := .seeking,
                                         seekCount := 0, overdue := false })) ∧
      (s.link.state = .silent → exec (.frameReceived levels) s = .next s.received)) ∧
  (∀ (c : Instr) (s t : State), s.link.state = .silent → s.link.queue = [] → exec c s = .next t →
      c ≠ .powerOnReset → c ≠ .resetInput → (∀ lines, c ≠ .resetRelease lines) →
      t.link.state = .silent ∧ t.link.queue = [] ∧ (t.link.ownMark = none ∨ t.link.ownMark = s.link.ownMark))

/-! ## The cadence -/

/-- R26, R27, R31, R39: at its expiry a JOINED station that keeps the cadence drives a mark on a recessive line and
begins a period from it, and is overdue on a dominant one; a SILENT station begins a stand-in period and drives
nothing (assumption 49). R5: a mark holds the line dominant for 20 bit times from its first bit. R3, R27, R28: the
mark of an overdue station starts at the idle it waited for, unless the line reads dominant there; from 400 µs past
the expiry on a stand-in period begins without the line, and the reference goes back to SEEKING (assumption 44);
before that nothing changes (assumption 4). R80 to R82: a period that finds an exchange outstanding is a miss, which
sets the recovery count to 0 (assumption 52), and the third trips the thread by STACK 3 before the period's commands,
or is a WARN in TRIPPED, and in OFF where the period's start test finds no start (R84: it comes before the exchange);
an absent record stays absent (assumption 39). Each period is begun as R25 and R32 to R34 have it, with the commands
computed as the Allotment Unit has them (R72). R26: the run of the station's own mark ends that mark and is not heard
as one; a reception it breaks is counted (R2, R19). -/
def Obligations.PeriodsOfTheOwnTimer : Prop :=
  (∀ (s : State) (t0 : Nat), s.held = false → s.keepsCadence = true → s.cadence.timer = some t0 →
      t0 + s.cadence.expiry ≤ s.now → s.cadence.overdue = false →
      (s.thread.exchange.outstanding = true → s.thread.missCount + 1 ≠ 3) →
      (s.link.state = .joined →
        exec (.cadenceExpiry true) s = .next { s with cadence := { s.cadence with overdue := true } } ∧
        ∃ t, exec (.cadenceExpiry false) s = .next t ∧ s.PeriodBegun t s.now ∧ t.link.ownMark = some s.now ∧
          t.drivesMark = true ∧
          (s.cadence.reference = .locked → t.cadence.reference = .locked ∧ t.cadence.seekCount = s.cadence.seekCount) ∧
          (s.cadence.reference = .seeking → t.cadence.seekCount = s.cadence.seekCount + 1 ∧
            t.cadence.reference = if 25 ≤ s.cadence.seekCount + 1 then .locked else .seeking)) ∧
      (s.link.state = .silent → ∀ dominant, ∃ t, exec (.cadenceExpiry dominant) s = .next t ∧ s.PeriodBegun t s.now ∧
        t.link = s.link ∧ t.cadence.reference = s.cadence.reference ∧ t.cadence.seekCount = s.cadence.seekCount)) ∧
  (∀ (s : State) (t0 : Nat), s.isJoined = true → s.keepsCadence = true → s.cadence.overdue = true →
      s.cadence.timer = some t0 → (s.thread.exchange.outstanding = true → s.thread.missCount + 1 ≠ 3) →
      exec (.overdueMark true) s = .next s ∧
      (∀ r, s.receiver.recessiveSince = some r → s.now < r + 48 → exec (.overdueMark false) s = .next s) ∧
      (∀ r, s.receiver.recessiveSince = some r → r + 48 ≤ s.now → s.link.ownMark = none →
        ∃ t, exec (.overdueMark false) s = .next t ∧ s.PeriodBegun t s.now ∧ t.link.ownMark = some s.now) ∧
      (t0 + s.cadence.expiry + Config.cadence ≤ s.now →
        ∃ t, exec .standInPeriod s = .next t ∧ s.PeriodBegun t s.now ∧ t.link = s.link ∧
          t.cadence.reference = .seeking ∧ t.cadence.seekCount = 0) ∧
      (s.now < t0 + s.cadence.expiry + Config.cadence → exec .standInPeriod s = .next s)) ∧
  (∀ s : State,
      (∀ m, s.isJoined = true → s.link.ownMark = some m →
        (s.drivesMark = true ↔ m ≤ s.now ∧ s.now < m + 20 * 4)) ∧
      ((s.isJoined = false ∨ s.link.ownMark = none) → s.drivesMark = false)) ∧
  (∀ (s : State) (t0 : Nat), s.isJoined = true → s.keepsCadence = true → s.cadence.timer = some t0 →
      t0 + s.cadence.expiry ≤ s.now → s.cadence.overdue = false → s.thread.exchange.outstanding = true →
      ∃ t, exec (.cadenceExpiry false) s = .next t ∧ t.thread.missCount = min 255 (s.thread.missCount + 1) ∧
        t.thread.recoveryCount = 0 ∧ t.thread.exchange.outstanding = true ∧ t.thread.exchange.begun = s.now ∧
        t.thread.exchange.sent.number = (s.thread.exchange.sent.number + 1) % 256 ∧
        t.thread.exchange.sent.offset = s.cadence.pendingOffset ∧
        t.thread.validity = (if s.thread.validity = .absent then .absent
          else if s.thread.missCount + 1 ≤ 2 then .held else .expired) ∧
        (s.thread.missCount + 1 ≠ 3 → s.PeriodBegun t s.now ∧ t.thread.portOut = s.thread.portOut) ∧
        (s.thread.missCount + 1 = 3 → t.thread.portOut = true) ∧
        (s.thread.missCount + 1 = 3 → s.thread.portOut = false →
          (s.thread.state.quietable = false ∨ s.mayStart = true) →
          s.log.newest < Config.lastSequence → s.link.queue.length < 8 →
          t.thread.state = .tripped ∧ t.holdsCause clsStack 3 = true ∧ t.thread.exchange.sent.gates = false ∧
          t.thread.exchange.sent.breakerClosed = false ∧ t.allotment.pCommand = 0 ∧ t.allotment.qCommand = 0 ∧
          s.Logged t s.own clsStack 3 2 2 (some 3) none) ∧
        (s.thread.missCount + 1 = 3 → s.thread.portOut = false → s.thread.state.quietable = true →
          s.mayStart = false → s.log.newest < Config.lastSequence → s.link.queue.length < 8 →
          s.PeriodBegun t s.now ∧ t.thread.state = s.thread.state ∧ s.Logged t s.own clsStack 3 1 1 (some 3) none) ∧
        (s.thread.missCount + 1 = 3 → s.thread.portOut = true → s.PeriodBegun t s.now ∧ t.log = s.log)) ∧
  (∀ (s : State) (length : Nat) (early : Fin 4) (m : Nat), s.running = true → s.link.ownMark = some m →
      (∀ c, s.quiet.call = some c → c.done < 3) → 16 ≤ length →
      let first := s.now - (4 * length + early)
      (s.phaseAt first = .receiving → s.link.windowDiscards ≠ 50) →
      ∃ t, exec (.dominantRunEnd length early) s = .next t ∧
        t = { s with receiver := t.receiver, link := { s.linkAfterRun first with ownMark := none } } ∧
        t.drivesMark = false)

/-- R24, R31, R34: every step keeps the offsets, the cadence count, the seek count and the station number in their
ranges. R41: from LISTEN on every step keeps the own entry LIVE, of role THREAD, with age 0. R33: the offsets of the
ranks 0 to N − 1 rise, lie in 0 to 15999 and part neighbours by one N-th of a carrier period, within one count. -/
def Obligations.CadenceRangesAndOwnEntryKept : Prop :=
  (∀ s t : State, s.CadenceKept → step s = .next t → t.CadenceKept) ∧
  (∀ s t : State, s.OwnEntryKept → step s = .next t → t.OwnEntryKept) ∧
  (∀ n rank : Nat, 1 ≤ n → n ≤ 7 →
      (rank < n → carrierOffset rank n < 16000) ∧
      (rank + 1 < n → carrierOffset rank n + 16000 / n ≤ carrierOffset (rank + 1) n ∧
        carrierOffset (rank + 1) n ≤ carrierOffset rank n + 16000 / n + 1) ∧
      carrierOffset 0 n = 0)

/-! ## The thread and the stack port -/

/-- R80, R81: a good reply ends the exchange, replaces the record as VALID and clears the miss count; while the port
is OUT the twenty-fifth in a row brings it back and ends STACK 3; a reply that fails a test is discarded. 360 µs
without a good reply are a miss: the record is held through two, and the third takes the port out of service and
reports STACK 3, as a trip unless the thread is OFF or TRIPPED. A record never had stays ABSENT through misses
(assumption 39). Every miss sets the recovery count to 0 (R81 against R82: assumption 52). R96, R151, R177: the report
of the third miss is a wake cause in every quiet state; in QUIET it is a WARN, and starts the station's own call. -/
def Obligations.RepliesAndMisses : Prop :=
  (∀ (s : State) (r : StackReply), s.running = true →
      ((s.thread.exchange.outstanding = false ∨ r.checkPassed = false ∨ r.number ≠ s.thread.exchange.sent.number ∨
        s.thread.exchange.begun + Config.replyWait < s.now) → exec (.stackReply r) s = .next s) ∧
      (s.thread.exchange.outstanding = true → r.checkPassed = true → r.number = s.thread.exchange.sent.number →
        s.now ≤ s.thread.exchange.begun + Config.replyWait →
        ∃ t, exec (.stackReply r) s = .next t ∧
          t.thread.exchange = { s.thread.exchange with outstanding := false } ∧
          t.thread.reply = some r ∧ t.thread.validity = .valid ∧ t.thread.missCount = 0 ∧
          (s.thread.portOut = false → t.thread.portOut = false ∧ t.thread.recoveryCount = 0) ∧
          (s.thread.portOut = true → s.thread.recoveryCount + 1 < 25 →
            t.thread.portOut = true ∧ t.thread.recoveryCount = s.thread.recoveryCount + 1) ∧
          (s.thread.portOut = true → 25 ≤ s.thread.recoveryCount + 1 →
            t.thread.portOut = false ∧ t.thread.recoveryCount = 0 ∧
            (s.CausesKept → t.holdsCause clsStack 3 = false)) ∧
          t.cooling = s.cooling ∧ t.wind = s.wind)) ∧
  (∀ s : State, s.running = true → s.thread.exchange.outstanding = true →
      s.thread.exchange.begun + Config.replyWait ≤ s.now →
      (s.thread.missCount + 1 ≤ 2 → exec .stackReplyTimeout s = .next { s with thread := { s.thread with
        exchange := { s.thread.exchange with outstanding := false }, missCount := s.thread.missCount + 1,
        validity := if s.thread.validity = .absent then .absent else .held, recoveryCount := 0 } }) ∧
      (s.thread.missCount + 1 = 3 → s.thread.portOut = false → s.takesOffers = true → s.CanReport →
        ∃ t, exec .stackReplyTimeout s = .next t ∧ t.thread.portOut = true ∧ t.thread.missCount = 3 ∧
          t.thread.recoveryCount = 0 ∧ t.thread.recoveryTimer = none ∧ t.thread.gridTimer = none ∧
          t.thread.exchange = { s.thread.exchange with outstanding := false } ∧
          t.thread.validity = (if s.thread.validity = .absent then .absent else .expired) ∧
          (s.thread.state.quietable = false → s.Tripped t clsStack 3 3) ∧
          (s.thread.state.quietable = true → t.thread.state = s.thread.state ∧ t.fault = s.fault ∧
            s.Logged t s.own clsStack 3 1 1 (some 3) none)) ∧
      (s.thread.missCount + 1 = 3 → s.thread.portOut = false →
        ∃ t, exec .stackReplyTimeout s = .next t ∧ s.WakeTaken t ∧ t.thread.portOut = true ∧ t.thread.missCount = 3 ∧
          (s.thread.state.quietable = true → t.thread.state = s.thread.state ∧ t.fault = s.fault) ∧
          (s.thread.state.quietable = true → s.takesOffers = true → s.log.newest < Config.lastSequence →
            s.link.queue.length < 8 →
            s.Logged t s.own clsStack 3 1 1 (some 3) none ∧ s.Noticed t clsStack 3 1 1 3)) ∧
      ((4 ≤ s.thread.missCount + 1 ∨ (s.thread.missCount + 1 = 3 ∧ s.thread.portOut = true)) →
        exec .stackReplyTimeout s = .next { s with thread := { s.thread with
        exchange := { s.thread.exchange with outstanding := false }, missCount := min 255 (s.thread.missCount + 1),
        validity := if s.thread.validity = .absent then .absent else .expired, recoveryCount := 0,
        recoveryTimer := none, gridTimer := none } }))

/-- R85, R86, R88, R89, R90: a good reply with no fault, its breaker as commanded or its mismatch already reported,
moves the start on by charge, by the breaker reading closed and by 25 locked replies, leaves it waiting while the
breaker reads open, sends a thread in RUN into RIDE_THROUGH below 850 with GRID 3 NOTE, keeps the recovery timer of a
ride-through, and leaves a thread that is STOPPING, OFF or TRIPPED as it is. -/
def Obligations.RepliesMoveTheThread : Prop :=
  ∀ (s : State) (r : StackReply), s.running = true → s.goodReply r = true → r.Calm →
    (breakerMismatch s r = none ∨ s.thread.breakerFault = true) →
    ∃ t, exec (.stackReply r) s = .next t ∧
      (s.thread.state = .precharge → s.thread.breakerStep = .waitCharge → r.contactorClosed = true → 850 ≤ r.dcLink →
        t.thread.state = .precharge ∧ t.thread.breakerStep = .waitBreaker) ∧
      (s.thread.state = .precharge → s.thread.breakerStep = .waitCharge →
        (r.contactorClosed = false ∨ r.dcLink < 850) →
        t.thread.state = .precharge ∧ t.thread.breakerStep = .waitCharge) ∧
      (s.thread.state = .precharge → s.thread.breakerStep = .waitBreaker → r.breakerClosed = false →
        t.thread.state = .precharge ∧ t.thread.breakerStep = .waitBreaker ∧
        t.thread.stateTimer = s.thread.stateTimer) ∧
      (s.thread.state = .precharge → s.thread.breakerStep = .waitBreaker → r.breakerClosed = true →
        t.thread.state = .sync ∧ t.thread.stateTimer = some s.now ∧ t.thread.lockCount = 0 ∧
        t.table.changePending = true) ∧
      (s.thread.state = .sync → r.locked = true → s.thread.lockCount + 1 < 25 →
        t.thread.state = .sync ∧ t.thread.lockCount = s.thread.lockCount + 1) ∧
      (s.thread.state = .sync → r.locked = true → 25 ≤ s.thread.lockCount + 1 →
        t.thread.state = .run ∧ t.thread.stateTimer = none ∧ t.allotment = s.allotment) ∧
      (s.thread.state = .sync → r.locked = false → t.thread.state = .sync ∧ t.thread.lockCount = 0) ∧
      (s.thread.state = .run → 850 ≤ r.grid → t.thread.state = .run) ∧
      (s.thread.state = .run → r.grid < 850 → s.log.newest < Config.lastSequence →
        t.thread.state = .rideThrough ∧ t.thread.stateTimer = some s.now ∧ t.thread.recoveryTimer = none ∧
        s.Logged t s.own clsGrid 3 0 1 (some r.grid) none) ∧
      (s.thread.state = .rideThrough → t.thread.state = .rideThrough ∧ t.thread.recoveryTimer =
        if r.grid < 900 then none else if s.thread.recoveryTimer.isSome then s.thread.recoveryTimer else some s.now) ∧
      ((s.thread.state = .stopping ∨ s.thread.state = .off ∨ s.thread.state = .tripped) →
        t.thread.state = s.thread.state ∧ t.thread.restartHold = s.thread.restartHold ∧ t.log = s.log ∧
        t.allotment = s.allotment)

/-- R91 to R94: the one fault a good reply shows (overcurrent, desaturation, DC-link voltage, the second grid
overvoltage, or a breaker that does not follow its command) trips the thread, with the record and the detail of its
rule. A thread that trips drives its trip line, and its breaker-open time starts. R91 to R93: a good reply also tells
what is over: STACK 1 and STACK 2 are marked ended when their line reads inactive again, STACK 4 goes at a DC-link
voltage of 1100 or less and STACK 7 when the feedback agrees with the command; the overvoltage count returns to 0 at
1200 or less, and the grid-healthy timer starts from 900 to 1100 and stops outside. -/
def Obligations.ReplyFaultsTrip : Prop :=
  (∀ (s : State) (r : StackReply), s.running = true → s.goodReply r = true → s.takesOffers = true → s.CanReport →
      ((r.overcurrent = true → (∀ o, s.thread.reply = some o → o.overcurrent = false) →
        StackReply.Calm { r with overcurrent := false } → breakerMismatch s r = none →
        ∃ t, exec (.stackReply r) s = .next t ∧
          s.Tripped t clsStack 1 (isqrt (r.active.natAbs * r.active.natAbs + r.reactive.natAbs * r.reactive.natAbs))) ∧
      (r.desaturation = true → (∀ o, s.thread.reply = some o → o.desaturation = false) →
        StackReply.Calm { r with desaturation := false } → breakerMismatch s r = none →
        ∃ t, exec (.stackReply r) s = .next t ∧ s.Tripped t clsStack 2 0) ∧
      (1150 < r.dcLink → s.thread.dcLinkFault = false → StackReply.Calm { r with dcLink := 0 } →
        breakerMismatch s r = none →
        ∃ t, exec (.stackReply r) s = .next t ∧ s.Tripped t clsStack 4 r.dcLink ∧ t.thread.dcLinkFault = true) ∧
      (1200 < r.grid → s.thread.overvoltageCount = 1 → StackReply.Calm { r with grid := 0 } →
        breakerMismatch s r = none →
        ∃ t, exec (.stackReply r) s = .next t ∧ s.Tripped t clsGrid 2 r.grid ∧ t.thread.overvoltageCount = 2) ∧
      (r.Calm → s.thread.breakerFault = false → s.thread.state.gates = true → r.breakerClosed = false →
        ∃ t, exec (.stackReply r) s = .next t ∧ s.Tripped t clsStack 7 1 ∧ t.thread.breakerFault = true) ∧
      (r.Calm → s.thread.breakerFault = false → s.thread.state.quietable = true → r.breakerClosed = true →
        (∃ t0, s.thread.breakerOpenTimer = some t0 ∧ t0 + Config.breakerTime < s.now) →
        ∃ t, exec (.stackReply r) s = .next t ∧ s.Tripped t clsStack 7 2 ∧ t.thread.breakerFault = true))) ∧
  (∀ (s : State) (r : StackReply), s.running = true → s.goodReply r = true →
      let agrees := ((s.thread.state.gates = true ∨ s.thread.state = .sync) ∧ r.breakerClosed = true) ∨
        (s.thread.state.quietable = true ∧ r.breakerClosed = false)
      ∃ t, exec (.stackReply r) s = .next t ∧
        t.thread.overvoltageCount = (if 1200 < r.grid then min 2 (s.thread.overvoltageCount + 1) else 0) ∧
        (900 ≤ r.grid → r.grid ≤ 1100 →
          (s.thread.gridTimer = none → t.thread.gridTimer = some s.now) ∧
          (∀ t0, s.thread.gridTimer = some t0 → t.thread.gridTimer = some t0)) ∧
        ((r.grid < 900 ∨ 1100 < r.grid) → t.thread.gridTimer = none) ∧
        (s.CausesKept → r.overcurrent = false → (∃ o, s.thread.reply = some o ∧ o.overcurrent = true) →
          t.holdsCause clsStack 1 = s.holdsCause clsStack 1 ∧
          ∀ c ∈ t.fault.causes, c.cls = clsStack → c.code = 1 → c.ended = true) ∧
        (s.CausesKept → r.desaturation = false → (∃ o, s.thread.reply = some o ∧ o.desaturation = true) →
          t.holdsCause clsStack 2 = s.holdsCause clsStack 2 ∧
          ∀ c ∈ t.fault.causes, c.cls = clsStack → c.code = 2 → c.ended = true) ∧
        (s.thread.dcLinkFault = true → r.dcLink ≤ 1100 → t.thread.dcLinkFault = false ∧
          (s.CausesKept → t.holdsCause clsStack 4 = false)) ∧
        (s.thread.dcLinkFault = true → 1100 < r.dcLink → t.thread.dcLinkFault = true ∧
          t.holdsCause clsStack 4 = s.holdsCause clsStack 4) ∧
        (s.thread.breakerFault = true → agrees → t.thread.breakerFault = false ∧
          (s.CausesKept → t.holdsCause clsStack 7 = false)) ∧
        (s.thread.breakerFault = true → ¬agrees → t.thread.breakerFault = true ∧
          t.holdsCause clsStack 7 = s.holdsCause clsStack 7) ∧
        (r.Calm → breakerMismatch s r = none → s.thread.dcLinkFault = false → s.thread.breakerFault = false →
          s.thread.portOut = false →
          (∀ o, s.thread.reply = some o → o.overcurrent = false ∧ o.desaturation = false) → t.fault = s.fault))

/-- R84: a period at which all the start conditions hold moves the thread from OFF to PRECHARGE, and the exchange of
that period already commands the precharge contactor closed. A command after which a thread that was OFF is neither
OFF nor TRIPPED has moved it to PRECHARGE, and finds every start condition met. R90, R95: the period at which both
commands of a STOPPING thread have come to 0 takes it to OFF and starts its restart hold; until then it stays
STOPPING, its gates on. The start is judged on the C_own in hand, before the period's own allotment sets it
(assumption 16). -/
def Obligations.ThreadStarts : Prop :=
  (∀ (s : State) (t0 : Nat), s.isJoined = true → s.quiet.state = .active → s.cadence.timer = some t0 →
      t0 + s.cadence.expiry ≤ s.now → s.cadence.overdue = false →
      (s.thread.exchange.outstanding = true → s.thread.missCount + 1 ≠ 3) →
      s.thread.state = .off → s.demand.mode = .produce → s.table.controller.state = .live →
      0 < s.allotment.capability → s.fault.causes = [] → s.thread.portOut = false →
      (∀ h, s.thread.restartHold = some h → h + Config.restartHold ≤ s.now) →
      ∃ t, exec (.cadenceExpiry false) s = .next t ∧ t.thread.state = .precharge ∧
        t.thread.stateTimer = some s.now ∧ t.thread.breakerStep = .waitCharge ∧
        t.thread.exchange.sent.contactorClosed = true ∧ t.thread.exchange.sent.gates = false ∧
        t.thread.exchange.sent.breakerClosed = false ∧ t.allotment.pCommand = 0 ∧ t.allotment.qCommand = 0) ∧
  (∀ (c : Instr) (s t : State), exec c s = .next t → s.thread.state = .off → t.thread.state ≠ .off →
      t.thread.state ≠ .tripped →
      t.thread.state = .precharge ∧ s.demand.mode = .produce ∧ s.table.controller.state = .live ∧
      0 < s.allotment.capability ∧ s.fault.causes = [] ∧ t.quiet.state = .active ∧ s.isJoined = true ∧
      s.thread.portOut = false ∧ ∀ h, s.thread.restartHold = some h → h + Config.restartHold ≤ s.now) ∧
  (∀ (s : State) (t0 : Nat), s.isJoined = true → s.keepsCadence = true → s.cadence.timer = some t0 →
      t0 + s.cadence.expiry ≤ s.now → s.cadence.overdue = false →
      (s.thread.exchange.outstanding = true → s.thread.missCount + 1 ≠ 3) → s.thread.state = .stopping →
      let step := max 1 (s.cfg.rated / 250)
      ∃ t, exec (.cadenceExpiry false) s = .next t ∧
        t.thread.exchange.sent.gates = true ∧ t.thread.exchange.sent.breakerClosed = true ∧
        (s.allotment.pCommand ≤ step → s.allotment.qCommand.natAbs ≤ step →
          t.thread.state = .off ∧ t.thread.restartHold = some s.now ∧ t.table.changePending = true ∧
          t.allotment.pCommand = 0 ∧ t.allotment.qCommand = 0) ∧
        (step < s.allotment.pCommand → 0 < s.cfg.rated * s.cooling.factor / 1000 →
          t.thread.state = .stopping ∧ 0 < t.allotment.pCommand))

/-- R85, R86, R152: a state timer that reaches its limit in PRECHARGE or SYNC trips the thread with STACK 5 or STACK
6, held latched with its condition ended. R89, R91: 500 ms of recovery return a thread in RIDE_THROUGH to RUN with
GRID 4 NOTE; more than 3 s in it trip the thread with GRID 1. R91, R95: 1 s of healthy grid ends GRID 1 and GRID 2 and
no other cause; the restart hold runs out at 0. A timer that has not run out changes nothing (assumption 4). -/
def Obligations.StartAndRideThroughTimers : Prop :=
  (∀ (s : State) (t0 : Nat), s.running = true → s.takesOffers = true → s.CanReport → s.thread.stateTimer = some t0 →
      s.fault.causes = [] →
      (s.thread.state = .precharge → t0 + Config.prechargeLimit ≤ s.now →
        ∃ t, exec .prechargeTimeout s = .next t ∧
          s.Tripped t clsStack 5 (if s.thread.breakerStep = .waitCharge then 1 else 2) ∧
          t.fault.causes = [{ cls := 1, code := 5, kind := .latched, ended := true }]) ∧
      (s.thread.state = .precharge → s.now < t0 + Config.prechargeLimit → exec .prechargeTimeout s = .next s) ∧
      (s.thread.state = .sync → t0 + Config.syncLimit ≤ s.now →
        ∃ t, exec .syncTimeout s = .next t ∧ s.Tripped t clsStack 6 s.thread.lockCount ∧
          t.fault.causes = [{ cls := 1, code := 6, kind := .latched, ended := true }]) ∧
      (s.thread.state = .sync → s.now < t0 + Config.syncLimit → exec .syncTimeout s = .next s)) ∧
  (∀ (s : State) (t0 : Nat), s.running = true → s.thread.state = .rideThrough → s.thread.stateTimer = some t0 →
      (∀ t1, s.thread.recoveryTimer = some t1 → t1 + Config.recoveryTime ≤ s.now →
        s.log.newest < Config.lastSequence →
        ∃ t, exec .rideThroughRecovery s = .next t ∧ t.thread.state = .run ∧ t.thread.stateTimer = none ∧
          t.thread.recoveryTimer = none ∧ t.allotment = s.allotment ∧
          s.Logged t s.own clsGrid 4 0 1 (some (min 32767 ((s.now - t0) / 40000) : Nat)) none) ∧
      (∀ t1, s.thread.recoveryTimer = some t1 → s.now < t1 + Config.recoveryTime →
        exec .rideThroughRecovery s = .next s) ∧
      (s.now ≤ t0 + Config.rideThroughLimit → exec .rideThroughTooLong s = .next s) ∧
      (t0 + Config.rideThroughLimit < s.now → s.takesOffers = true → s.CanReport →
        s.thread.gridTimer.reached s.now Config.gridHealthy = false →
        ∃ t, exec .rideThroughTooLong s = .next t ∧ s.Tripped t clsGrid 1 (s.gridVoltage.getD 0))) ∧
  (∀ (s : State) (t0 : Nat), s.running = true →
      (s.thread.gridTimer = some t0 → t0 + Config.gridHealthy ≤ s.now → s.CausesKept →
        ∃ t, exec .gridHealthyTimer s = .next t ∧ t = { s with fault := t.fault } ∧
          t.holdsCause clsGrid 1 = false ∧ t.holdsCause clsGrid 2 = false ∧
          ∀ cls code, (cls, code) ≠ (clsGrid, 1) → (cls, code) ≠ (clsGrid, 2) →
            t.holdsCause cls code = s.holdsCause cls code) ∧
      (s.thread.gridTimer = some t0 → s.now < t0 + Config.gridHealthy → exec .gridHealthyTimer s = .next s) ∧
      (s.thread.restartHold = some t0 → t0 + Config.restartHold ≤ s.now →
        exec .restartHoldExpiry s = .next { s with thread := { s.thread with restartHold := none } }) ∧
      (s.thread.restartHold = some t0 → s.now < t0 + Config.restartHold → exec .restartHoldExpiry s = .next s))

/-! ## Allotment -/

/-- R62, R64, R69, R72: the computation of a period sets C_own, zeroes targets and commands in OFF, PRECHARGE, SYNC
and TRIPPED, zeroes the targets in STOPPING and the commands at C_own 0. It moves the active command of RUN and
STOPPING by one slew at most, where C_own does not cut it, and that of RIDE_THROUGH up by one slew at most; the
reactive command of RUN and STOPPING grows in magnitude by one slew at most (that of RIDE_THROUGH is not ramped).
Nothing outside the Allotment Unit changes. -/
def Obligations.AllotmentOfAPeriod : Prop :=
  ∀ s : State,
    let t := allot s
    let c := s.cfg.rated * s.cooling.factor / 1000
    let slew := max 1 (s.cfg.rated / 250)
    t = { s with allotment := t.allotment } ∧ t.allotment.capability = c ∧
    (s.thread.state.zeroCommands = true →
      t.allotment.pTarget = 0 ∧ t.allotment.qTarget = 0 ∧ t.allotment.pCommand = 0 ∧ t.allotment.qCommand = 0) ∧
    (s.thread.state = .stopping → t.allotment.pTarget = 0 ∧ t.allotment.qTarget = 0) ∧
    (s.thread.state.zeroCommands = false → c = 0 → t.allotment.pCommand = 0 ∧ t.allotment.qCommand = 0) ∧
    ((s.thread.state = .run ∨ s.thread.state = .stopping) → s.allotment.pCommand ≤ c →
      t.allotment.pCommand ≤ s.allotment.pCommand + slew ∧ s.allotment.pCommand ≤ t.allotment.pCommand + slew) ∧
    ((s.thread.state = .run ∨ s.thread.state = .stopping) →
      t.allotment.qCommand.natAbs ≤ s.allotment.qCommand.natAbs + slew) ∧
    (s.thread.state = .rideThrough → t.allotment.pCommand ≤ s.allotment.pCommand + slew)

/-- R63, R64, R65: the intake is the effective demand clamped to 0 to 28000 and −28000 to 28000 amperes, or 0 outside
PRODUCE and with entry 0 LOST; the capability sum is C_own in RUN and RIDE_THROUGH plus the capabilities of the LIVE
thread entries in those states, 4000 at most each; the raw share is each in proportion, truncated toward zero. R69 to
R71: in RUN and STOPPING both commands step toward their targets by the slew, the active one is bounded by C_own and
the reactive one by what the circle leaves it; in RIDE_THROUGH the reactive command is the target at once, bounded by
C_own, and the active one is bounded by what the circle leaves it. -/
def Obligations.ShareAndEnvelope : Prop :=
  (∀ s : State,
      ((s.demand.mode ≠ .produce ∨ s.table.controller.state = .lost) → s.intake = (0, 0)) ∧
      (s.demand.mode = .produce → s.table.controller.state ≠ .lost →
        (s.intake.1 : Int) = (if s.demand.active < 0 then 0 else if 28000 < s.demand.active then 28000
          else s.demand.active) ∧
        s.intake.2 = if s.demand.reactive < -28000 then -28000 else if 28000 < s.demand.reactive then 28000
          else s.demand.reactive) ∧
      (let part (n : Nat) : Nat :=
        if n = s.own then
          if s.thread.state = .run ∨ s.thread.state = .rideThrough then s.allotment.capability else 0
        else
          match s.table.threads.get? n with
          | none => 0
          | some e =>
            match e.record with
            | none => 0
            | some r =>
              if e.role = .thread ∧ e.state = .live ∧ (r.threadCode = 3 ∨ r.threadCode = 4) then min 4000 r.capability
              else 0
       s.capabilitySum = part 1 + part 2 + part 3 + part 4 + part 5 + part 6 + part 7) ∧
      s.rawShare = (s.intake.1 * s.allotment.capability / s.capabilitySum,
        (s.intake.2 * (s.allotment.capability : Int)).tdiv (s.capabilitySum : Int))) ∧
  (∀ s : State,
      let t := (allot s).allotment
      let c := t.capability
      let step : Int := (max 1 (s.cfg.rated / 250) : Nat)
      let moved (target command : Int) : Int :=
        if target - command ≤ step ∧ command - target ≤ step then target
        else if command < target then command + step else command - step
      let p := (moved t.pTarget s.allotment.pCommand).toNat
      let q := moved t.qTarget s.allotment.qCommand
      ((s.thread.state = .run ∨ s.thread.state = .stopping) →
        t.pCommand = min p c ∧
        (q * q ≤ (c * c - min p c * min p c : Nat) → t.qCommand = q) ∧
        ((c * c - min p c * min p c : Nat) < q * q →
          t.qCommand.natAbs = isqrt (c * c - min p c * min p c) ∧ (0 ≤ q → 0 ≤ t.qCommand) ∧
          (q < 0 → t.qCommand ≤ 0))) ∧
      (s.thread.state = .rideThrough →
        t.qCommand = (if t.qTarget < -(c : Int) then -(c : Int) else if (c : Int) < t.qTarget then (c : Int)
          else t.qTarget) ∧
        t.pCommand = min p (isqrt (c * c - t.qCommand.natAbs * t.qCommand.natAbs))))

/-- R66, R67: the targets a period forms in RUN, active first, and in RIDE_THROUGH, support current first, with the
manual's integer square root; either pair lies in the circle of C_own, and a target at C_own leaves no reactive
current. -/
def Obligations.TargetsFitTheCircle : Prop :=
  (∀ s : State, s.thread.state = .run →
    let t := (allot s).allotment
    let raw := (setCapability s).rawShare
    let room := isqrt (t.capability * t.capability - t.pTarget * t.pTarget)
    0 < t.capability →
    t.pTarget = min raw.1 t.capability ∧
    (raw.2.natAbs ≤ room → t.qTarget = raw.2) ∧
    (room < raw.2.natAbs → t.qTarget = if 0 ≤ raw.2 then (room : Int) else -(room : Int)) ∧
    (t.pTarget : Int) * t.pTarget + t.qTarget * t.qTarget ≤ (t.capability : Int) * t.capability ∧
    (t.capability ≤ raw.1 → t.qTarget = 0)) ∧
  (∀ s : State, s.thread.state = .rideThrough →
    let t := (allot s).allotment
    let raw := (setCapability s).rawShare
    let support : Nat := match s.thread.reply with
      | none => 0
      | some r => if r.grid < 900 then min s.cfg.rated (2 * s.cfg.rated * (900 - r.grid) / 1000) else 0
    0 < t.capability →
    t.qTarget = (min support t.capability : Nat) ∧
    t.pTarget = min raw.1 (isqrt (t.capability * t.capability - min support t.capability * min support t.capability)) ∧
    (t.pTarget : Int) * t.pTarget + t.qTarget * t.qTarget ≤ (t.capability : Int) * t.capability) ∧
  (∀ n : Nat, isqrt n * isqrt n ≤ n ∧ n < (isqrt n + 1) * (isqrt n + 1))

/-- R72, R73: every step keeps the commands in the circle of C_own and zero in OFF, PRECHARGE, SYNC and TRIPPED; and
the thread of a station that rests (R75, R176) OFF or TRIPPED. -/
def Obligations.EnvelopeAlwaysKept : Prop :=
  ∀ s t : State, s.EnvelopeKept → step s = .next t → t.EnvelopeKept

/-! ## The peer table -/

/-- R43: a good status of another station that is new replaces the record, the tag and the age of its entry and moves
it by the table of R43; a repeat only refreshes the age; no other entry changes, and where the status raises no
nacelle trip and no session is in hand nothing else does. The STALE limit is that of the quiet interval in hand
(assumption 71). -/
def Obligations.StatusTaken : Prop :=
  ∀ (s : State) (levels : List Level) (n : Nat) (r : StatusRecord) (e : Entry StatusRecord),
    s.running = true → s.receives = true → receive levels = (false, .good n (.threadStatus r)) → n ≠ s.own →
    s.table.threads.get? n = some e →
    ∃ t e', exec (.frameReceived levels) s = .next t ∧ t.table.threads.get? n = some e' ∧
      (∀ m, m ≠ n → t.table.threads.get? m = s.table.threads.get? m) ∧ t.table.controller = s.table.controller ∧
      ((e.record.isSome = true ∧ e.lastTag = some r.tag) → e' = { e with age := 0 } ∧
        t = { s.received with table := { s.table with threads := t.table.threads } }) ∧
      ((e.record = none ∨ e.lastTag ≠ some r.tag) →
        e'.record = some r ∧ e'.lastTag = some r.tag ∧ e'.age = 0 ∧ e'.role = .thread ∧
        ((e.state = .absent ∨ e.state = .lost) → e'.state = .heard ∧ e'.good = 1) ∧
        (e.state = .heard → s.quiet.threadLimits.1 < e.age → e'.state = .heard ∧ e'.good = 1) ∧
        (e.state = .heard → e.age ≤ s.quiet.threadLimits.1 → e.good + 1 < 3 →
          e'.state = .heard ∧ e'.good = e.good + 1) ∧
        (e.state = .heard → e.age ≤ s.quiet.threadLimits.1 → 3 ≤ e.good + 1 → e'.state = .live ∧ e'.good = 3) ∧
        ((e.state = .live ∨ e.state = .stale) → e'.state = .live ∧ e'.good = 3)) ∧
      (r.nacelleTrip = false → s.yaw.state = .idle →
        t = { s.received with table := { s.table with threads := t.table.threads } })

/-- R49, R87, R90, R160: a new demand replaces the record, moves entry 0 between its states as a status moves a thread
entry, with the controller's own STALE limit, and is the effective demand at once; a thread whose mode ceases to be
PRODUCE stops; a changed acknowledge tag of a controller that was LIVE or STALE is taken by a TRIPPED thread, and by
no other. R177: a new demand with PRODUCE or STORM is a wake cause, taken by the quiet state it finds, and one with PARK
is none. R50: what the users of the demand read, for each code and each state of entry 0. The STALE limit is that of
the quiet interval in hand (assumption 71). -/
def Obligations.DemandTakenAndRead : Prop :=
  (∀ (s : State) (levels : List Level) (d : DemandRecord), s.running = true → s.receives = true →
      receive levels = (false, .good 0 (.plantDemand d)) →
      ∃ t, exec (.frameReceived levels) s = .next t ∧ t.table.threads = s.table.threads ∧
        ((s.table.controller.record.isSome = true ∧ s.table.controller.lastTag = some d.tag) →
          t = { s.received with table := { s.table with controller := { s.table.controller with age := 0 } } }) ∧
        ((s.table.controller.record = none ∨ s.table.controller.lastTag ≠ some d.tag) →
          t.table.controller.record = some d ∧ t.table.controller.lastTag = some d.tag ∧ t.table.controller.age = 0 ∧
          t.table.controller.role = .turbineController ∧
          (let e := s.table.controller
           let stale := s.quiet.controllerLimits.1
           ((e.state = .absent ∨ e.state = .lost) →
             t.table.controller.state = .heard ∧ t.table.controller.good = 1) ∧
           (e.state = .heard → stale < e.age → t.table.controller.state = .heard ∧ t.table.controller.good = 1) ∧
           (e.state = .heard → e.age ≤ stale → e.good + 1 < 3 →
             t.table.controller.state = .heard ∧ t.table.controller.good = e.good + 1) ∧
           (e.state = .heard → e.age ≤ stale → 3 ≤ e.good + 1 →
             t.table.controller.state = .live ∧ t.table.controller.good = 3) ∧
           ((e.state = .live ∨ e.state = .stale) →
             t.table.controller.state = .live ∧ t.table.controller.good = 3)) ∧
          t.demand = d.read ∧
          (d.read.mode ≠ .produce → (s.thread.state = .precharge ∨ s.thread.state = .sync) →
            t.thread.state = .off ∧ t.thread.stateTimer = none ∧ t.thread.restartHold = some s.now) ∧
          (d.read.mode ≠ .produce → (s.thread.state = .run ∨ s.thread.state = .rideThrough) →
            t.thread.state = .stopping ∧ t.thread.stateTimer = none ∧ t.thread.recoveryTimer = none ∧
            t.allotment = s.allotment) ∧
          (d.read.mode = .produce → t.thread.state = s.thread.state) ∧
          (d.read.mode ≠ .park → s.quiet.state = .pending → t.quiet.state = .active) ∧
          (d.read.mode ≠ .park → s.WakeTaken t) ∧
          (d.read.mode = .park → t.quiet = s.quiet ∧ t.cadence = s.cadence) ∧
          (∀ o, s.thread.state = .tripped → s.table.controller.record = some o → o.ackTag ≠ d.ackTag →
            (s.table.controller.state = .live ∨ s.table.controller.state = .stale) →
            t.fault.pendingAck = some s.now) ∧
          ((s.thread.state ≠ .tripped ∨ s.table.controller.state = .heard ∨ s.table.controller.state = .lost ∨
              s.table.controller.state = .absent ∨
              ∀ o, s.table.controller.record = some o → o.ackTag = d.ackTag) →
            t.fault.pendingAck = s.fault.pendingAck))) ∧
  (∀ s : State,
      ((s.table.controller.state = .absent ∨ s.table.controller.state = .lost) →
        s.demand = { mode := .park, auxGrid := false, active := 0, reactive := 0, order := .auto, budget := 0 }) ∧
      (∀ d, s.table.controller.record = some d → s.table.controller.state ≠ .absent →
        s.table.controller.state ≠ .lost →
        s.demand.mode = (if d.modeCode = 1 then .produce else if d.modeCode = 2 then .storm else .park) ∧
        s.demand.auxGrid = decide (d.auxCode = 0) ∧ s.demand.active = d.active ∧ s.demand.reactive = d.reactive ∧
        s.demand.order = (if d.orderCode = 0 then .auto else if d.orderCode = 2 then .untwist
          else if d.orderCode = 3 then .turnCw else if d.orderCode = 4 then .turnCcw else .hold) ∧
        s.demand.budget = if 28 < d.budget then 28 else d.budget))

/-- R42, R46: the ageing limits of the thread entries; while QUIET both limits of every entry are scaled to the quiet
interval, up to 65534; an entry passes a limit when its age is greater, so that one of age 65534 whose limits are both
65534 goes from LIVE to LOST in one step. -/
def Obligations.AgeingLimits : Prop :=
  ∀ q : QuietControl,
    (q.state ≠ .quiet → q.threadLimits = (6, 20) ∧ q.controllerLimits = (30, 200)) ∧
    (q.state = .quiet → q.threadLimits = (min 65534 (2500 * q.interval), min 65534 (5000 * q.interval)) ∧
      q.controllerLimits = q.threadLimits) ∧
    (q.state = .quiet → q.interval = 4 → q.threadLimits = (10000, 20000)) ∧
    (q.state = .quiet → q.interval = 20 → q.threadLimits = (50000, 65534)) ∧
    (q.state = .quiet → q.interval = 30 → q.threadLimits = (65534, 65534) ∧
      ∀ e : Entry StatusRecord, e.state = .live → e.age = 65534 → (e.ageStep q.threadLimits).state = .lost ∧
        (e.ageStep q.threadLimits).age = 65535) ∧
    (∀ (limits : Nat × Nat) (e : Entry StatusRecord), e.state = .live → e.age < 65535 →
      (e.ageStep limits).age = e.age + 1 ∧
      ((e.ageStep limits).state = .lost ↔ limits.2 < e.age + 1) ∧
      ((e.ageStep limits).state = .stale ↔ limits.1 < e.age + 1 ∧ e.age + 1 ≤ limits.2))

/-- R57, R58, R102, R55, R59: the records used are those of the LIVE thread entries of other stations, in ascending
order; the wind sources are the station itself, with the values its Wind Input Unit publishes, and those records; the
pump and the fan owners are the station by its role and proof and the records that show the flag, each with its
healthy flag; flow is proven by the own proof of a pump owner, and else by a healthy pump owner; the switching set and
the nacelle-trip view list the stations whose thread switches or whose LIVE or STALE entry shows the flag. -/
def Obligations.ViewsOfTheEntries : Prop :=
  ∀ s : State,
    (s.liveRecords.map (·.1)).Pairwise (· < ·) ∧
    (∀ n r, (n, r) ∈ s.liveRecords ↔ n ≠ s.own ∧
      ∃ e, s.table.threads.get? n = some e ∧ e.role = .thread ∧ e.state = .live ∧ e.record = some r) ∧
    (s.windSources.map (·.station)).Pairwise (· < ·) ∧
    (∀ x, x ∈ s.windSources ↔
      (1 ≤ s.own ∧ s.own ≤ 7 ∧ x.station = s.own ∧
        x.direction = (if s.cfg.vane = true ∧ s.wind.vaneValid = true then some s.wind.direction else none) ∧
        x.speed = (if s.cfg.anemometer = true ∧ s.wind.speedStatus = .valid then s.wind.ownSpeed else none) ∧
        x.twist = (if s.cfg.encoder = true ∧ s.wind.twistStatus = .valid then s.wind.ownTwist else none)) ∨
      ∃ r, (x.station, r) ∈ s.liveRecords ∧ x.direction = r.direction ∧ x.speed = r.windSpeed ∧ x.twist = r.twist) ∧
    (∀ n h, (n, h) ∈ s.pumpOwners ↔ (n = s.own ∧ s.cfg.role = .pump ∧ h = s.cooling.healthy) ∨
      ∃ r, (n, r) ∈ s.liveRecords ∧ r.pumpOwner = true ∧ h = r.pumpHealthy) ∧
    (∀ n h, (n, h) ∈ s.fanOwners ↔ (n = s.own ∧ s.cfg.role = .fan ∧ h = s.cooling.healthy) ∨
      ∃ r, (n, r) ∈ s.liveRecords ∧ r.fanOwner = true ∧ h = r.fanHealthy) ∧
    (s.flowProven = true ↔ (s.cfg.role = .pump ∧ s.cooling.healthy = true) ∨
      (s.cfg.role ≠ .pump ∧ ∃ n, (n, true) ∈ s.pumpOwners)) ∧
    s.switchingSet.Pairwise (· < ·) ∧
    (∀ n, n ∈ s.switchingSet ↔
      (1 ≤ s.own ∧ s.own ≤ 7 ∧ n = s.own ∧
        (s.thread.state = .sync ∨ s.thread.state = .run ∨ s.thread.state = .rideThrough)) ∨
      ∃ r, (n, r) ∈ s.liveRecords ∧ (r.threadCode = 2 ∨ r.threadCode = 3 ∨ r.threadCode = 4)) ∧
    (∀ n, n ∈ s.nacelleView ↔ n ≠ s.own ∧
      ∃ e r, s.table.threads.get? n = some e ∧ e.role = .thread ∧ (e.state = .live ∨ e.state = .stale) ∧
        e.record = some r ∧ r.nacelleTrip = true)

/-- R45: the ageing step of 1 ms: every entry but the own one and the ABSENT ones, entry 0 among them, ages by one and
is judged by its limits. R48: entry 0 become LOST reports PLANT 3 WARN, and a thread in RUN then stops. A step that is
not due changes nothing (assumption 4). -/
def Obligations.EntriesAge : Prop :=
  ∀ (s : State) (t0 : Nat), s.running = true → s.table.ageTimer = some t0 →
    (s.now < t0 + Config.ageing → exec .ageingStep s = .next s) ∧
    (t0 + Config.ageing ≤ s.now → ∃ t, exec .ageingStep s = .next t ∧ t.table.ageTimer = some (t0 + Config.ageing) ∧
      t.table.threads.get? s.own = s.table.threads.get? s.own ∧
      (∀ n e, n ≠ s.own → s.table.threads.get? n = some e → ∃ e', t.table.threads.get? n = some e' ∧
        e'.record = e.record ∧ e'.lastTag = e.lastTag ∧ e'.role = e.role ∧
        (e.state = .absent → e' = e) ∧
        (e.state ≠ .absent → e'.age = min 65535 (e.age + 1) ∧
          (s.quiet.threadLimits.2 < e'.age → e'.state = .lost ∧ e'.good = 0) ∧
          (e'.age ≤ s.quiet.threadLimits.2 → s.quiet.threadLimits.1 < e'.age → e.state = .live →
            e'.state = .stale ∧ e'.good = e.good) ∧
          (e'.age ≤ s.quiet.threadLimits.2 → (e'.age ≤ s.quiet.threadLimits.1 ∨ e.state ≠ .live) →
            e'.state = e.state ∧ e'.good = e.good))) ∧
      t.table.controller.record = s.table.controller.record ∧ t.table.controller.lastTag = s.table.controller.lastTag ∧
      t.table.controller.role = s.table.controller.role ∧
      (s.table.controller.state = .absent → t.table.controller = s.table.controller) ∧
      (s.table.controller.state ≠ .absent →
        t.table.controller.age = min 65535 (s.table.controller.age + 1) ∧
        (s.quiet.controllerLimits.2 < t.table.controller.age →
          t.table.controller.state = .lost ∧ t.table.controller.good = 0) ∧
        (t.table.controller.age ≤ s.quiet.controllerLimits.2 → s.quiet.controllerLimits.1 < t.table.controller.age →
          s.table.controller.state = .live →
          t.table.controller.state = .stale ∧ t.table.controller.good = s.table.controller.good) ∧
        (t.table.controller.age ≤ s.quiet.controllerLimits.2 →
          (t.table.controller.age ≤ s.quiet.controllerLimits.1 ∨ s.table.controller.state ≠ .live) →
          t.table.controller.state = s.table.controller.state ∧ t.table.controller.good = s.table.controller.good)) ∧
      (s.yaw.state = .idle → s.takesOffers = true → s.CanReport → s.table.controller.state ≠ .absent →
        s.table.controller.state ≠ .lost → s.quiet.controllerLimits.2 < min 65535 (s.table.controller.age + 1) →
        t.table.controller.state = .lost ∧
        s.Logged t s.own clsPlant 3 1 1 (some (min 32767 (s.table.controller.age + 1) : Nat)) none ∧
        s.Noticed t clsPlant 3 1 1 (min 32767 (s.table.controller.age + 1) : Nat) ∧
        (s.thread.state = .run → t.thread.state = .stopping)))

/-- R51 to R53: the own status is built at its period, or for a pending change from 500 µs on, by a command of its own
(assumption 13); it bears the next tag and in every field what the block of that field shows, replaces the own record
and is offered to the queue by R14. Before its time the command changes nothing (assumption 4). The healthy flags of a
station that is no owner are clear (assumption 23). -/
def Obligations.StatusBuilt : Prop :=
  ∀ (s : State) (t0 : Nat) (e : Entry StatusRecord), s.isJoined = true → s.table.statusTimer = some t0 →
    s.table.threads.get? s.own = some e →
    let period := if s.quiet.state = .quiet then s.quiet.interval * 40000000 else 80000
    let tag := (s.table.statusTag + 1) % 256
    ((s.now < t0 + period ∧ (s.table.changePending = false ∨ s.now < t0 + 20000)) → exec .statusBuild s = .next s) ∧
    ((t0 + period ≤ s.now ∨ (s.table.changePending = true ∧ t0 + 20000 ≤ s.now)) →
      ∃ t, exec .statusBuild s = .next t ∧
        t = { s with link := t.link, table := { s.table with
          threads := s.table.threads.set s.own { e with record := some (s.statusNow tag), lastTag := some tag },
          statusTag := tag, statusTimer := some s.now, changePending := false } } ∧
        t.link = (offerStatus s (s.statusNow tag)).link) ∧
    s.statusNow tag =
      { tag := tag,
        nacelleTrip := s.holdsCause clsPlant 1 || s.holdsCause clsPlant 2,
        threadCode := s.thread.state.code, capability := s.allotment.capability, yawCode := s.yaw.state.code,
        active := s.measured.1, motorsReady := s.motorsReady, reactive := s.measured.2,
        heatLoad := s.cooling.heatKilowatts,
        pumpOwner := decide (s.cfg.role = .pump), flowDemand := s.cooling.flowDemand,
        fanOwner := decide (s.cfg.role = .fan), fanDemand := s.cooling.fanDemand,
        isolated := s.cfg.isolated,
        fanHealthy := decide (s.cfg.role = .fan) && s.cooling.healthy,
        pumpHealthy := decide (s.cfg.role = .pump) && s.cooling.healthy,
        proposer := s.yaw.session.proposer, sessionTag := s.yaw.session.tag,
        direction := if s.cfg.vane = true ∧ s.wind.vaneValid = true then some s.wind.direction else none,
        windSpeed := if s.cfg.anemometer = true ∧ s.wind.speedStatus = .valid then s.wind.ownSpeed else none,
        brakesReleased := s.pins.brakesReleased,
        twist := if s.cfg.encoder = true ∧ s.wind.twistStatus = .valid then s.wind.ownTwist else none,
        cadenceCount := s.cadence.count, lastWindow := min 255 s.link.lastWindow, foreign := s.link.foreign,
        corrected := s.link.corrected, losses := s.link.losses, superseded := s.link.superseded }

/-! ## Cooling -/

/-- R99, R101 to R103: an evaluation judges each sensor by its reading, the heatsink by the reply record, forms the
two temperature terms from their values and the flow term from the proof, and F is the least of the three; a held
value is used as if read, and a sensor that gives none has term 0. R62: an evaluation in LISTEN or in QUIET sets C_own
from the F it has formed; in JOINED otherwise C_own waits for the next period. An evaluation that is not due changes
nothing (assumption 4). -/
def Obligations.ThermalFactorFormed : Prop :=
  ∀ (s : State) (t0 : Nat) (inlet outlet : Option Int), s.running = true → s.cooling.timer = some t0 →
    (s.now < t0 + Config.evaluation → exec (.coolingEvaluation inlet outlet) s = .next s) ∧
    (t0 + Config.evaluation ≤ s.now → ∃ t, exec (.coolingEvaluation inlet outlet) s = .next t ∧
      t.cooling.timer = some (t0 + Config.evaluation) ∧ t.wind = s.wind ∧ t.config = s.config ∧
      s.cooling.inlet.Moved t.cooling.inlet inlet ∧ s.cooling.outlet.Moved t.cooling.outlet outlet ∧
      (s.thread.validity = .absent → t.cooling.heatsink = s.cooling.heatsink) ∧
      (s.thread.validity = .expired → s.cooling.heatsink.Moved t.cooling.heatsink none) ∧
      (∀ r, s.thread.reply = some r → (s.thread.validity = .valid ∨ s.thread.validity = .held) →
        s.cooling.heatsink.Moved t.cooling.heatsink (some r.heatsink)) ∧
      ((t.cooling.inlet.state = .notRead ∨ t.cooling.inlet.state = .failed) → t.cooling.factorInlet = 0) ∧
      ((t.cooling.inlet.state = .valid ∨ t.cooling.inlet.state = .holding) →
        (t.cooling.inlet.last ≤ 450 → t.cooling.factorInlet = 1000) ∧
        (550 ≤ t.cooling.inlet.last → t.cooling.factorInlet = 0) ∧
        (450 < t.cooling.inlet.last → t.cooling.inlet.last < 550 →
          (t.cooling.factorInlet : Int) = 1000 * (550 - t.cooling.inlet.last) / 100)) ∧
      ((t.cooling.heatsink.state = .notRead ∨ t.cooling.heatsink.state = .failed) → t.cooling.factorHeatsink = 0) ∧
      ((t.cooling.heatsink.state = .valid ∨ t.cooling.heatsink.state = .holding) →
        (t.cooling.heatsink.last ≤ 700 → t.cooling.factorHeatsink = 1000) ∧
        (900 ≤ t.cooling.heatsink.last → t.cooling.factorHeatsink = 0) ∧
        (700 < t.cooling.heatsink.last → t.cooling.heatsink.last < 900 →
          (t.cooling.factorHeatsink : Int) = 1000 * (900 - t.cooling.heatsink.last) / 200)) ∧
      t.cooling.factorFlow = (if s.flowProven = true then 1000 else 500) ∧
      t.cooling.factor = min (min t.cooling.factorHeatsink t.cooling.factorInlet) t.cooling.factorFlow ∧
      (s.quiet.state ≠ .quiet → s.link.state = .joined → t.allotment.capability = s.allotment.capability) ∧
      (s.quiet.state = .quiet → s.link.state = .joined →
        t.allotment.capability = s.cfg.rated * t.cooling.factor / 1000) ∧
      (s.link.state = .listen → t.allotment.capability = s.cfg.rated * t.cooling.factor / 1000))

/-- R100: a sensor that goes invalid from NOT_READ or VALID reports THERMAL 2, 3 or 5 WARN with its reading, and one
already HOLDING or FAILED, or valid, does not. R103: the derate note is reported as THERMAL 4 NOTE when F falls below
1000 while armed, and armed again after 100 evaluations at 1000. R110: the twentieth low evaluation of a healthy
actuator reports COOLING 1 for a pump and 2 for a fan, with the count. R111: the twentieth evaluation on which the
thread switches with no pump owner reports COOLING 3, once until that ends. With the fault log short of its last
number. -/
def Obligations.CoolingReports : Prop :=
  ∀ (s : State) (t0 : Nat) (inlet outlet : Option Int), s.running = true → s.cooling.timer = some t0 →
    t0 + Config.evaluation ≤ s.now → s.LogOpen →
    ∃ t, exec (.coolingEvaluation inlet outlet) s = .next t ∧
      (let judged (code : Nat) (before : Sensor) (reading : Option Int) : Prop :=
        (((reading = none ∨ ∃ v, reading = some v ∧ (v < -400 ∨ 1500 < v)) ∧
            (before.state = .notRead ∨ before.state = .valid)) →
          s.Reports t clsThermal code 1 1 (reading.getD (-32768))) ∧
        (((∃ v, reading = some v ∧ -400 ≤ v ∧ v ≤ 1500) ∨ before.state = .holding ∨ before.state = .failed) →
          s.NoReport t clsThermal code)
       judged 3 s.cooling.inlet inlet ∧ judged 5 s.cooling.outlet outlet ∧
       (s.thread.validity = .absent → s.NoReport t clsThermal 2) ∧
       (s.thread.validity = .expired → judged 2 s.cooling.heatsink none) ∧
       (∀ r, s.thread.reply = some r → (s.thread.validity = .valid ∨ s.thread.validity = .held) →
         judged 2 s.cooling.heatsink (some r.heatsink))) ∧
      (s.cooling.derateArmed = true → t.cooling.factor < 1000 →
        s.Reports t clsThermal 4 0 1 t.cooling.factor ∧ t.cooling.derateArmed = false ∧ t.cooling.derateCount = 0) ∧
      ((s.cooling.derateArmed = false ∨ t.cooling.factor = 1000) → s.NoReport t clsThermal 4) ∧
      (s.cooling.derateArmed = true → t.cooling.factor = 1000 → t.cooling.derateArmed = true) ∧
      (s.cooling.derateArmed = false → t.cooling.factor < 1000 →
        t.cooling.derateArmed = false ∧ t.cooling.derateCount = 0) ∧
      (s.cooling.derateArmed = false → t.cooling.factor = 1000 → s.cooling.derateCount + 1 < 100 →
        t.cooling.derateArmed = false ∧ t.cooling.derateCount = s.cooling.derateCount + 1) ∧
      (s.cooling.derateArmed = false → t.cooling.factor = 1000 → 100 ≤ s.cooling.derateCount + 1 →
        t.cooling.derateArmed = true ∧ t.cooling.derateCount = 0) ∧
      (let stalls := s.cooling.tachCount < s.cfg.tachMinimum ∧ 30 ≤ s.cooling.command ∧ 19 ≤ s.cooling.lowRun ∧
         s.cooling.healthy = true
       (s.cfg.role = .pump → stalls → s.Reports t clsCooling 1 1 1 s.cooling.tachCount) ∧
       (s.cfg.role = .fan → stalls → s.Reports t clsCooling 2 1 1 s.cooling.tachCount) ∧
       ((s.cfg.role ≠ .pump ∨ ¬stalls) → s.NoReport t clsCooling 1) ∧
       ((s.cfg.role ≠ .fan ∨ ¬stalls) → s.NoReport t clsCooling 2)) ∧
      (let alone := (t.thread.state = .sync ∨ t.thread.state = .run ∨ t.thread.state = .rideThrough) ∧ s.pumpOwners = []
       (alone → t.cooling.absenceRun = min 20 (s.cooling.absenceRun + 1)) ∧
       (¬alone → t.cooling.absenceRun = 0 ∧ t.cooling.absenceLogged = false) ∧
       (alone → 19 ≤ s.cooling.absenceRun → s.cooling.absenceLogged = false →
         s.Reports t clsCooling 3 1 1 0 ∧ t.cooling.absenceLogged = true) ∧
       (alone → s.cooling.absenceRun < 19 → t.cooling.absenceLogged = s.cooling.absenceLogged) ∧
       ((¬alone ∨ s.cooling.absenceRun < 19 ∨ s.cooling.absenceLogged = true) → s.NoReport t clsCooling 3))

/-- R105 to R107: the heat load of an evaluation, taken from the recorded currents or from 0 and 0, and the flow and
fan demands formed from it, the thread state and the coolant temperatures, as read or as held. -/
def Obligations.HeatLoadAndDemands : Prop :=
  ∀ (s : State) (t0 : Nat) (inlet outlet : Option Int), s.running = true → s.cooling.timer = some t0 →
    t0 + Config.evaluation ≤ s.now → ∃ t, exec (.coolingEvaluation inlet outlet) s = .next t ∧
      (∀ r, s.thread.reply = some r → (s.thread.validity = .valid ∨ s.thread.validity = .held) →
        ∀ i, i * i ≤ r.active.natAbs * r.active.natAbs + r.reactive.natAbs * r.reactive.natAbs →
          r.active.natAbs * r.active.natAbs + r.reactive.natAbs * r.reactive.natAbs < (i + 1) * (i + 1) →
          t.cooling.heatWatts = 2 * i + i * i / 400) ∧
      ((s.thread.validity = .absent ∨ s.thread.validity = .expired) → t.cooling.heatWatts = 0) ∧
      t.cooling.heatKilowatts = min 255 (t.cooling.heatWatts / 1000) ∧
      ((t.cooling.inlet.state = .valid ∨ t.cooling.inlet.state = .holding) →
        (t.cooling.inlet.last ≤ 300 → t.cooling.fanDemand = 0) ∧
        (450 ≤ t.cooling.inlet.last → t.cooling.fanDemand = 100) ∧
        (300 < t.cooling.inlet.last → t.cooling.inlet.last < 450 →
          (t.cooling.fanDemand : Int) = 100 * (t.cooling.inlet.last - 300) / 150)) ∧
      ((t.cooling.inlet.state = .notRead ∨ t.cooling.inlet.state = .failed) → t.cooling.fanDemand = 100) ∧
      ((t.cooling.outlet.state = .valid ∨ t.cooling.outlet.state = .holding) →
        (t.cooling.flowDemand : Int) =
          max (if t.thread.state = .sync ∨ t.thread.state = .run ∨ t.thread.state = .rideThrough then 20 else 0)
            (max (if t.cooling.outlet.last ≤ 350 then 0 else min 100 (20 + 80 * (t.cooling.outlet.last - 350) / 150))
              (min 100 (2 * (t.cooling.heatKilowatts : Int))))) ∧
      ((t.cooling.outlet.state = .notRead ∨ t.cooling.outlet.state = .failed) → t.cooling.flowDemand = 100)

/-- R104: a valid heatsink reading of 95.0 °C or more trips the thread with THERMAL 1, and one below 85.0 °C ends that
condition; between them the flag and the thread stay. -/
def Obligations.HeatsinkTripsAt95Degrees : Prop :=
  ∀ (s : State) (t0 : Nat) (inlet outlet : Option Int) (r : StackReply), s.running = true →
    s.cooling.timer = some t0 → t0 + Config.evaluation ≤ s.now → s.thread.validity = .valid →
    s.thread.reply = some r → -400 ≤ r.heatsink → r.heatsink ≤ 1500 →
    ∃ t, exec (.coolingEvaluation inlet outlet) s = .next t ∧ t.cooling.heatsink.last = r.heatsink ∧
      (950 ≤ r.heatsink → s.cooling.thermalFlag = false → t.cooling.thermalFlag = true ∧ t.thread.state = .tripped ∧
        t.holdsCause clsThermal 1 = true) ∧
      (r.heatsink < 850 → s.cooling.thermalFlag = true → t.cooling.thermalFlag = false ∧
        (s.CausesKept → t.holdsCause clsThermal 1 = false) ∧ t.thread.state = s.thread.state) ∧
      (850 ≤ r.heatsink → r.heatsink < 950 → t.cooling.thermalFlag = s.cooling.thermalFlag ∧
        t.thread.state = s.thread.state)

/-- R108, R109: an owner's command is the largest of its own demand and those of its LIVE entries, and the next duty
is twenty counts for each per cent; at the end of a PWM period that duty becomes the running one, for which the output
is active from the start of the period. R110: tachometer pulses are counted, and an evaluation of an owner judges the
count against its minimum for the command in force while it was counted: twenty low evaluations make the record
unhealthy, twenty high ones healthy again. A received demand is merged as it stands (assumption 23), the phase of the
PWM period is the model's (assumption 10), and before its moment the end of a period changes nothing (assumption 4).
Pulses count in every running state, LISTEN among them (assumption 55). -/
def Obligations.ActuatorCommandedAndProven : Prop :=
  (((∀ (s : State) (t0 : Nat) (inlet outlet : Option Int), (s.isJoined = true ∨ s.isSilent = true) →
        s.cooling.timer = some t0 → t0 + Config.evaluation ≤ s.now →
        ∃ t, exec (.coolingEvaluation inlet outlet) s = .next t ∧
          (s.cfg.role = .none → t.cooling.command = s.cooling.command ∧ t.cooling.nextDuty = s.cooling.nextDuty) ∧
          (s.cfg.role = .pump → t.cooling.flowDemand ≤ t.cooling.command ∧
            (∀ nr ∈ s.liveRecords, nr.2.flowDemand ≤ t.cooling.command) ∧
            (t.cooling.command = t.cooling.flowDemand ∨ ∃ nr ∈ s.liveRecords, t.cooling.command = nr.2.flowDemand)) ∧
          (s.cfg.role = .fan → t.cooling.fanDemand ≤ t.cooling.command ∧
            (∀ nr ∈ s.liveRecords, nr.2.fanDemand ≤ t.cooling.command) ∧
            (t.cooling.command = t.cooling.fanDemand ∨ ∃ nr ∈ s.liveRecords, t.cooling.command = nr.2.fanDemand)) ∧
          (s.cfg.role ≠ .none → t.cooling.nextDuty = t.cooling.command * 20) ∧
          t.cooling.runningDuty = s.cooling.runningDuty) ∧
      (∀ s : State, s.held = false →
        (s.cooling.pwmStart + 2000 ≤ s.now → exec .pwmPeriodEnd s = .next { s with cooling := { s.cooling with
          runningDuty := s.cooling.nextDuty, pwmStart := s.cooling.pwmStart + 2000 } }) ∧
        (s.now < s.cooling.pwmStart + 2000 → exec .pwmPeriodEnd s = .next s))) ∧
    ((∀ s : State, s.running = true → exec .tachPulse s = .next { s with
        cooling := { s.cooling with tachCount := min 65535 (s.cooling.tachCount + 1) } }) ∧
      (∀ (s : State) (t0 : Nat) (inlet outlet : Option Int), s.running = true → s.cooling.timer = some t0 →
        t0 + Config.evaluation ≤ s.now → s.cfg.role ≠ .none →
        ∃ t, exec (.coolingEvaluation inlet outlet) s = .next t ∧ t.cooling.tachCount = 0 ∧
          (s.cooling.tachCount < s.cfg.tachMinimum → 30 ≤ s.cooling.command →
            t.cooling.lowRun = min 20 (s.cooling.lowRun + 1) ∧ t.cooling.highRun = 0) ∧
          (s.cooling.tachCount < s.cfg.tachMinimum → s.cooling.command < 30 →
            t.cooling.lowRun = 0 ∧ t.cooling.highRun = 0) ∧
          (s.cfg.tachMinimum ≤ s.cooling.tachCount →
            t.cooling.lowRun = 0 ∧ t.cooling.highRun = min 20 (s.cooling.highRun + 1)) ∧
          t.cooling.healthy = if t.cooling.lowRun = 20 then false else if t.cooling.highRun = 20 then true
            else s.cooling.healthy))) ∧
  (∀ (s : State) (d : Nat), s.now = s.cooling.pwmStart + d →
      (s.pwmActive = true ↔ d < s.cooling.runningDuty) ∧
      (s.cooling.runningDuty = 0 → s.pwmActive = false) ∧
      (s.cooling.runningDuty = 2000 → d < 2000 → s.pwmActive = true))

/-! ## Wind -/

/-- R115, R116: a rising edge of the vane input judges the period it closes and opens a new one, a falling edge
captures the high time once, and a capture timer come round closes the period as none (assumption 19), with the
capture cleared (assumption 58); before that moment, and with no vane configured, nothing changes (assumption 4).
R119: an anemometer edge advances the prescaler phase, and the edge that reaches the prescaler counts. -/
def Obligations.WindEdgesTaken : Prop :=
  (∀ s : State, s.running = true → s.cfg.vane = true →
      let cap := s.now / 40 % 65536
      let opened (w : WindUnit) : WindUnit :=
        { w with periodOpen := some cap, openedAt := s.now / 40, highCapture := none, broken := false, wrapped := false }
      (s.wind.periodOpen = none → exec .vaneRisingEdge s = .next { s with wind := opened s.wind }) ∧
      (∀ a, s.wind.periodOpen = some a → (s.wind.highCapture = none ∨ s.wind.broken = true) →
        exec .vaneRisingEdge s = .next
          { s with wind := opened { s.wind with overruns := min 255 (s.wind.overruns + 1) } }) ∧
      (∀ a h, s.wind.periodOpen = some a → s.wind.highCapture = some h → s.wind.broken = false →
        let p := (cap + 65536 - a) % 65536
        let high := (h + 65536 - a) % 65536
        let d := 3600 * high / p
        ((500 ≤ p ∧ p ≤ 2000 ∧ p ≤ 50 * high ∧ 50 * high ≤ 49 * p) →
          exec .vaneRisingEdge s = .next
            { s with wind := opened { s.wind with
                sampleSum := s.wind.sampleSum + (if d < 1800 then (d : Int) else (d : Int) - 3600),
                sampleCount := s.wind.sampleCount + 1 } }) ∧
        ((p < 500 ∨ 2000 < p ∨ 50 * high < p ∨ 49 * p < 50 * high) →
          exec .vaneRisingEdge s = .next { s with wind := opened s.wind })) ∧
      (s.wind.periodOpen = none → exec .vaneFallingEdge s = .next s) ∧
      (s.wind.periodOpen.isSome = true → s.wind.highCapture = none →
        exec .vaneFallingEdge s = .next { s with wind := { s.wind with highCapture := some cap } }) ∧
      (s.wind.periodOpen.isSome = true → s.wind.highCapture.isSome = true →
        exec .vaneFallingEdge s = .next { s with wind := { s.wind with broken := true } }) ∧
      (s.wind.periodOpen.isSome = true → s.wind.openedAt + 65536 ≤ s.now / 40 →
        exec .vaneWrap s = .next { s with wind := { s.wind with
          periodOpen := none, highCapture := none, broken := false, wrapped := true } }) ∧
      (s.now / 40 < s.wind.openedAt + 65536 → exec .vaneWrap s = .next s)) ∧
  (∀ s : State, s.cfg.vane = false →
      exec .vaneRisingEdge s = .next s ∧ exec .vaneFallingEdge s = .next s ∧ exec .vaneWrap s = .next s) ∧
  (∀ s : State, s.running = true →
      (s.cfg.anemometer = false → exec .anemometerEdge s = .next s) ∧
      (s.cfg.anemometer = true → s.wind.prescalerPhase + 1 < s.cfg.prescaler →
        exec .anemometerEdge s = .next { s with wind := { s.wind with
          prescalerPhase := s.wind.prescalerPhase + 1 } }) ∧
      (s.cfg.anemometer = true → s.cfg.prescaler ≤ s.wind.prescalerPhase + 1 →
        exec .anemometerEdge s = .next { s with wind := { s.wind with
          prescalerPhase := 0, edgeCount := min 65535 (s.wind.edgeCount + 1) } }))

/-- R117 to R121: an evaluation closes the vane interval into the filter and the direction or counts it invalid,
closes the anemometer window into the own speed at its tenth, and takes the twist encoder. An evaluation that is not
due changes nothing (assumption 4). -/
def Obligations.WindInputsEvaluated : Prop :=
  ∀ (s : State) (t0 : Nat) (encoder : Option Int), s.running = true → s.wind.timer = some t0 →
    (s.now < t0 + Config.evaluation → exec (.windEvaluation encoder) s = .next s) ∧
    (t0 + Config.evaluation ≤ s.now → ∃ t, exec (.windEvaluation encoder) s = .next t ∧
      t.wind.timer = some (t0 + Config.evaluation) ∧ t.cooling = s.cooling ∧ t.config = s.config ∧
      (s.cfg.vane = true → t.wind.sampleSum = 0 ∧ t.wind.sampleCount = 0 ∧ t.wind.overruns = 0) ∧
      (s.cfg.vane = true → 20 ≤ s.wind.sampleCount →
        t.wind.filter = (if s.wind.seedDue = true then 128 * (s.wind.sampleSum.tdiv s.wind.sampleCount)
          else s.wind.filter - s.wind.filter.tdiv 128 + s.wind.sampleSum.tdiv s.wind.sampleCount) ∧
        t.wind.direction = t.wind.filter.tdiv 128 ∧ t.wind.seedDue = false ∧ t.wind.vaneValid = true ∧
        t.wind.invalidRun = 0 ∧ t.wind.runOverruns = 0) ∧
      (s.cfg.vane = true → s.wind.sampleCount < 20 →
        t.wind.filter = s.wind.filter ∧ t.wind.direction = s.wind.direction ∧ t.wind.seedDue = true ∧
        t.wind.invalidRun = min 10 (s.wind.invalidRun + 1) ∧
        t.wind.vaneValid = (s.wind.vaneValid && decide (s.wind.invalidRun + 1 < 10))) ∧
      (s.cfg.encoder = true → ∀ v, encoder = some v → -14400 ≤ v → v ≤ 14400 →
        t.wind.ownTwist = some v ∧ t.wind.twistStatus = .valid) ∧
      (s.cfg.encoder = true → (encoder = none ∨ ∃ v, encoder = some v ∧ (v < -14400 ∨ 14400 < v)) →
        t.wind.ownTwist = none ∧ t.wind.twistStatus = .invalid) ∧
      (s.cfg.anemometer = true → s.wind.windowCount + 1 < 10 →
        t.wind.windowCount = s.wind.windowCount + 1 ∧ t.wind.edgeCount = s.wind.edgeCount ∧
        t.wind.ownSpeed = s.wind.ownSpeed ∧ t.wind.speedStatus = s.wind.speedStatus) ∧
      (s.cfg.anemometer = true → 10 ≤ s.wind.windowCount + 1 →
        t.wind.windowCount = 0 ∧ t.wind.edgeCount = 0 ∧
        t.wind.ownSpeed = some (min 800 (s.wind.edgeCount * s.cfg.prescaler * s.cfg.speedFactor / 100)) ∧
        (s.wind.speedStatus = .none → s.wind.suspectRun < 59 → t.wind.speedStatus = .valid)))

/-- R118: the tenth invalid vane interval in a row reports SENSE 1 WARN with the overruns of the run. R121: a twist
read that fails after one that did not reports SENSE 3 WARN with the reading, held to 16 bits, or −32768 for none.
R120: at a window close an own speed below 1.0 m/s while a LIVE peer shows 8.0 m/s or more is suspect; the sixtieth in
a row makes the status INVALID with SENSE 2 WARN, and ten windows of 1.0 m/s or more make it VALID again; the first
close is judged so too (assumption 57). R122: sources that cease to agree report SENSE 4 NOTE with their spread. With
the fault log short of its last number. -/
def Obligations.WindReports : Prop :=
  ∀ (s : State) (t0 : Nat) (encoder : Option Int), s.running = true → s.wind.timer = some t0 →
    t0 + Config.evaluation ≤ s.now → s.LogOpen →
    ∃ t, exec (.windEvaluation encoder) s = .next t ∧
      (let lost := s.cfg.vane = true ∧ s.wind.sampleCount < 20 ∧ 9 ≤ s.wind.invalidRun ∧ s.wind.vaneValid = true
       (lost → s.Reports t clsSense 1 1 1 (min 32767 (s.wind.runOverruns + s.wind.overruns) : Nat)) ∧
       (¬lost → s.NoReport t clsSense 1)) ∧
      (s.cfg.vane = true → s.wind.sampleCount < 20 →
        t.wind.runOverruns = min 32767 (s.wind.runOverruns + s.wind.overruns)) ∧
      (let bad := s.cfg.encoder = true ∧ (encoder = none ∨ ∃ v, encoder = some v ∧ (v < -14400 ∨ 14400 < v)) ∧
         s.wind.twistStatus ≠ .invalid
       (bad → encoder = none → s.Reports t clsSense 3 1 1 (-32768)) ∧
       (∀ v, encoder = some v → bad →
         s.Reports t clsSense 3 1 1 (if v < -32767 then -32767 else if 32767 < v then 32767 else v)) ∧
       (¬bad → s.NoReport t clsSense 3)) ∧
      (let closes := s.cfg.anemometer = true ∧ 9 ≤ s.wind.windowCount
       let own := min 800 (s.wind.edgeCount * s.cfg.prescaler * s.cfg.speedFactor / 100)
       let windy := ∃ nr ∈ s.liveRecords, ∃ v, nr.2.windSpeed = some v ∧ 80 ≤ v
       let suspect := own < 10 ∧ windy
       (closes → s.wind.speedStatus ≠ .invalid →
         (suspect → 59 ≤ s.wind.suspectRun →
           s.Reports t clsSense 2 1 1 own ∧ t.wind.speedStatus = .invalid ∧ t.wind.suspectRun = 0) ∧
         (suspect → s.wind.suspectRun < 59 →
           t.wind.speedStatus = .valid ∧ t.wind.suspectRun = s.wind.suspectRun + 1) ∧
         (¬suspect → t.wind.speedStatus = .valid ∧ t.wind.suspectRun = 0)) ∧
       (closes → s.wind.speedStatus = .invalid →
         (10 ≤ own → 9 ≤ s.wind.speedRecovery → t.wind.speedStatus = .valid ∧ t.wind.speedRecovery = 0) ∧
         (10 ≤ own → s.wind.speedRecovery < 9 →
           t.wind.speedStatus = .invalid ∧ t.wind.speedRecovery = s.wind.speedRecovery + 1) ∧
         (own < 10 → t.wind.speedStatus = .invalid ∧ t.wind.speedRecovery = 0)) ∧
       ((¬closes ∨ s.wind.speedStatus = .invalid ∨ ¬suspect ∨ s.wind.suspectRun < 59) → s.NoReport t clsSense 2)) ∧
      (s.wind.agreeing = true → t.wind.agreeing = false →
        ∃ a ∈ t.windSources, ∃ b ∈ t.windSources, ∃ va vb, a.direction = some va ∧ b.direction = some vb ∧
          s.Reports t clsSense 4 0 1 (va - vb) ∧
          ∀ x ∈ t.windSources, ∀ vx, x.direction = some vx → vb ≤ vx ∧ vx ≤ va) ∧
      ((s.wind.agreeing = false ∨ t.wind.agreeing = true) → s.NoReport t clsSense 4)

/-- R122, R123: the misalignment, speed and twist an evaluation forms from the station's own values and its LIVE
entries. R124: the storm flag is set by the STORM mode or 30 s of 25.0 m/s, and cleared by 600 s below 20.0 m/s
without that mode, by its two runs. -/
def Obligations.SharedValuesAndStormFlag : Prop :=
  (∀ (s : State) (t0 : Nat) (encoder : Option Int), s.running = true → s.wind.timer = some t0 →
      t0 + Config.evaluation ≤ s.now → ∃ t, exec (.windEvaluation encoder) s = .next t ∧
        (let fs := t.windSources.filterMap (·.direction)
         (fs = [] → t.wind.misalignment = none ∧ t.wind.agreeing = true) ∧
         (fs ≠ [] → t.wind.misalignment = some (fs.sum.tdiv fs.length)) ∧
         (t.wind.agreeing = true ↔ ∀ a ∈ fs, ∀ b ∈ fs, a - b ≤ 150)) ∧
        (let vs := t.windSources.filterMap (·.speed)
         (vs = [] → t.wind.sharedSpeed = none) ∧
         (∀ v, t.wind.sharedSpeed = some v ↔ v ∈ vs ∧ ∀ w ∈ vs, w ≤ v)) ∧
        (∀ v, t.wind.sharedTwist = some v ↔
          ∃ a x b, t.windSources = a ++ x :: b ∧ x.twist = some v ∧ ∀ y ∈ a, y.twist = none)) ∧
  (∀ (s : State) (t0 : Nat) (encoder : Option Int), s.running = true → s.wind.timer = some t0 →
      t0 + Config.evaluation ≤ s.now → ∃ t, exec (.windEvaluation encoder) s = .next t ∧
        (s.demand.mode = .storm → t.wind.storm = true) ∧
        (s.wind.storm = false → s.demand.mode ≠ .storm →
          (t.wind.storm = true ↔ ∃ v, t.wind.sharedSpeed = some v ∧ 250 ≤ v ∧ 299 ≤ s.wind.setRun)) ∧
        (s.wind.storm = true → s.demand.mode ≠ .storm →
          (t.wind.storm = false ↔ ∃ v, t.wind.sharedSpeed = some v ∧ v < 200 ∧ 5999 ≤ s.wind.clearRun)) ∧
        (t.wind.sharedSpeed = none → t.wind.setRun = 0 ∧ t.wind.clearRun = 0) ∧
        (∀ v, t.wind.sharedSpeed = some v →
          (v < 250 → t.wind.setRun = 0) ∧ (200 ≤ v → t.wind.clearRun = 0) ∧
          (250 ≤ v → t.wind.setRun = min 300 (s.wind.setRun + 1)) ∧
          (v < 200 → (s.wind.storm = true ∨ t.wind.storm = false) → (s.wind.storm = false ∨ t.wind.storm = true) →
            t.wind.clearRun = min 6000 (s.wind.clearRun + 1))) ∧
        (s.wind.storm = false → t.wind.storm = true → t.wind.clearRun = 0) ∧
        (s.wind.storm = true → t.wind.storm = false → t.wind.setRun = 0))

/-! ## Yaw -/

/-- R128, R129, R132, R146: a check updates the dwell counters; in ACTIVE, with no hold and no stagger running, an
order that turns the nacelle and meets no inhibit starts the stagger timer, and while the hold runs no trigger is
judged. R131: the inhibits of a trigger, one by one. R130, R132, R133, R137: when the stagger timer runs out the
station proposes, unless an inhibit then holds: a YAW PROPOSAL is offered for a new session of the next tag with the
LIVE yaw-capable stations expected and the budget formed when the trigger was judged (assumption 27); with none
expected it goes straight on to release, and a YAW START follows. Before their time neither command changes anything
(assumption 4). -/
def Obligations.TriggersToProposals : Prop :=
  (∀ (s : State) (t0 : Nat), s.isJoined = true → s.yaw.checkTimer = some t0 → s.yaw.state = .idle →
      s.quiet.state = .active →
      (s.now < t0 + Config.evaluation → exec .yawCheck s = .next s) ∧
      (t0 + Config.evaluation ≤ s.now → ∃ t, exec .yawCheck s = .next t ∧
        t.yaw.checkTimer = some (t0 + Config.evaluation) ∧ t.yaw.state = .idle ∧ t.yaw.session = s.yaw.session ∧
        t.thread = s.thread ∧ t.wind = s.wind ∧ t.cadence = s.cadence ∧
        (∀ m, s.wind.misalignment = some m →
          ((80 ≤ m ∧ s.yaw.autoPositive = true) ∨ (m ≤ -80 ∧ s.yaw.autoPositive = false) →
            t.yaw.autoDwell = min 100 (s.yaw.autoDwell + 1) ∧ t.yaw.autoPositive = s.yaw.autoPositive) ∧
          (80 ≤ m → s.yaw.autoPositive = false → t.yaw.autoDwell = 1 ∧ t.yaw.autoPositive = true) ∧
          (m ≤ -80 → s.yaw.autoPositive = true → t.yaw.autoDwell = 1 ∧ t.yaw.autoPositive = false)) ∧
        ((s.wind.misalignment = none ∨ ∃ m, s.wind.misalignment = some m ∧ -80 < m ∧ m < 80) → t.yaw.autoDwell = 0) ∧
        (∀ m, s.wind.misalignment = some m →
          ((40 ≤ m ∧ s.yaw.stormPositive = true) ∨ (m ≤ -40 ∧ s.yaw.stormPositive = false) →
            t.yaw.stormDwell = min 20 (s.yaw.stormDwell + 1) ∧ t.yaw.stormPositive = s.yaw.stormPositive) ∧
          (40 ≤ m → s.yaw.stormPositive = false → t.yaw.stormDwell = 1 ∧ t.yaw.stormPositive = true) ∧
          (m ≤ -40 → s.yaw.stormPositive = true → t.yaw.stormDwell = 1 ∧ t.yaw.stormPositive = false)) ∧
        ((s.wind.misalignment = none ∨ ∃ m, s.wind.misalignment = some m ∧ -40 < m ∧ m < 40) → t.yaw.stormDwell = 0) ∧
        (s.takesPart = true → s.yaw.stagger = none → s.yaw.hold = none → s.demand.order = .turnCw →
          s.wind.storm = false → s.inhibited ⟨.order, .cw⟩ = false →
          t.yaw.stagger = some {
            since := s.now, mode := .order, direction := .cw,
            budget := if s.demand.auxGrid = true then 28 else if s.demand.budget = 0 then s.cfg.backupBudget
              else s.demand.budget }) ∧
        (∀ h, s.yaw.stagger = none → s.yaw.hold = some h → s.now < h + Config.yawHold → t.yaw.stagger = none))) ∧
  (∀ (s : State) (mode : SessionMode) (direction : Direction),
      s.inhibited ⟨mode, direction⟩ = true ↔
        (s.motorsReady = 0 ∨ s.cfg.isolated = true) ∨ (s.yaw.release = true ∨ s.pins.brakesReleased = true) ∨
        ((∃ c ∈ s.fault.causes, c.cls = clsYaw) ∨
          ∃ c ∈ s.fault.causes, c.cls = clsPlant ∧ (c.code = 1 ∨ c.code = 2 ∨ c.code = 6)) ∨
        (mode ≠ .storm ∧ s.wind.sharedTwist = none) ∨
        (∃ v, s.wind.sharedTwist = some v ∧
          ((direction = .cw ∧ (if mode = .storm then 14400 else 10800) ≤ v) ∨
            (direction = .ccw ∧ v ≤ -(if mode = .storm then 14400 else 10800)))) ∨
        (∃ n e r, n ≠ s.own ∧ s.table.threads.get? n = some e ∧ e.record = some r ∧ e.role = .thread ∧
          0 < r.motorsReady ∧ r.isolated = false ∧ (e.state = .heard ∨ e.state = .stale ∨ e.state = .lost))) ∧
  (∀ (s : State) (g : Stagger), s.isJoined = true → s.yaw.state = .idle → s.yaw.stagger = some g →
      (s.now < g.since + 80000 * s.own → exec .staggerExpiry s = .next s) ∧
      (g.since + 80000 * s.own ≤ s.now → s.inhibited ⟨g.mode, g.direction⟩ = false →
        let tag := (s.yaw.proposalCounter + 1) % 256
        let proposed := offerYaw s (.yawProposal tag g.mode.code g.direction.code g.budget s.wind.sharedTwist)
        ∃ t, exec .staggerExpiry s = .next t ∧ t.yaw.stagger = none ∧
          t.yaw.proposalCounter = tag ∧ t.yaw.session.proposer = s.own ∧ t.yaw.session.tag = tag ∧
          t.yaw.session.mode = g.mode ∧
          t.yaw.session.direction = g.direction ∧ t.yaw.session.twist = s.wind.sharedTwist ∧
          t.yaw.session.budget = g.budget ∧
          t.yaw.session.answers = [] ∧ t.table.changePending = true ∧ t.log = s.log ∧ t.thread = s.thread ∧
          (∀ n, n ∈ t.yaw.session.expected ↔ ∃ e r, n ≠ s.own ∧ s.table.threads.get? n = some e ∧ e.record = some r ∧
            e.role = .thread ∧ 0 < r.motorsReady ∧ r.isolated = false ∧ e.state = .live) ∧
          (t.yaw.session.expected ≠ [] → t.yaw.state = .proposing ∧ t.yaw.answerWait = some s.now ∧
            t.yaw.release = s.yaw.release ∧ t.link = proposed.link) ∧
          (t.yaw.session.expected = [] → t.yaw.state = .releasing ∧ t.yaw.release = true ∧
            t.yaw.releaseWait = some s.now ∧ t.yaw.session.startTime = s.now ∧
            t.yaw.session.runCount = min g.budget s.motorsReady ∧
            t.yaw.session.allocation = [(s.own, min g.budget s.motorsReady)] ∧
            t.link = (offerYaw proposed
              (.yawStart tag g.mode.code g.direction.code g.budget [(s.own, min g.budget s.motorsReady)])).link)) ∧
      (g.since + 80000 * s.own ≤ s.now → s.inhibited ⟨g.mode, g.direction⟩ = true → s.quiet.state = .active →
        ∃ t, exec .staggerExpiry s = .next t ∧ t.yaw.stagger = none ∧ t.yaw.state = .idle ∧
          t.yaw.session = s.yaw.session))

/-- R129: at a check in Y_IDLE with no hold and no stagger the triggers are judged in the order STORM, ORDER, UNTWIST,
AUTO, and the first that holds names mode and direction; with none nothing happens, and in QUIET_PENDING and QUIET one
that holds is a wake cause and no more. R130, R132: in ACTIVE a trigger that no inhibit meets starts the stagger with
the budget of that moment (assumption 27). R131: a twist limit reports YAW 4 NOTE, in STORM YAW 5 WARN, and a peer
that is not LIVE YAW 8 NOTE with the lowest such station, each once while its note is armed; the note is armed again
at a check at which a trigger holds and that inhibit does not (assumption 29). With the fault log short of its last
number. -/
def Obligations.TriggersInOrder : Prop :=
  ∀ (s : State) (t0 : Nat), s.isJoined = true → s.takesPart = true → s.yaw.checkTimer = some t0 →
    t0 + Config.evaluation ≤ s.now → s.yaw.state = .idle → s.yaw.stagger = none →
    (∀ h, s.yaw.hold = some h → h + Config.yawHold ≤ s.now) → s.LogOpen →
    ∃ t, exec .yawCheck s = .next t ∧
      (let ring (n : Nat) : Prop := n ≠ s.own ∧ ∃ e r, s.table.threads.get? n = some e ∧ e.record = some r ∧
         e.role = .thread ∧ 0 < r.motorsReady ∧ r.isolated = false ∧
         (e.state = .heard ∨ e.state = .stale ∨ e.state = .lost)
       let budget : Nat := if s.demand.auxGrid = true then 28 else if s.demand.budget = 0 then s.cfg.backupBudget
         else s.demand.budget
       let held (mode : SessionMode) (direction : Direction) : Prop :=
         (s.quiet.state = .pending → t.yaw.stagger = none ∧ t.quiet.state = .active ∧ t.log = s.log) ∧
         (s.quiet.state = .quiet → t.yaw.stagger = none ∧ t.quiet.state = .quiet ∧ t.quiet.call.isSome = true ∧
           t.log = s.log) ∧
         (s.quiet.state = .active →
           (s.inhibited ⟨mode, direction⟩ = false → t.log = s.log ∧
             t.yaw.stagger = some { since := s.now, mode := mode, direction := direction, budget := budget }) ∧
           (s.inhibited ⟨mode, direction⟩ = true → t.yaw.stagger = none) ∧
           (∀ v, s.wind.sharedTwist = some v → twistReached mode direction (some v) = true →
             (mode ≠ .storm → t.yaw.noteYaw4 = false ∧ t.yaw.noteYaw5 = true ∧
               (s.yaw.noteYaw4 = true → s.Reports t clsYaw 4 0 1 v) ∧
               (s.yaw.noteYaw4 = false → s.NoReport t clsYaw 4) ∧ s.NoReport t clsYaw 5) ∧
             (mode = .storm → t.yaw.noteYaw5 = false ∧ t.yaw.noteYaw4 = true ∧
               (s.yaw.noteYaw5 = true → s.Reports t clsYaw 5 1 1 v) ∧
               (s.yaw.noteYaw5 = false → s.NoReport t clsYaw 5) ∧ s.NoReport t clsYaw 4)) ∧
           (twistReached mode direction s.wind.sharedTwist = false → t.yaw.noteYaw4 = true ∧ t.yaw.noteYaw5 = true ∧
             s.NoReport t clsYaw 4 ∧ s.NoReport t clsYaw 5) ∧
           (∀ n, ring n → (∀ m, ring m → n ≤ m) → t.yaw.noteYaw8 = false ∧
             (s.yaw.noteYaw8 = true → s.Reports t clsYaw 8 0 1 n) ∧
             (s.yaw.noteYaw8 = false → s.NoReport t clsYaw 8)) ∧
           ((∀ n, ¬ring n) → t.yaw.noteYaw8 = true ∧ s.NoReport t clsYaw 8))
       let storms := s.wind.storm = true ∧ t.yaw.stormDwell = 20
       let untwists (v : Int) := s.demand.order = .untwist ∧ s.wind.storm = false ∧ s.wind.sharedTwist = some v ∧
         1800 < v.natAbs
       let follows := s.demand.order = .auto ∧ s.wind.storm = false ∧ t.yaw.autoDwell = 100 ∧ s.wind.agreeing = true ∧
         ∃ v, s.wind.sharedSpeed = some v ∧ 30 ≤ v
       (storms → ∀ m, s.wind.misalignment = some m → (0 < m → held .storm .cw) ∧ (m < 0 → held .storm .ccw)) ∧
       (¬storms → s.demand.order = .turnCw → held .order .cw) ∧
       (¬storms → s.demand.order = .turnCcw → held .order .ccw) ∧
       (∀ v, untwists v → (0 < v → held .untwist .ccw) ∧ (v < 0 → held .untwist .cw)) ∧
       (follows → ∀ m, s.wind.misalignment = some m → (0 < m → held .auto .cw) ∧ (m < 0 → held .auto .ccw)) ∧
       (¬storms → s.demand.order ≠ .turnCw → s.demand.order ≠ .turnCcw → (∀ v, ¬untwists v) → ¬follows →
         t.yaw.stagger = none ∧ t.quiet = s.quiet ∧ t.log = s.log ∧ t.link = s.link ∧
         t.yaw.noteYaw4 = s.yaw.noteYaw4 ∧ t.yaw.noteYaw5 = s.yaw.noteYaw5 ∧ t.yaw.noteYaw8 = s.yaw.noteYaw8) ∧
       (storms → s.wind.misalignment.isSome = true) ∧ (follows → s.wind.misalignment.isSome = true))

/-- R134, R135: a new proposal heard in Y_IDLE is answered, READY and joined or REFUSE with the first reason that
applies; in Y_RELEASING, Y_DRIVING and Y_STOPPING it is refused as BUSY and the session in hand stays. In Y_PROPOSING
a lower number, and in Y_JOINED one not above the proposer followed, is yielded to: the session in hand is left with
no STOP and no hold, and the proposal is answered as in Y_IDLE; a higher number is ignored, and so is one equal to the
own number in Y_PROPOSING (assumption 59). A proposal that is not new is ignored but for the stagger it stops
(assumption 28). After a yield and a refusal the session record is kept with its answers emptied (assumption 33), and
a budget above 28 and a twist out of range are taken as received (assumptions 27 and 72). R188, R127: a proposal of
budget 0, and one heard by a station with no motors or isolated, is ignored. -/
def Obligations.ProposalAnswered : Prop :=
  (∀ (s : State) (levels : List Level) (p tag budget : Nat) (mode : SessionMode) (direction : Direction)
      (twist : Option Int),
      s.isJoined = true → s.receives = true → s.takesPart = true → budget ≠ 0 →
      receive levels = (false, .good p (.yawProposal tag mode.code direction.code budget twist)) →
      let new := ¬(p = s.yaw.session.proposer ∧ tag = s.yaw.session.tag)
      let reason : Nat :=
        if s.motorsReady = 0 ∨ s.yawBarred = true then 4
        else if s.yaw.release = true ∨ s.pins.brakesReleased = true then 3
        else if twistReached mode direction s.wind.sharedTwist = true ∨ twistReached mode direction twist = true then 2
        else if s.demand.order = .hold ∧ mode ≠ .storm then 5
        else 0
      (new → s.yaw.state = .idle → reason = 0 → ∃ t, exec (.frameReceived levels) s = .next t ∧ t.yaw.state = .joined ∧
        t.yaw.stagger = none ∧ t.yaw.startWait = some s.now ∧ t.yaw.session.proposer = p ∧ t.yaw.session.tag = tag ∧
        t.yaw.session.mode = mode ∧ t.yaw.session.direction = direction ∧ t.yaw.session.budget = budget ∧
        t.yaw.session.allocation = [] ∧ t.table.changePending = true ∧
        t.link = (offerYaw s (.yawAnswer p tag 1 s.motorsReady 0)).link) ∧
      (new → s.yaw.state = .idle → reason ≠ 0 → exec (.frameReceived levels) s = .next { s.received with
        yaw := { s.yaw with stagger := none }, link := (offerYaw s (.yawAnswer p tag 2 0 reason)).link }) ∧
      (new → (s.yaw.state = .releasing ∨ s.yaw.state = .driving ∨ s.yaw.state = .stopping) →
        exec (.frameReceived levels) s = .next { s.received with
          yaw := { s.yaw with stagger := none }, link := (offerYaw s (.yawAnswer p tag 2 0 1)).link }) ∧
      (new → ((s.yaw.state = .proposing ∧ p < s.own) ∨ (s.yaw.state = .joined ∧ p ≤ s.yaw.session.proposer)) →
        ∃ t, exec (.frameReceived levels) s = .next t ∧ t.yaw.hold = s.yaw.hold ∧ t.log = s.log ∧
          t.yaw.answerWait = none ∧ t.yaw.session.answers = [] ∧
          t.link = (offerYaw s (.yawAnswer p tag (if reason = 0 then 1 else 2) (if reason = 0 then s.motorsReady else 0)
            reason)).link ∧
          (reason = 0 → t.yaw.state = .joined ∧ t.yaw.startWait = some s.now ∧ t.yaw.session.proposer = p ∧
            t.yaw.session.tag = tag ∧ t.yaw.session.mode = mode ∧ t.yaw.session.direction = direction ∧
            t.yaw.session.budget = budget ∧ t.yaw.session.twist = twist) ∧
          (reason ≠ 0 → t.yaw.state = .idle ∧ t.yaw.startWait = none ∧
            t.yaw.session = { s.yaw.session with answers := [] })) ∧
      ((¬new ∨ (s.yaw.state = .proposing ∧ s.own ≤ p) ∨ (s.yaw.state = .joined ∧ s.yaw.session.proposer < p)) →
        exec (.frameReceived levels) s = .next { s.received with yaw := { s.yaw with stagger := none } })) ∧
  (∀ (s : State) (levels : List Level) (p tag mode direction budget : Nat) (twist : Option Int),
      s.isJoined = true → s.receives = true →
      receive levels = (false, .good p (.yawProposal tag mode direction budget twist)) →
      (budget = 0 ∨ s.cfg.motors = 0 ∨ s.cfg.isolated = true) → exec (.frameReceived levels) s = .next s.received)

/-- R136 to R138: the answer that completes a proposer's list starts the session with the allocation of R137 over the
offers in station order, and offers the YAW START, one that does not is added to the list, a refusal abandons it with
YAW 6 NOTE and a hold; an answer for another session, of a station not expected or already listed, with no verdict of
R188, or in another state is ignored; and a START that names a joined station sends it to release with its run count;
a START for another session, from another sender, of budget 0, in another state, or with a list out of order, with a
station twice or with a run count above 4 is ignored. R144: a YAW STOP for the session in hand stops it in Y_RELEASING
and Y_DRIVING, returns a joined station to Y_IDLE with no hold, abandons an own proposal, and is ignored in the other
states and for another session. Offered motors and reasons of any value, and a START's budget, are taken as received
(assumption 45), and so is a list with none of the faults of R188 (assumption 73). R127: a station with no motors or
isolated ignores every YAW frame. -/
def Obligations.SessionFramesTaken : Prop :=
  ((∀ (s : State) (levels : List Level) (n offered reason : Nat), s.isJoined = true → s.receives = true →
      s.takesPart = true → s.yaw.state = .proposing → s.yaw.session.proposer = s.own → n ∈ s.yaw.session.expected →
      (∀ a ∈ s.yaw.session.answers, a.station ≠ n) →
      (receive levels = (false, .good n (.yawAnswer s.own s.yaw.session.tag 1 offered reason)) →
        s.yaw.session.expected.Nodup → s.own ∉ s.yaw.session.expected →
        (s.yaw.session.answers.map (·.station)).Nodup →
        (∀ m ∈ s.yaw.session.expected, m ≠ n → ∃ a ∈ s.yaw.session.answers, a.station = m ∧ a.ready = true) →
        ∃ t offers, exec (.frameReceived levels) s = .next t ∧ t.yaw.state = .releasing ∧ t.yaw.release = true ∧
          t.yaw.releaseWait = some s.now ∧ t.yaw.answerWait = none ∧ t.yaw.session.startTime = s.now ∧
          (offers.map (·.1)).Pairwise (· < ·) ∧
          (∀ m k, (m, k) ∈ offers ↔ (m = s.own ∧ k = s.motorsReady) ∨ (m = n ∧ k = offered) ∨
            (m ∈ s.yaw.session.expected ∧ m ≠ n ∧ ∃ a ∈ s.yaw.session.answers, a.station = m ∧ a.offered = k)) ∧
          t.yaw.session.allocation = allocate s.yaw.session.budget offers ∧
          (s.own, t.yaw.session.runCount) ∈ t.yaw.session.allocation ∧
          t.link = (offerYaw s (.yawStart s.yaw.session.tag s.yaw.session.mode.code s.yaw.session.direction.code
            s.yaw.session.budget t.yaw.session.allocation)).link ∧
          t.table.changePending = true ∧ t.log = s.log) ∧
      (receive levels = (false, .good n (.yawAnswer s.own s.yaw.session.tag 2 offered reason)) →
        s.log.newest < Config.lastSequence → s.quiet.state = .active →
        ∃ t, exec (.frameReceived levels) s = .next t ∧ t.yaw.state = .idle ∧ t.yaw.hold = some s.now ∧
          t.yaw.answerWait = none ∧ s.Logged t s.own clsYaw 6 0 1 (some (10 * reason + n : Nat)) none ∧
          t.link = (offerYaw s (.yawStop s.own s.yaw.session.tag)).link)) ∧
    (∀ (s : State) (levels : List Level) (n tag mode direction budget : Nat) (allocation : List (Nat × Nat)),
      s.isJoined = true → s.receives = true →
      receive levels = (false, .good n (.yawStart tag mode direction budget allocation)) →
      (s.yaw.state ≠ .joined ∨ n ≠ s.yaw.session.proposer ∨ tag ≠ s.yaw.session.tag ∨ budget = 0 ∨
        ¬allocation.Pairwise (fun a b => a.1 < b.1) ∨ ∃ p ∈ allocation, 4 < p.2) →
      exec (.frameReceived levels) s = .next s.received) ∧
    (∀ (s : State) (levels : List Level) (budget : Nat) (mode : SessionMode) (direction : Direction)
      (allocation : List (Nat × Nat)), s.isJoined = true → s.receives = true → s.takesPart = true →
      s.yaw.state = .joined → budget ≠ 0 →
      allocation.Pairwise (fun a b => a.1 < b.1) → (∀ p ∈ allocation, p.2 ≤ 4) →
      receive levels = (false, .good s.yaw.session.proposer
        (.yawStart s.yaw.session.tag mode.code direction.code budget allocation)) →
      (∀ count, (s.own, count) ∈ allocation → ∃ t, exec (.frameReceived levels) s = .next t ∧
        t.yaw.state = .releasing ∧ t.yaw.release = true ∧ t.yaw.releaseWait = some s.now ∧ t.yaw.startWait = none ∧
        t.yaw.session = { s.yaw.session with allocation := allocation, runCount := count, startTime := s.now } ∧
        t.table.changePending = true ∧ t.link = s.link ∧ t.log = s.log) ∧
      ((∀ p ∈ allocation, p.1 ≠ s.own) → s.quiet.state = .active → ∃ t, exec (.frameReceived levels) s = .next t ∧
        t.yaw.state = .idle ∧ t.yaw.hold = s.yaw.hold ∧ t.yaw.session = s.yaw.session ∧ t.link = s.link))) ∧
  (∀ (s : State) (levels : List Level) (n p tag : Nat), s.isJoined = true → s.receives = true → s.takesPart = true →
      receive levels = (false, .good n (.yawStop p tag)) →
      ((p ≠ s.yaw.session.proposer ∨ tag ≠ s.yaw.session.tag ∨ s.yaw.state = .idle ∨ s.yaw.state = .stopping) →
        exec (.frameReceived levels) s = .next s.received) ∧
      (p = s.yaw.session.proposer → tag = s.yaw.session.tag →
        ((s.yaw.state = .releasing ∨ s.yaw.state = .driving) → ∃ t, exec (.frameReceived levels) s = .next t ∧
          t.yaw.state = .stopping ∧ t.yaw.motors = PerMotor.all .off ∧ t.yaw.brakeDelay = some s.now ∧
          t.yaw.release = s.yaw.release ∧ t.yaw.session = s.yaw.session ∧ t.link = s.link ∧ t.log = s.log) ∧
        (s.yaw.state = .joined → s.quiet.state = .active → ∃ t, exec (.frameReceived levels) s = .next t ∧
          t.yaw.state = .idle ∧ t.yaw.hold = s.yaw.hold ∧ t.yaw.startWait = none ∧ t.link = s.link ∧ t.log = s.log) ∧
        (s.yaw.state = .proposing → s.quiet.state = .active → s.log.newest < Config.lastSequence →
          ∃ t, exec (.frameReceived levels) s = .next t ∧ t.yaw.state = .idle ∧ t.yaw.hold = some s.now ∧
            t.yaw.answerWait = none ∧ t.link = (offerStop s).link ∧
            s.Logged t s.own clsYaw 6 0 1 (some (70 + n : Nat)) none))) ∧
  (∀ (s : State) (levels : List Level) (n proposer tag verdict offered reason : Nat), s.isJoined = true →
      s.receives = true → s.takesPart = true →
      receive levels = (false, .good n (.yawAnswer proposer tag verdict offered reason)) →
      let listed := ∃ a ∈ s.yaw.session.answers, a.station = n
      ((s.yaw.state ≠ .proposing ∨ proposer ≠ s.own ∨ tag ≠ s.yaw.session.tag ∨ n ∉ s.yaw.session.expected ∨ listed ∨
          (verdict ≠ 1 ∧ verdict ≠ 2)) →
        exec (.frameReceived levels) s = .next s.received) ∧
      (s.yaw.state = .proposing → proposer = s.own → tag = s.yaw.session.tag → n ∈ s.yaw.session.expected → ¬listed →
        verdict = 1 → (∃ m ∈ s.yaw.session.expected, m ≠ n ∧ ∀ a ∈ s.yaw.session.answers, a.station ≠ m) →
        exec (.frameReceived levels) s = .next { s.received with yaw := { s.yaw with session := { s.yaw.session with
          answers := s.yaw.session.answers ++
            [{ station := n, ready := true, offered := offered, reason := reason }] } } })) ∧
  (∀ (s : State) (levels : List Level) (n : Nat) (f : Frame), s.isJoined = true → s.receives = true →
      (s.cfg.motors = 0 ∨ s.cfg.isolated = true) → receive levels = (false, .good n f) → f.kind ∈ [4, 5, 6, 7] →
      exec (.frameReceived levels) s = .next s.received)

/-- R137: the round gives no motor beyond an offer, none beyond the budget and as many as both allow, and no
participant that could take one more is passed over: the others are at most one ahead of it, and those after it not
ahead at all. -/
def Obligations.AllocationIsFair : Prop :=
  ∀ (budget : Nat) (offers : List (Nat × Nat)),
    (allocate budget offers).map (·.1) = offers.map (·.1) ∧
    ((allocate budget offers).map (·.2)).sum = min budget (offers.map (·.2)).sum ∧
    (∀ (i : Nat) (o a : Nat × Nat), offers[i]? = some o → (allocate budget offers)[i]? = some a → a.2 ≤ o.2) ∧
    (∀ (i j : Nat) (o a b : Nat × Nat), offers[i]? = some o → (allocate budget offers)[i]? = some a →
      (allocate budget offers)[j]? = some b → a.2 < o.2 → b.2 ≤ a.2 + 1 ∧ (i < j → b.2 ≤ a.2))

/-- R136, R138, R140, R142, R146: a missing answer abandons the proposal with a hold, a missing START returns the
station to Y_IDLE with none, brakes not released stop the session with YAW 1 WARN, a drive time reached stops it at
the proposer's next check, and the hold runs out. R142: a check stops the session of its proposer, with a YAW STOP,
when its mode's misalignment or twist is absent or near zero, when its twist source or its order is gone, or when the
drive time is reached; otherwise, and at a station that is not the proposer, a check leaves the session as it is. -/
def Obligations.SessionWaitsEnd : Prop :=
  (∀ (s : State) (t0 : Nat), s.isJoined = true → s.CanReport →
      (∀ n, s.yaw.state = .proposing → s.yaw.answerWait = some t0 → t0 + Config.answerWait ≤ s.now →
        s.yaw.session.lowestMissing = some n →
        ∃ t, exec .answerWaitExpiry s = .next t ∧ t.yaw.state = .idle ∧ t.yaw.hold = some s.now ∧
          t.yaw.answerWait = none ∧ s.Logged t s.own clsYaw 6 0 1 (some (60 + n : Nat)) none ∧
          t.link = (offerStop s).link) ∧
      (s.yaw.state = .joined → s.yaw.startWait = some t0 → t0 + Config.startWait ≤ s.now →
        ∃ t, exec .startWaitExpiry s = .next t ∧ t.yaw.state = .idle ∧ t.yaw.hold = s.yaw.hold ∧
          t.yaw.startWait = none ∧ t.link = s.link ∧ t.log = s.log) ∧
      (s.yaw.state = .releasing → s.yaw.releaseWait = some t0 → t0 + Config.releaseWait ≤ s.now →
        ∃ t, exec .releaseWaitExpiry s = .next t ∧ t.yaw.state = .stopping ∧ t.yaw.brakeDelay = some s.now ∧
          t.yaw.releaseWait = none ∧ t.yaw.release = s.yaw.release ∧ t.yaw.motors = PerMotor.all .off ∧
          s.Logged t s.own clsYaw 1 1 5 (some 1) none) ∧
      (s.yaw.state = .driving → s.yaw.driveTimer = some t0 → t0 + Config.driveTime ≤ s.now →
        exec .driveTimeExpiry s = .next { s with yaw := { s.yaw with driveTimer := none, driveReached := true } }) ∧
      (s.yaw.state = .driving → s.yaw.driveReached = true → s.yaw.session.proposer = s.own →
        s.yaw.checkTimer = some t0 → t0 + Config.evaluation ≤ s.now →
        ∃ t, exec .yawCheck s = .next t ∧ t.yaw.state = .stopping ∧ t.yaw.motors = PerMotor.all .off ∧
          t.log = s.log) ∧
      (s.yaw.hold = some t0 → t0 + Config.yawHold ≤ s.now →
        exec .holdTimerExpiry s = .next { s with yaw := { s.yaw with hold := none } })) ∧
  (∀ (s : State) (t0 : Nat), s.isJoined = true → (s.yaw.state = .releasing ∨ s.yaw.state = .driving) →
      s.yaw.checkTimer = some t0 → t0 + Config.evaluation ≤ s.now →
      let x := s.yaw.session
      let near (k : Int) (v : Option Int) : Prop := v = none ∨ ∃ a, v = some a ∧ -k ≤ a ∧ a ≤ k
      let done : Prop := s.yaw.driveReached = true ∨
        (∃ d, s.yaw.driveTimer = some d ∧ d + Config.driveTime ≤ s.now) ∨
        (x.mode = .auto ∧ near 15 s.wind.misalignment) ∨ (x.mode = .storm ∧ near 10 s.wind.misalignment) ∨
        (x.mode = .untwist ∧ near 900 s.wind.sharedTwist) ∨
        (x.mode ≠ .storm ∧ (s.wind.sharedTwist = none ∨ s.demand.order = .hold)) ∨
        (x.mode = .auto ∧ s.demand.order ≠ .auto) ∨ (x.mode = .untwist ∧ s.demand.order ≠ .untwist) ∨
        (x.mode = .order ∧ x.direction = .cw ∧ s.demand.order ≠ .turnCw) ∨
        (x.mode = .order ∧ x.direction = .ccw ∧ s.demand.order ≠ .turnCcw)
      ∃ t, exec .yawCheck s = .next t ∧ t.log = s.log ∧ t.yaw.session = x ∧ t.yaw.release = s.yaw.release ∧
        (x.proposer = s.own → done → t.yaw.state = .stopping ∧ t.yaw.motors = PerMotor.all .off ∧
          t.yaw.brakeDelay = some s.now ∧ t.link = (offerYaw s (.yawStop x.proposer x.tag)).link) ∧
        ((x.proposer ≠ s.own ∨ ¬done) → t.yaw.state = s.yaw.state ∧ t.yaw.motors = s.yaw.motors ∧ t.link = s.link ∧
          t.yaw.releaseWait = s.yaw.releaseWait ∧ t.yaw.driveTimer = s.yaw.driveTimer))

/-- R139, R141, R145: the brake feedback of a session: with every condition met it starts the driving of the first
run-count ready motors; read APPLIED while driving it stops the session with YAW 1 WARN; after the brake delay of a
stop the brakes are applied, and the feedback, or the end of the apply wait with YAW 2 WARN, ends the stop with a
hold. R139, R142, R143: so the driving is started by a participant's status, or by a new shared twist, that brings the
last condition; a shared twist at the limit stops the session in its place. R123: the own encoder's read is the shared
twist where no source of a lower number has one, the own entry standing in the table as R41 has it. -/
def Obligations.BrakesAndDriving : Prop :=
  (∀ s : State, s.isJoined = true → s.quiet.state = .active →
      (s.yaw.state = .releasing → (∀ n ∈ s.otherParticipants, ∃ r, s.recordOf n = some r ∧
          r.proposer = s.yaw.session.proposer ∧ r.sessionTag = s.yaw.session.tag ∧
          ((r.yawCode = 3 ∧ r.brakesReleased = true) ∨ r.yawCode = 4)) →
        twistReached s.yaw.session.mode s.yaw.session.direction s.wind.sharedTwist = false →
        ∃ t, exec (.brakeFeedbackChange true) s = .next t ∧ t.yaw.state = .driving ∧
          t.yaw.driveTimer = some s.yaw.session.startTime ∧ t.yaw.releaseWait = none ∧ t.pins.brakesReleased = true ∧
          (∀ m, 1 ≤ m → m ≤ 4 → t.yaw.motors.get? m = some
            (if m ∈ s.readyMotors.take s.yaw.session.runCount then s.yaw.session.direction.output else .off)) ∧
          t.yaw.running = min s.yaw.session.runCount s.motorsReady) ∧
      (s.yaw.state = .driving → s.CanReport →
        ∃ t, exec (.brakeFeedbackChange false) s = .next t ∧ t.yaw.state = .stopping ∧
          t.yaw.motors = PerMotor.all .off ∧ t.yaw.brakeDelay = some s.now ∧ t.pins.brakesReleased = false ∧
          s.Logged t s.own clsYaw 1 1 5 (some 2) none) ∧
      (s.yaw.state = .idle → ∀ released, exec (.brakeFeedbackChange released) s = .next { s with
        pins := { s.pins with brakesReleased := released } }) ∧
      (∀ t0, s.yaw.state = .stopping → s.yaw.brakeDelay = some t0 → t0 + Config.brakeDelay ≤ s.now →
        (s.pins.brakesReleased = true → exec .brakeDelayExpiry s = .next { s with
          yaw := { s.yaw with release := false, brakeDelay := none, applyWait := some s.now } }) ∧
        (s.pins.brakesReleased = false → ∃ t, exec .brakeDelayExpiry s = .next t ∧ t.yaw.state = .idle ∧
          t.yaw.release = false ∧ t.yaw.hold = some s.now ∧ t.log = s.log)) ∧
      (∀ t0, s.yaw.state = .stopping → s.yaw.applyWait = some t0 →
        (∃ t, exec (.brakeFeedbackChange false) s = .next t ∧ t.yaw.state = .idle ∧ t.yaw.hold = some s.now ∧
          t.yaw.applyWait = none ∧ t.log = s.log) ∧
        (t0 + Config.applyWait ≤ s.now → s.CanReport →
          ∃ t, exec .applyWaitExpiry s = .next t ∧ t.yaw.state = .idle ∧ t.yaw.hold = some s.now ∧
            t.yaw.applyWait = none ∧ t.yaw.release = s.yaw.release ∧
            s.Logged t s.own clsYaw 2 1 1 (some 0) none))) ∧
  (∀ (s : State) (levels : List Level) (n : Nat) (r : StatusRecord) (e : Entry StatusRecord), s.isJoined = true →
      s.receives = true → s.yaw.state = .releasing → s.pins.brakesReleased = true →
      let shows (x : StatusRecord) : Prop :=
        x.proposer = s.yaw.session.proposer ∧ x.sessionTag = s.yaw.session.tag ∧
        ((x.yawCode = 3 ∧ x.brakesReleased = true) ∨ x.yawCode = 4)
      receive levels = (false, .good n (.threadStatus r)) → n ∈ s.otherParticipants →
      s.table.threads.get? n = some e → (e.record = none ∨ e.lastTag ≠ some r.tag) → r.nacelleTrip = false → shows r →
      (∀ m ∈ s.otherParticipants, m ≠ n → ∃ x, s.recordOf m = some x ∧ shows x) →
      twistReached s.yaw.session.mode s.yaw.session.direction s.wind.sharedTwist = false →
      ∃ t, exec (.frameReceived levels) s = .next t ∧ t.yaw.state = .driving ∧
        t.yaw.driveTimer = some s.yaw.session.startTime ∧ t.yaw.releaseWait = none ∧
        (∀ m, 1 ≤ m → m ≤ 4 → t.yaw.motors.get? m = some
          (if m ∈ s.readyMotors.take s.yaw.session.runCount then s.yaw.session.direction.output else .off)) ∧
        t.yaw.running = min s.yaw.session.runCount s.motorsReady ∧
        t.table.changePending = true ∧ t.link = s.link ∧ t.log = s.log) ∧
  (∀ (s : State) (t0 : Nat) (encoder : Option Int), s.isJoined = true → s.yaw.state = .releasing →
      s.pins.brakesReleased = true → s.wind.timer = some t0 → t0 + Config.evaluation ≤ s.now →
      let shows (x : StatusRecord) : Prop :=
        x.proposer = s.yaw.session.proposer ∧ x.sessionTag = s.yaw.session.tag ∧
        ((x.yawCode = 3 ∧ x.brakesReleased = true) ∨ x.yawCode = 4)
      (∀ m ∈ s.otherParticipants, ∃ x, s.recordOf m = some x ∧ shows x) →
      ∃ t, exec (.windEvaluation encoder) s = .next t ∧
        (∀ v, s.OwnEntryKept → encoder = some v → s.cfg.encoder = true → -14400 ≤ v → v ≤ 14400 →
          (∀ p ∈ s.liveRecords, p.1 < s.own → p.2.twist = none) → t.wind.sharedTwist = some v) ∧
        (twistReached s.yaw.session.mode s.yaw.session.direction t.wind.sharedTwist = true →
          t.yaw.state = .stopping ∧ t.yaw.motors = PerMotor.all .off) ∧
        (twistReached s.yaw.session.mode s.yaw.session.direction t.wind.sharedTwist = false →
          t.yaw.state = .driving ∧
          t.yaw.driveTimer = some s.yaw.session.startTime ∧ t.yaw.releaseWait = none ∧
          (∀ m, 1 ≤ m → m ≤ 4 → t.yaw.motors.get? m = some
            (if m ∈ s.readyMotors.take s.yaw.session.runCount then s.yaw.session.direction.output else .off)) ∧
          t.yaw.running = min s.yaw.session.runCount s.motorsReady))

/-- R143: a fault of a running motor stops the session and trips the thread with YAW 3, whose condition ends with that
motor's input (one such motor is held: assumption 32); a fault of a motor that does not run only makes it not ready.
R142, R143: an entry of a participant at the proposer, or of the proposer at the others, gone STALE stops the session
with YAW 7 WARN, for the lowest of several (assumption 22); a status that shows such a station stopped or idle in the
session stops it and reports nothing, and so does a shared twist that reaches the limit. R136, R138, R143, R157: PLANT
1, 2 or 6 entering the cause set stops a session, abandons an own proposal with YAW 6 NOTE of reason 8 and a hold, and
returns a joined station to Y_IDLE, each with a YAW STOP (assumption 26). -/
def Obligations.SessionsStoppedAtOnce : Prop :=
  (∀ (s : State) (motor : Nat), s.running = true → 1 ≤ motor → motor ≤ 4 →
      (s.yaw.state = .driving → s.motorRuns motor = true → s.takesOffers = true → s.CanReport →
        ∃ t, exec (.motorFaultInput motor true) s = .next t ∧ t.yaw.state = .stopping ∧
          t.yaw.motors = PerMotor.all .off ∧ t.yaw.faultMotor = some motor ∧ s.Tripped t clsYaw 3 motor ∧
          t.pins = { s.pins with motorFault := s.pins.motorFault.set motor true }) ∧
      (s.motorRuns motor = false → exec (.motorFaultInput motor true) s = .next { s with
        pins := { s.pins with motorFault := s.pins.motorFault.set motor true } }) ∧
      (s.yaw.faultMotor = some motor →
        exec (.motorFaultInput motor false) s = .next { s with
          pins := { s.pins with motorFault := s.pins.motorFault.set motor false },
          yaw := { s.yaw with faultMotor := none },
          fault := { s.fault with causes := endConditionIn clsYaw 3 s.fault.causes } }) ∧
      (s.yaw.faultMotor ≠ some motor → exec (.motorFaultInput motor false) s = .next { s with
        pins := { s.pins with motorFault := s.pins.motorFault.set motor false } })) ∧
  (∀ (s : State) (t0 : Nat), s.running = true → s.table.ageTimer = some t0 → t0 + Config.ageing ≤ s.now →
      (s.yaw.state = .releasing ∨ s.yaw.state = .driving) → s.LogOpen → s.takesOffers = true → s.link.queue.length ≤ 5 →
      let gone (n : Nat) : Prop := n ≠ s.own ∧
        (if s.yaw.session.proposer = s.own then n ∈ s.otherParticipants else n = s.yaw.session.proposer) ∧
        ∃ e, s.table.threads.get? n = some e ∧ e.state = .live ∧ s.quiet.threadLimits.1 < min 65535 (e.age + 1) ∧
          min 65535 (e.age + 1) ≤ s.quiet.threadLimits.2
      ∃ t, exec .ageingStep s = .next t ∧
        ((∀ n, ¬gone n) → t.yaw = s.yaw ∧ s.NoReport t clsYaw 7) ∧
        (∀ n, gone n → (∀ m, gone m → n ≤ m) → t.yaw.state = .stopping ∧ t.yaw.motors = PerMotor.all .off ∧
          t.yaw.brakeDelay = some s.now ∧ t.yaw.release = s.yaw.release ∧ t.yaw.session = s.yaw.session ∧
          s.Reports t clsYaw 7 1 5 n ∧
          ∃ x ∈ t.link.queue, x.frame = .yawStop s.yaw.session.proposer s.yaw.session.tag)) ∧
  (∀ (s : State) (levels : List Level) (n : Nat) (r : StatusRecord) (e : Entry StatusRecord), s.isJoined = true →
      s.receives = true → receive levels = (false, .good n (.threadStatus r)) → n ≠ s.own →
      s.table.threads.get? n = some e → (e.record = none ∨ e.lastTag ≠ some r.tag) → r.nacelleTrip = false →
      (s.yaw.state = .releasing ∨ s.yaw.state = .driving) → r.proposer = s.yaw.session.proposer →
      r.sessionTag = s.yaw.session.tag → (r.yawCode = 5 ∨ r.yawCode = 0) →
      ∃ t, exec (.frameReceived levels) s = .next t ∧ t.log = s.log ∧
        ((n = s.yaw.session.proposer ∨ (s.yaw.session.proposer = s.own ∧ n ∈ s.otherParticipants)) →
          t.yaw.state = .stopping ∧ t.yaw.motors = PerMotor.all .off ∧ t.yaw.brakeDelay = some s.now ∧
          t.link = (offerStop s).link) ∧
        (n ≠ s.yaw.session.proposer → (s.yaw.session.proposer ≠ s.own ∨ n ∉ s.otherParticipants) →
          t.yaw.state ≠ .stopping ∧ t.link = s.link)) ∧
  (∀ (s : State) (t0 : Nat) (encoder : Option Int), s.running = true → s.wind.timer = some t0 →
      t0 + Config.evaluation ≤ s.now → (s.yaw.state = .releasing ∨ s.yaw.state = .driving) → s.LogOpen →
      ∃ t, exec (.windEvaluation encoder) s = .next t ∧ (∀ code, s.NoReport t clsYaw code) ∧
        (twistReached s.yaw.session.mode s.yaw.session.direction t.wind.sharedTwist = true →
          t.yaw.state = .stopping ∧ t.yaw.motors = PerMotor.all .off ∧ t.yaw.brakeDelay = some s.now ∧
          t.yaw.release = s.yaw.release) ∧
        (twistReached s.yaw.session.mode s.yaw.session.direction t.wind.sharedTwist = false →
          t.yaw.state = .driving ∨ t.yaw.state = s.yaw.state)) ∧
  (let barred (s t : State) : Prop :=
     let stop := Frame.yawStop s.yaw.session.proposer s.yaw.session.tag
     ((s.yaw.state = .releasing ∨ s.yaw.state = .driving) → t.yaw.state = .stopping ∧
       t.yaw.motors = PerMotor.all .off ∧ t.yaw.brakeDelay = some s.now ∧ ∃ x ∈ t.link.queue, x.frame = stop) ∧
     (s.yaw.state = .proposing → t.yaw.state = .idle ∧ t.yaw.hold = some s.now ∧ t.yaw.answerWait = none ∧
       s.Reports t clsYaw 6 0 1 (80 + s.own : Nat) ∧ ∃ x ∈ t.link.queue, x.frame = stop) ∧
     (s.yaw.state = .joined → t.yaw.state = .idle ∧ t.yaw.hold = s.yaw.hold ∧ t.yaw.startWait = none ∧
       s.NoReport t clsYaw 6 ∧ ∃ x ∈ t.link.queue, x.frame = stop) ∧
     ((s.yaw.state = .idle ∨ s.yaw.state = .stopping) → t.yaw = s.yaw)
   (∀ s : State, s.running = true → s.takesOffers = true → s.link.queue.length ≤ 6 → s.LogOpen →
     (s.fault.stopSeen = false → s.holdsCause clsPlant 1 = false →
       ∃ t, exec (.safetyInputChange .emergencyStop true) s = .next t ∧ barred s t) ∧
     (s.fault.fireSeen = false → s.holdsCause clsPlant 2 = false →
       ∃ t, exec (.safetyInputChange .arcOrFire true) s = .next t ∧ barred s t)) ∧
   (∀ (s : State) (levels : List Level) (n : Nat) (f : Notice), s.isJoined = true → s.receives = true →
     receive levels = (false, .good n (.faultNotice f)) → 1 ≤ f.cls → f.cls ≤ 8 → f.cls ≠ clsYaw → f.severity = 3 →
     s.holdsCause clsPlant 6 = false → s.link.queue.length ≤ 6 → s.LogOpen →
     ∃ t, exec (.frameReceived levels) s = .next t ∧ barred s t))

/-- R139, R141, R143, R145, R147: every step keeps the motors off outside Y_DRIVING and to the run count in it,
driving only with the brakes read RELEASED and the shared twist short of the limit, the brakes commanded released only
from Y_RELEASING to Y_STOPPING and never in the apply wait, and a session only while JOINED. R139: a command enters
Y_DRIVING from Y_RELEASING only, with the own brakes read RELEASED and the record of every other participant showing
the session, released or driving. -/
def Obligations.YawDriveKeptSafe : Prop :=
  (∀ s t : State, s.YawKept → step s = .next t → t.YawKept) ∧
  (∀ (c : Instr) (s t : State), exec c s = .next t → s.yaw.state ≠ .driving → t.yaw.state = .driving →
      s.yaw.state = .releasing ∧ t.yaw.session = s.yaw.session ∧ t.pins.brakesReleased = true ∧
      twistReached t.yaw.session.mode t.yaw.session.direction t.wind.sharedTwist = false ∧
      ∀ p ∈ t.yaw.session.allocation, p.1 ≠ t.own → ∃ e r, t.table.threads.get? p.1 = some e ∧ e.record = some r ∧
        r.proposer = t.yaw.session.proposer ∧ r.sessionTag = t.yaw.session.tag ∧
        ((r.yawCode = 3 ∧ r.brakesReleased = true) ∨ r.yawCode = 4))

/-! ## Faults -/

/-- R150, R152, R153: a safety input that goes ACTIVE trips the thread with its PLANT cause and record; one that goes
INACTIVE marks that cause ended and no more; before the image is accepted only the pin moves. R156, R157: a peer's
notice that bears the nacelle flag trips the thread with PLANT 6 and is logged with its number; any other is logged
where the accept mask admits its class, and changes nothing else. R158, R59: a status that newly shows the nacelle
flag, or makes an entry LIVE from HEARD while it shows it, trips the thread with PLANT 6, and is logged unless that
station's notice has been; one that goes on showing it does nothing more. -/
def Obligations.SafetyInputsAndPeerNotices : Prop :=
  (∀ s : State,
      (s.running = false → ∀ active,
        exec (.safetyInputChange .emergencyStop active) s = .next { s with
          pins := { s.pins with emergencyStop := active } } ∧
        exec (.safetyInputChange .arcOrFire active) s = .next { s with pins := { s.pins with arcOrFire := active } }) ∧
      (s.running = true → s.CanReport → s.takesOffers = true → s.yaw.state = .idle →
        (s.fault.stopSeen = false → ∃ t, exec (.safetyInputChange .emergencyStop true) s = .next t ∧
          t.thread.state = .tripped ∧ t.holdsCause clsPlant 1 = true ∧ t.fault.stopSeen = true ∧
          s.Logged t s.own clsPlant 1 3 3 (some 0) none ∧ s.Noticed t clsPlant 1 3 3 0) ∧
        (s.fault.fireSeen = false → ∃ t, exec (.safetyInputChange .arcOrFire true) s = .next t ∧
          t.thread.state = .tripped ∧ t.holdsCause clsPlant 2 = true ∧ t.fault.fireSeen = true ∧
          s.Logged t s.own clsPlant 2 3 3 (some 0) none ∧ s.Noticed t clsPlant 2 3 3 0)) ∧
      (s.running = true → s.fault.stopSeen = true → s.CausesKept → s.holdsCause clsPlant 1 = true →
        ∃ t, exec (.safetyInputChange .emergencyStop false) s = .next t ∧
          t = { s with pins := { s.pins with emergencyStop := false }, fault := t.fault } ∧
          t.fault.stopSeen = false ∧
          (∃ c ∈ t.fault.causes, c.cls = clsPlant ∧ c.code = 1 ∧ c.kind = .latched ∧ c.ended = true) ∧
          t.fault.causes.length = s.fault.causes.length) ∧
      (s.running = true → s.fault.fireSeen = true → s.CausesKept → s.holdsCause clsPlant 2 = true →
        ∃ t, exec (.safetyInputChange .arcOrFire false) s = .next t ∧
          t = { s with pins := { s.pins with arcOrFire := false }, fault := t.fault } ∧
          t.fault.fireSeen = false ∧
          (∃ c ∈ t.fault.causes, c.cls = clsPlant ∧ c.code = 2 ∧ c.kind = .latched ∧ c.ended = true) ∧
          t.fault.causes.length = s.fault.causes.length)) ∧
  (∀ (s : State) (levels : List Level) (n : Nat) (f : Notice), s.isJoined = true → s.receives = true →
      receive levels = (false, .good n (.faultNotice f)) → 1 ≤ f.cls → f.cls ≤ 8 → s.log.newest < Config.lastSequence →
      (f.severity ≠ 3 → s.cfg.acceptMask.getLsbD (f.cls - 1) = true →
        ∃ t, exec (.frameReceived levels) s = .next t ∧ t = { s.received with log := t.log } ∧
          s.Logged t n f.cls f.code f.severity f.action (some f.detail) (some f.number)) ∧
      (f.severity ≠ 3 → s.cfg.acceptMask.getLsbD (f.cls - 1) = false →
        exec (.frameReceived levels) s = .next s.received) ∧
      (f.severity = 3 → s.yaw.state = .idle → s.quiet.state = .active →
        ∃ t, exec (.frameReceived levels) s = .next t ∧ t.thread.state = .tripped ∧ t.holdsCause clsPlant 6 = true ∧
          t.link = s.link ∧ s.Logged t n f.cls f.code 3 4 (some f.detail) (some f.number) ∧
          (1 ≤ n → n ≤ 7 → t.fault.taken.get? n = some true))) ∧
  (∀ (s : State) (levels : List Level) (n : Nat) (r : StatusRecord) (e : Entry StatusRecord), s.running = true →
      s.receives = true → receive levels = (false, .good n (.threadStatus r)) → n ≠ s.own →
      s.table.threads.get? n = some e → (e.record = none ∨ e.lastTag ≠ some r.tag) → r.nacelleTrip = true →
      s.yaw.state = .idle → s.quiet.state = .active → s.log.newest < Config.lastSequence →
      let shown := ∃ o, e.record = some o ∧ o.nacelleTrip = true
      let madeLive := e.state = .heard ∧ e.age ≤ s.quiet.threadLimits.1 ∧ 3 ≤ e.good + 1
      ∃ t, exec (.frameReceived levels) s = .next t ∧ t.link = s.link ∧
        ((¬shown ∨ madeLive) → t.thread.state = .tripped ∧ t.holdsCause clsPlant 6 = true ∧
          t.fault.taken.get? n = some true ∧
          (s.fault.taken.get? n = some true → t.log = s.log) ∧
          (s.fault.taken.get? n = some false → s.Logged t n clsPlant 6 2 4 none none)) ∧
        (shown → ¬madeLive → t = { s.received with table := { s.table with threads := t.table.threads } }))

/-- R95, R159, R161: an evaluation with an acknowledgement pending removes the latched causes whose condition has
ended, and a set then empty releases a TRIPPED thread to OFF with PLANT 7 NOTE; without one only PLANT 6 goes, and
that exactly when no LIVE or STALE entry shows the nacelle flag. R162: an acknowledgement that has waited 5 s lapses,
with PLANT 4 NOTE and the number of causes still held; the causes stay. Before their time neither changes anything
(assumption 4). R95, R161: but for a reset, a thread leaves TRIPPED only for OFF, at an evaluation with an
acknowledgement pending and the cause set then empty, and its restart hold starts. The trip line is released with it.
-/
def Obligations.AcknowledgementsReleaseOrLapse : Prop :=
  (∀ (s : State) (t0 : Nat), s.running = true → s.fault.timer = some t0 →
      (s.now < t0 + Config.evaluation → exec .faultEvaluation s = .next s) ∧
      (t0 + Config.evaluation ≤ s.now → s.thread.state = .tripped → s.fault.pendingAck.isSome = true →
        (∀ c ∈ s.fault.causes, c.kind = .latched ∧ c.ended = true ∧ (c.cls, c.code) ≠ (clsPlant, 6)) →
        s.log.newest < Config.lastSequence →
        ∃ t, exec .faultEvaluation s = .next t ∧ t.thread.state = .off ∧ t.thread.restartHold = some s.now ∧
          t.fault.causes = [] ∧ t.fault.pendingAck = none ∧ t.fault.timer = some (t0 + Config.evaluation) ∧
          s.Logged t s.own clsPlant 7 0 1 (some 0) none) ∧
      (t0 + Config.evaluation ≤ s.now → s.fault.pendingAck.isSome = true →
        (∃ c ∈ s.fault.causes, c.ended = false ∧ (c.cls, c.code) ≠ (clsPlant, 6)) →
        ∃ t, exec .faultEvaluation s = .next t ∧ t.thread = s.thread ∧ t.log = s.log ∧
          t.fault.pendingAck = s.fault.pendingAck ∧ t.fault.causes ≠ []) ∧
      (t0 + Config.evaluation ≤ s.now → s.fault.pendingAck = none →
        ∃ t, exec .faultEvaluation s = .next t ∧ t = { s with fault := t.fault } ∧
          t.fault.timer = some (t0 + Config.evaluation) ∧
          (s.nacelleView ≠ [] → t.fault.causes = s.fault.causes) ∧
          (s.nacelleView = [] → s.CausesKept → t.holdsCause clsPlant 6 = false) ∧
          (∀ cls code, (cls, code) ≠ (clsPlant, 6) → t.holdsCause cls code = s.holdsCause cls code))) ∧
  (∀ (s : State) (t0 : Nat), s.running = true → s.fault.pendingAck = some t0 →
      (s.now < t0 + Config.ackLapse → exec .ackLapse s = .next s) ∧
      (t0 + Config.ackLapse ≤ s.now → s.log.newest < Config.lastSequence →
        ∃ t, exec .ackLapse s = .next t ∧
          t = { s with fault := { s.fault with pendingAck := none }, log := t.log } ∧
          s.Logged t s.own clsPlant 4 0 1 (some s.fault.causes.length) none)) ∧
  (∀ (c : Instr) (s t : State), exec c s = .next t → s.thread.state = .tripped → t.thread.state ≠ .tripped →
      c ≠ .powerOnReset → c ≠ .resetInput → (∀ lines, c ≠ .resetRelease lines) →
      c = .faultEvaluation ∧ t.thread.state = .off ∧ t.tripLine = false ∧
      s.fault.pendingAck.isSome = true ∧ t.fault.pendingAck = none ∧
      t.fault.causes = [] ∧ t.thread.restartHold = some s.now)

/-- R149, R152, R154, R160, R23: every step keeps the cause set without doubles and each cause one of the fifteen
faults of R148, of the kind R148 gives it, holds no cause while the thread is not TRIPPED, and holds LINK 1 while
SILENT. -/
def Obligations.CauseRulesKept : Prop :=
  (∀ s t : State, s.CausesKept → step s = .next t → t.CausesKept) ∧
  (∀ row ∈ causeTable, causeKind row.1 row.2.1 = row.2.2)

/-! ## The fault log -/

/-- R168: a request for this station sets the cursor, with the count clamped to 1 to 16 and the gap mark where older
records have been overwritten, whatever the cursor; a request for another station changes nothing. R17, R169, R170: an
offer with room in the queue sends, behind the frames that wait, the record the cursor names, marks a skip over
records overwritten meanwhile, ends an answer that has passed the newest record, and answers an EMPTY_DUE with the
newest number. A request taken offers nothing in its own command: LOG_ENTRY_OFFER does (assumption 14), and with no
answer in progress that command changes nothing (assumption 4). An answer that ends with count to spare keeps its
remaining count (assumption 64). -/
def Obligations.LogRequestsAnswered : Prop :=
  (∀ (s : State) (levels : List Level) (target fromSequence count : Nat), s.isJoined = true → s.receives = true →
      receive levels = (false, .good 0 (.logRequest target fromSequence count)) →
      let n := if count = 0 then 1 else if 16 < count then 16 else count
      let first := if fromSequence = 0 then 1 else fromSequence
      (target ≠ s.own → exec (.frameReceived levels) s = .next s.received) ∧
      (target = s.own → s.log.newest < first → exec (.frameReceived levels) s = .next { s.received with
        log := { s.log with cursor := .emptyDue, remaining := 1 } }) ∧
      (target = s.own → s.log.overwritten + 1 ≤ first → first ≤ s.log.newest →
        exec (.frameReceived levels) s = .next { s.received with
          log := { s.log with cursor := .answering, next := first, remaining := n, gap := false } }) ∧
      (target = s.own → first < s.log.overwritten + 1 → first ≤ s.log.newest →
        exec (.frameReceived levels) s = .next { s.received with
          log := { s.log with cursor := .answering, next := s.log.overwritten + 1, remaining := n, gap := true } })) ∧
  (∀ s : State, s.isJoined = true →
      ((5 < s.link.queue.length ∨ 2 ≤ (s.link.queue.filter (fun x => x.frame.kind == 28)).length) →
        exec .logEntryOffer s = .next s) ∧
      (s.log.cursor = .idle → exec .logEntryOffer s = .next s) ∧
      (s.link.queue.length ≤ 5 → (s.link.queue.filter (fun x => x.frame.kind == 28)).length < 2 → s.log.Consecutive →
        let offered (e : LogEntry) : List Slot := s.link.queue ++ [{ frame := .logEntry e, onLine := false }]
        (s.log.cursor = .emptyDue → exec .logEntryOffer s = .next { s with
          log := { s.log with cursor := .idle, remaining := 0 },
          link := { s.link with queue := offered (emptyEntry s.log.newest) } }) ∧
        (s.log.cursor = .answering → s.log.newest < s.log.next → exec .logEntryOffer s = .next { s with
          log := { s.log with cursor := .idle } }) ∧
        (s.log.cursor = .answering → s.log.records ≠ [] → s.log.next ≤ s.log.newest →
          ∃ t r, exec .logEntryOffer s = .next t ∧ r ∈ s.log.records ∧
            r.sequence = max s.log.next (s.log.overwritten + 1) ∧
            t.link = { s.link with
              queue := offered (r.entry (s.log.gap || decide (s.log.next < s.log.overwritten + 1))) } ∧
            t.log.records = s.log.records ∧ t.log.next = r.sequence + 1 ∧ t.log.gap = false ∧
            t.log.remaining = s.log.remaining - 1 ∧
            t.log.cursor = if s.log.remaining ≤ 1 then .idle else .answering)))

/-- R166: every step keeps at most 64 records with consecutive ascending sequence numbers from oldest to newest, the
number held plus the overwritten count equal to the newest. -/
def Obligations.LogStaysConsecutive : Prop :=
  ∀ s t : State, s.log.Consecutive → step s = .next t → t.log.Consecutive

/-! ## Quiet -/

/-- R174 to R176, R180: an order is taken in OFF and TRIPPED only, with its interval clamped to 1 to 60; an idle
station with an empty queue enters QUIET at once, and one with work waits in QUIET_PENDING until ENTRY_INTO_QUIET
finds that work done (assumption 12). R78, R79: in QUIET an exchange with offset 0 begins every 100 ms, and nothing
else changes. R80, R81, R96: one that finds the last exchange unanswered takes it as a miss first, and the third is
STACK 3 WARN, a wake cause. R151, R157, R177: every report of WARN or above is a wake cause, taken by the quiet state
it finds, and so is PLANT 6 taken from a peer's notice; a NOTE is none. An overdue mark is dropped at the entry
(assumption 21); where there is nothing to enter, and before the moment of an exchange, the commands change nothing
(assumption 4). -/
def Obligations.QuietOrdersAndExchanges : Prop :=
  (∀ (s : State), s.isJoined = true →
      (∀ (levels : List Level) (interval wake : Nat), s.receives = true →
        receive levels = (false, .good 0 (.quietOrder interval wake)) →
        let i := if interval = 0 then 1 else if 60 < interval then 60 else interval
        (s.thread.state.quietable = false → exec (.frameReceived levels) s = .next s.received) ∧
        (s.thread.state.quietable = true → s.quiet.state = .active → (s.yaw.state ≠ .idle ∨ s.link.queue ≠ []) →
          exec (.frameReceived levels) s = .next { s.received with
            quiet := { s.quiet with interval := i, wakePeriod := wake, state := .pending } }) ∧
        (s.thread.state.quietable = true → s.quiet.state = .active → s.yaw.state = .idle → s.link.queue = [] →
          exec (.frameReceived levels) s = .next { s.received with
            quiet := { s.quiet with
              interval := i, wakePeriod := wake, state := .quiet, callCount := 0, callMark := none, lastMark := none,
              call := none, wakeTimer := if wake = 0 then none else some s.now },
            cadence := { s.cadence with timer := none, overdue := false },
            thread := { s.thread with quietTimer := some s.now } }) ∧
        (s.thread.state.quietable = true → s.quiet.state = .pending →
          exec (.frameReceived levels) s = .next { s.received with
            quiet := { s.quiet with interval := i, wakePeriod := wake } }) ∧
        (s.thread.state.quietable = true → s.quiet.state = .quiet →
          exec (.frameReceived levels) s = .next { s.received with quiet := { s.quiet with
            interval := i, wakePeriod := wake, wakeTimer := if wake = 0 then none else some s.now } })) ∧
      ((s.quiet.state ≠ .pending ∨ s.yaw.state ≠ .idle ∨ s.link.queue ≠ []) → exec .entryIntoQuiet s = .next s) ∧
      (s.quiet.state = .pending → s.yaw.state = .idle → s.link.queue = [] →
        exec .entryIntoQuiet s = .next { s with
          quiet := { s.quiet with state := .quiet, callCount := 0, callMark := none, lastMark := none, call := none,
                                  wakeTimer := if s.quiet.wakePeriod = 0 then none else some s.now },
          cadence := { s.cadence with timer := none, overdue := false },
          thread := { s.thread with quietTimer := some s.now } })) ∧
  (∀ (s : State) (t0 : Nat), s.isJoined = true → s.quiet.state = .quiet → s.thread.quietTimer = some t0 →
      (s.now < t0 + Config.quietExchange → exec .quietExchangeTimer s = .next s) ∧
      (t0 + Config.quietExchange ≤ s.now → s.thread.exchange.outstanding = false → s.thread.state.quietable = true →
        s.thread.exchange.sent.breakerClosed = false →
        exec .quietExchangeTimer s = .next { s with thread := { s.thread with
          quietTimer := some (t0 + Config.quietExchange),
          exchange := {
            outstanding := true, begun := s.now,
            sent := {
              number := (s.thread.exchange.sent.number + 1) % 256, active := s.allotment.pCommand,
              reactive := s.allotment.qCommand, offset := 0, gates := false, contactorClosed := false,
              breakerClosed := false } } } }) ∧
      (t0 + Config.quietExchange ≤ s.now → s.thread.exchange.outstanding = true →
        ∃ t, exec .quietExchangeTimer s = .next t ∧ t.thread.quietTimer = some (t0 + Config.quietExchange) ∧
          t.thread.exchange.outstanding = true ∧ t.thread.exchange.begun = s.now ∧
          t.thread.exchange.sent.number = (s.thread.exchange.sent.number + 1) % 256 ∧
          t.thread.exchange.sent.offset = 0 ∧ t.thread.missCount = min 255 (s.thread.missCount + 1) ∧
          ((s.thread.missCount + 1 ≠ 3 ∨ s.thread.portOut = true) → t.quiet = s.quiet ∧ t.log = s.log ∧ t.link = s.link) ∧
          (s.thread.missCount + 1 = 3 → s.thread.portOut = false → s.WakeTaken t ∧ t.thread.portOut = true ∧
            (s.thread.state.quietable = true → s.log.newest < Config.lastSequence → s.link.queue.length < 8 →
              t.thread.state = s.thread.state ∧ s.Logged t s.own clsStack 3 1 1 (some 3) none ∧
              s.Noticed t clsStack 3 1 1 3)))) ∧
  (∀ (s : State) (cls code : Nat) (severity : Severity) (detail : Int),
      (severity ≠ .note → s.WakeTaken (reportFault s cls code severity detail)) ∧
      (reportNote s cls code detail).quiet = s.quiet ∧ (reportNote s cls code detail).cadence = s.cadence) ∧
  (∀ (s : State) (levels : List Level) (n : Nat) (f : Notice), s.isJoined = true → s.receives = true →
      receive levels = (false, .good n (.faultNotice f)) → 1 ≤ f.cls → f.cls ≤ 8 → f.severity = 3 →
      ∃ t, exec (.frameReceived levels) s = .next t ∧ s.WakeTaken t ∧ t.thread.state = .tripped)

/-- R177, R178, R180: the wake timer that runs out starts a wake call, whose first mark falls 200 µs before the third
where a mark was heard less than 1000 µs back, and else on the next idle; each mark of a call is driven on an idle
line at its moment, and on a line that is not idle it waits, or a run just heard as a mark stands for it (assumption
24); before its moment nothing is driven (assumption 4). A first mark whose moment is the next idle is driven at that
idle, and on a line not idle it leaves the call as it is: no mark heard before it stands for it, and the call keeps
only that mark's end (assumption 68). A call whose mark has waited 1000 µs for the line, a first mark at the next idle
counting from the start of the call, or whose own mark's run has not ended by then (both assumption 35), is given up,
and the station returns to ACTIVE, and before that it is not; a call fixed from a mark heard less than 1000 µs back
puts its third mark on the first moment of that cadence at least 200 µs ahead. R179, R181: in QUIET with no call of
its own a station counts the marks it hears that begin at most 150 µs apart, and the third returns it to ACTIVE. R2,
R19: a mark that breaks a reception in hand is handed on all the same, and the reception is counted; one that makes
the count 51 is a wake cause by LINK 3 WARN (R20, R177), taken before the mark, which the new call hears (assumption
36). A mark on an idle line counts as no broken frame (assumption 47). R26, R178, R181: the run of an own mark ends
that mark, and the last one's returns the station to ACTIVE; a run heard as a mark while the call waits stands for its
mark (assumption 24), and while it does not wait leaves only its end (assumptions 24 and 68). -/
def Obligations.WakeCallsMadeAndHeard : Prop :=
  (∀ s : State, s.isJoined = true → s.quiet.state = .quiet →
      (∀ t0, s.quiet.wakeTimer = some t0 → t0 + s.quiet.wakePeriod * Config.minute ≤ s.now → s.quiet.call = none →
        (∀ h, s.quiet.lastMark = some h → h + Config.callWindow ≤ s.now) →
        exec .wakeTimerExpiry s = .next { s with quiet := { s.quiet with
          wakeTimer := none,
          call := some { done := 0, first := none, since := s.now, waiting := false, markEnd := none } } }) ∧
      (∀ t0 h, s.quiet.wakeTimer = some t0 → t0 + s.quiet.wakePeriod * Config.minute ≤ s.now → s.quiet.call = none →
        s.quiet.lastMark = some h → h ≤ s.now → s.now < h + Config.callWindow →
        thirdMark s.now h - 8000 + 2 * 4000 = thirdMark s.now h ∧ s.now ≤ thirdMark s.now h - 8000 ∧
        exec .wakeTimerExpiry s = .next { s with quiet := { s.quiet with
          wakeTimer := none,
          call := some { done := 0, first := some (thirdMark s.now h - 8000), since := s.now, waiting := false,
                         markEnd := none } } }) ∧
      (∀ c r, s.quiet.call = some c → c.done < 3 → (∀ m, c.first = some m → m + 4000 * c.done ≤ s.now) →
        s.link.ownMark = none → s.receiver.recessiveSince = some r → r + 48 ≤ s.now →
        exec (.wakeCallMark false) s = .next { s with
          link := { s.link with ownMark := some s.now },
          quiet := { s.quiet with call := some {
            done := c.done + 1, first := some (c.first.getD s.now), since := c.since, waiting := false,
            markEnd := none } } }) ∧
      (∀ c m, s.quiet.call = some c → c.first = some m → s.now < m + 4000 * c.done →
        ∀ dominant, exec (.wakeCallMark dominant) s = .next s) ∧
      (∀ c dominant, s.quiet.call = some c → c.first = none →
        (dominant = true ∨ s.link.ownMark.isSome = true ∨ ∀ r, s.receiver.recessiveSince = some r → s.now < r + 48) →
        exec (.wakeCallMark dominant) s = .next s) ∧
      (∀ c m dominant, s.quiet.call = some c → c.done < 3 → c.first = some m → c.waiting = false →
        m + 4000 * c.done ≤ s.now →
        (dominant = true ∨ s.link.ownMark.isSome = true ∨ ∀ r, s.receiver.recessiveSince = some r → s.now < r + 48) →
        ((c.markEnd = none ∨ ∃ e, c.markEnd = some e ∧ e + 48 ≤ s.now) →
          exec (.wakeCallMark dominant) s = .next { s with
            quiet := { s.quiet with call := some { c with waiting := true } } }) ∧
        (∀ e, c.markEnd = some e → s.now < e + 48 → c.done < 2 →
          exec (.wakeCallMark dominant) s = .next { s with
            quiet := { s.quiet with call := some { c with
              done := c.done + 1, waiting := false, markEnd := none } } }) ∧
        (∀ e, c.markEnd = some e → s.now < e + 48 → c.done = 2 →
          ∃ t, exec (.wakeCallMark dominant) s = .next t ∧ t.quiet.state = .active ∧ t.quiet.call = none ∧
            t.link = s.link)) ∧
      (∀ c, s.quiet.call = some c →
        ((∃ m, c.first = some m ∧ c.done < 3 ∧ c.waiting = true ∧ m + 4000 * c.done + Config.callWindow ≤ s.now) ∨
          (c.first = none ∧ c.done < 3 ∧ c.since + Config.callWindow ≤ s.now) ∨
          (1 ≤ c.done ∧ ∃ o, s.link.ownMark = some o ∧ o + Config.callWindow ≤ s.now)) →
        ∃ t, exec .wakeCallGiveUp s = .next t ∧ t.quiet.state = .active ∧ t.quiet.call = none ∧
          t.quiet.wakeTimer = none ∧ t.cadence.reference = .seeking ∧ t.cadence.seekCount = 0 ∧
          t.cadence.timer = some s.now ∧ t.cadence.expiry = Config.wakeExpiry ∧ t.table.changePending = true ∧
          t.thread = { s.thread with quietTimer := none } ∧ t.link = s.link ∧ t.fault = s.fault ∧ t.yaw = s.yaw) ∧
      (∀ c, s.quiet.call = some c → c.done < 3 →
        ((∃ m, c.first = some m ∧ s.now < m + 4000 * c.done + Config.callWindow) ∨
          (c.first = none ∧ s.now < c.since + Config.callWindow)) →
        (∀ o, s.link.ownMark = some o → s.now < o + Config.callWindow) → exec .wakeCallGiveUp s = .next s)) ∧
  (∀ now h : Nat, h ≤ now → now < h + Config.callWindow →
      ∃ k, 1 ≤ k ∧ thirdMark now h = h + 16000 * k ∧ now + 8000 ≤ thirdMark now h ∧
        ∀ j, 1 ≤ j → now + 8000 ≤ h + 16000 * j → k ≤ j) ∧
  (∀ (s : State) (length : Nat) (early : Fin 4), s.isJoined = true → s.quiet.state = .quiet →
      s.quiet.call = none → s.link.ownMark = none → 16 ≤ length → length ≤ 24 →
      let first := s.now - (4 * length + early)
      let link := s.linkAfterRun first
      (s.phaseAt first = .receiving → s.link.windowDiscards ≠ 50) →
      (∀ m, s.quiet.callMark = some m → 2 ≤ s.quiet.callCount → first ≤ m + 6000 →
        ∃ t, exec (.dominantRunEnd length early) s = .next t ∧ t.quiet.state = .active ∧ t.quiet.callCount = 0 ∧
          t.cadence.reference = .seeking ∧ t.cadence.timer = some s.now ∧ t.cadence.expiry = Config.wakeExpiry ∧
          t.table.changePending = true ∧ t.link = link) ∧
      (∀ m, s.quiet.callMark = some m → s.quiet.callCount = 1 → first ≤ m + 6000 →
        ∃ t, exec (.dominantRunEnd length early) s = .next t ∧
          t = { s with receiver := t.receiver, link := link, quiet := { s.quiet with
            callCount := 2, callMark := some first, lastMark := some first } }) ∧
      ((s.quiet.callMark = none ∨ ∃ m, s.quiet.callMark = some m ∧ m + 6000 < first) →
        ∃ t, exec (.dominantRunEnd length early) s = .next t ∧
          t = { s with receiver := t.receiver, link := link, quiet := { s.quiet with
            callCount := 1, callMark := some first, lastMark := some first } })) ∧
  (∀ (s : State) (length : Nat) (early : Fin 4), s.isJoined = true → s.quiet.state = .quiet →
      s.quiet.call = none → s.link.ownMark = none → 16 ≤ length → length ≤ 24 →
      s.phaseAt (s.now - (4 * length + early)) = .receiving → s.link.windowDiscards = 50 →
      ∃ t c, exec (.dominantRunEnd length early) s = .next t ∧ t.link.windowDiscards = 51 ∧
        t.quiet = { s.quiet with call := some c } ∧ c.done = 0 ∧ c.since = s.now ∧ c.waiting = false ∧
        c.markEnd = some s.now ∧ t.cadence = s.cadence) ∧
  (∀ (s : State) (length : Nat) (early : Fin 4) (c : WakeCall), s.isJoined = true → s.quiet.state = .quiet →
      s.quiet.call = some c → 16 ≤ length →
      let first := s.now - (4 * length + early)
      let link := s.linkAfterRun first
      let woken (t : State) : Prop := t.quiet.state = .active ∧ t.quiet.call = none ∧ t.quiet.wakeTimer = none ∧
        t.cadence = { s.cadence with
          reference := .seeking, seekCount := 0, timer := some s.now, expiry := Config.wakeExpiry, overdue := false } ∧
        t.table.changePending = true ∧ t.link = { link with ownMark := none }
      (s.phaseAt first = .receiving → s.link.windowDiscards ≠ 50) →
      (s.link.ownMark.isSome = true → c.done < 3 → ∃ t, exec (.dominantRunEnd length early) s = .next t ∧
        t = { s with receiver := t.receiver, link := { link with ownMark := none } }) ∧
      (s.link.ownMark.isSome = true → c.done = 3 → ∃ t, exec (.dominantRunEnd length early) s = .next t ∧ woken t) ∧
      (s.link.ownMark = none → length ≤ 24 → c.waiting = true → c.done < 2 →
        ∃ t, exec (.dominantRunEnd length early) s = .next t ∧ t = { s with
          receiver := t.receiver, link := link,
          quiet := { s.quiet with call := some { c with done := c.done + 1, waiting := false, markEnd := none } } }) ∧
      (s.link.ownMark = none → length ≤ 24 → c.waiting = true → c.done = 2 →
        ∃ t, exec (.dominantRunEnd length early) s = .next t ∧ woken t) ∧
      (s.link.ownMark = none → length ≤ 24 → c.waiting = false →
        ∃ t, exec (.dominantRunEnd length early) s = .next t ∧ t = { s with
          receiver := t.receiver, link := link,
          quiet := { s.quiet with call := some { c with markEnd := some s.now } } }))

/-- R175 to R178, R38: every step keeps a station that is not ACTIVE JOINED with its thread OFF or TRIPPED; in QUIET
its cadence timer is stopped; and outside QUIET there is no wake call, no wake timer and no exchange timer of QUIET.
-/
def Obligations.QuietRulesKept : Prop :=
  ∀ s t : State, s.QuietKept → step s = .next t → t.QuietKept
end

