-- ==== Sys2Proof/Laws/State.lean ====
section
/-!
SUPPORT. What each update of the state leaves as it is: one lemma a field, true by `rfl`, for the operations that write
a record outright.  No later proof unfolds a record update.
-/
namespace Sys2Proof.Machine

@[simp] theorem enterRecord_pending (s : State) (origin cls code severity action : Nat) (detail : Option Int)
    (noticeNumber : Option Nat) :
    (enterRecord s origin cls code severity action detail noticeNumber).pending = s.pending := rfl
@[simp] theorem enterRecord_now (s : State) (origin cls code severity action : Nat) (detail : Option Int)
    (noticeNumber : Option Nat) :
    (enterRecord s origin cls code severity action detail noticeNumber).now = s.now := rfl
@[simp] theorem enterRecord_resets (s : State) (origin cls code severity action : Nat) (detail : Option Int)
    (noticeNumber : Option Nat) :
    (enterRecord s origin cls code severity action detail noticeNumber).resets = s.resets := rfl
@[simp] theorem enterRecord_pins (s : State) (origin cls code severity action : Nat) (detail : Option Int)
    (noticeNumber : Option Nat) :
    (enterRecord s origin cls code severity action detail noticeNumber).pins = s.pins := rfl
@[simp] theorem enterRecord_config (s : State) (origin cls code severity action : Nat) (detail : Option Int)
    (noticeNumber : Option Nat) :
    (enterRecord s origin cls code severity action detail noticeNumber).config = s.config := rfl
@[simp] theorem enterRecord_receiver (s : State) (origin cls code severity action : Nat) (detail : Option Int)
    (noticeNumber : Option Nat) :
    (enterRecord s origin cls code severity action detail noticeNumber).receiver = s.receiver := rfl
@[simp] theorem enterRecord_link (s : State) (origin cls code severity action : Nat) (detail : Option Int)
    (noticeNumber : Option Nat) :
    (enterRecord s origin cls code severity action detail noticeNumber).link = s.link := rfl
@[simp] theorem enterRecord_quiet (s : State) (origin cls code severity action : Nat) (detail : Option Int)
    (noticeNumber : Option Nat) :
    (enterRecord s origin cls code severity action detail noticeNumber).quiet = s.quiet := rfl
@[simp] theorem enterRecord_cadence (s : State) (origin cls code severity action : Nat) (detail : Option Int)
    (noticeNumber : Option Nat) :
    (enterRecord s origin cls code severity action detail noticeNumber).cadence = s.cadence := rfl
@[simp] theorem enterRecord_table (s : State) (origin cls code severity action : Nat) (detail : Option Int)
    (noticeNumber : Option Nat) :
    (enterRecord s origin cls code severity action detail noticeNumber).table = s.table := rfl
@[simp] theorem enterRecord_allotment (s : State) (origin cls code severity action : Nat) (detail : Option Int)
    (noticeNumber : Option Nat) :
    (enterRecord s origin cls code severity action detail noticeNumber).allotment = s.allotment := rfl
@[simp] theorem enterRecord_thread (s : State) (origin cls code severity action : Nat) (detail : Option Int)
    (noticeNumber : Option Nat) :
    (enterRecord s origin cls code severity action detail noticeNumber).thread = s.thread := rfl
@[simp] theorem enterRecord_cooling (s : State) (origin cls code severity action : Nat) (detail : Option Int)
    (noticeNumber : Option Nat) :
    (enterRecord s origin cls code severity action detail noticeNumber).cooling = s.cooling := rfl
@[simp] theorem enterRecord_wind (s : State) (origin cls code severity action : Nat) (detail : Option Int)
    (noticeNumber : Option Nat) :
    (enterRecord s origin cls code severity action detail noticeNumber).wind = s.wind := rfl
@[simp] theorem enterRecord_yaw (s : State) (origin cls code severity action : Nat) (detail : Option Int)
    (noticeNumber : Option Nat) :
    (enterRecord s origin cls code severity action detail noticeNumber).yaw = s.yaw := rfl
@[simp] theorem enterRecord_fault (s : State) (origin cls code severity action : Nat) (detail : Option Int)
    (noticeNumber : Option Nat) :
    (enterRecord s origin cls code severity action detail noticeNumber).fault = s.fault := rfl

@[simp] theorem reportNote_pending (s : State) (cls code : Nat) (detail : Int) :
    (reportNote s cls code detail).pending = s.pending := rfl
@[simp] theorem reportNote_now (s : State) (cls code : Nat) (detail : Int) :
    (reportNote s cls code detail).now = s.now := rfl
@[simp] theorem reportNote_resets (s : State) (cls code : Nat) (detail : Int) :
    (reportNote s cls code detail).resets = s.resets := rfl
@[simp] theorem reportNote_pins (s : State) (cls code : Nat) (detail : Int) :
    (reportNote s cls code detail).pins = s.pins := rfl
@[simp] theorem reportNote_config (s : State) (cls code : Nat) (detail : Int) :
    (reportNote s cls code detail).config = s.config := rfl
@[simp] theorem reportNote_receiver (s : State) (cls code : Nat) (detail : Int) :
    (reportNote s cls code detail).receiver = s.receiver := rfl
@[simp] theorem reportNote_link (s : State) (cls code : Nat) (detail : Int) :
    (reportNote s cls code detail).link = s.link := rfl
@[simp] theorem reportNote_quiet (s : State) (cls code : Nat) (detail : Int) :
    (reportNote s cls code detail).quiet = s.quiet := rfl
@[simp] theorem reportNote_cadence (s : State) (cls code : Nat) (detail : Int) :
    (reportNote s cls code detail).cadence = s.cadence := rfl
@[simp] theorem reportNote_table (s : State) (cls code : Nat) (detail : Int) :
    (reportNote s cls code detail).table = s.table := rfl
@[simp] theorem reportNote_allotment (s : State) (cls code : Nat) (detail : Int) :
    (reportNote s cls code detail).allotment = s.allotment := rfl
@[simp] theorem reportNote_thread (s : State) (cls code : Nat) (detail : Int) :
    (reportNote s cls code detail).thread = s.thread := rfl
@[simp] theorem reportNote_cooling (s : State) (cls code : Nat) (detail : Int) :
    (reportNote s cls code detail).cooling = s.cooling := rfl
@[simp] theorem reportNote_wind (s : State) (cls code : Nat) (detail : Int) :
    (reportNote s cls code detail).wind = s.wind := rfl
@[simp] theorem reportNote_yaw (s : State) (cls code : Nat) (detail : Int) :
    (reportNote s cls code detail).yaw = s.yaw := rfl
@[simp] theorem reportNote_fault (s : State) (cls code : Nat) (detail : Int) :
    (reportNote s cls code detail).fault = s.fault := rfl

@[simp] theorem markChange_pending (s : State) : (markChange s).pending = s.pending := rfl
@[simp] theorem markChange_now (s : State) : (markChange s).now = s.now := rfl
@[simp] theorem markChange_resets (s : State) : (markChange s).resets = s.resets := rfl
@[simp] theorem markChange_pins (s : State) : (markChange s).pins = s.pins := rfl
@[simp] theorem markChange_config (s : State) : (markChange s).config = s.config := rfl
@[simp] theorem markChange_receiver (s : State) : (markChange s).receiver = s.receiver := rfl
@[simp] theorem markChange_link (s : State) : (markChange s).link = s.link := rfl
@[simp] theorem markChange_quiet (s : State) : (markChange s).quiet = s.quiet := rfl
@[simp] theorem markChange_cadence (s : State) : (markChange s).cadence = s.cadence := rfl
@[simp] theorem markChange_allotment (s : State) : (markChange s).allotment = s.allotment := rfl
@[simp] theorem markChange_thread (s : State) : (markChange s).thread = s.thread := rfl
@[simp] theorem markChange_cooling (s : State) : (markChange s).cooling = s.cooling := rfl
@[simp] theorem markChange_wind (s : State) : (markChange s).wind = s.wind := rfl
@[simp] theorem markChange_yaw (s : State) : (markChange s).yaw = s.yaw := rfl
@[simp] theorem markChange_fault (s : State) : (markChange s).fault = s.fault := rfl
@[simp] theorem markChange_log (s : State) : (markChange s).log = s.log := rfl

@[simp] theorem addCause_pending (s : State) (cls code : Nat) : (addCause s cls code).pending = s.pending := rfl
@[simp] theorem addCause_now (s : State) (cls code : Nat) : (addCause s cls code).now = s.now := rfl
@[simp] theorem addCause_resets (s : State) (cls code : Nat) : (addCause s cls code).resets = s.resets := rfl
@[simp] theorem addCause_pins (s : State) (cls code : Nat) : (addCause s cls code).pins = s.pins := rfl
@[simp] theorem addCause_config (s : State) (cls code : Nat) : (addCause s cls code).config = s.config := rfl
@[simp] theorem addCause_receiver (s : State) (cls code : Nat) : (addCause s cls code).receiver = s.receiver := rfl
@[simp] theorem addCause_link (s : State) (cls code : Nat) : (addCause s cls code).link = s.link := rfl
@[simp] theorem addCause_quiet (s : State) (cls code : Nat) : (addCause s cls code).quiet = s.quiet := rfl
@[simp] theorem addCause_cadence (s : State) (cls code : Nat) : (addCause s cls code).cadence = s.cadence := rfl
@[simp] theorem addCause_table (s : State) (cls code : Nat) : (addCause s cls code).table = s.table := rfl
@[simp] theorem addCause_allotment (s : State) (cls code : Nat) : (addCause s cls code).allotment = s.allotment := rfl
@[simp] theorem addCause_thread (s : State) (cls code : Nat) : (addCause s cls code).thread = s.thread := rfl
@[simp] theorem addCause_cooling (s : State) (cls code : Nat) : (addCause s cls code).cooling = s.cooling := rfl
@[simp] theorem addCause_wind (s : State) (cls code : Nat) : (addCause s cls code).wind = s.wind := rfl
@[simp] theorem addCause_yaw (s : State) (cls code : Nat) : (addCause s cls code).yaw = s.yaw := rfl
@[simp] theorem addCause_log (s : State) (cls code : Nat) : (addCause s cls code).log = s.log := rfl

@[simp] theorem endCondition_pending (s : State) (cls code : Nat) :
    (endCondition s cls code).pending = s.pending := rfl
@[simp] theorem endCondition_now (s : State) (cls code : Nat) : (endCondition s cls code).now = s.now := rfl
@[simp] theorem endCondition_resets (s : State) (cls code : Nat) : (endCondition s cls code).resets = s.resets := rfl
@[simp] theorem endCondition_pins (s : State) (cls code : Nat) : (endCondition s cls code).pins = s.pins := rfl
@[simp] theorem endCondition_config (s : State) (cls code : Nat) : (endCondition s cls code).config = s.config := rfl
@[simp] theorem endCondition_receiver (s : State) (cls code : Nat) : (endCondition s cls code).receiver = s.receiver := rfl
@[simp] theorem endCondition_link (s : State) (cls code : Nat) : (endCondition s cls code).link = s.link := rfl
@[simp] theorem endCondition_quiet (s : State) (cls code : Nat) : (endCondition s cls code).quiet = s.quiet := rfl
@[simp] theorem endCondition_cadence (s : State) (cls code : Nat) :
    (endCondition s cls code).cadence = s.cadence := rfl
@[simp] theorem endCondition_table (s : State) (cls code : Nat) : (endCondition s cls code).table = s.table := rfl
@[simp] theorem endCondition_allotment (s : State) (cls code : Nat) :
    (endCondition s cls code).allotment = s.allotment := rfl
@[simp] theorem endCondition_thread (s : State) (cls code : Nat) : (endCondition s cls code).thread = s.thread := rfl
@[simp] theorem endCondition_cooling (s : State) (cls code : Nat) :
    (endCondition s cls code).cooling = s.cooling := rfl
@[simp] theorem endCondition_wind (s : State) (cls code : Nat) : (endCondition s cls code).wind = s.wind := rfl
@[simp] theorem endCondition_yaw (s : State) (cls code : Nat) : (endCondition s cls code).yaw = s.yaw := rfl
@[simp] theorem endCondition_log (s : State) (cls code : Nat) : (endCondition s cls code).log = s.log := rfl

@[simp] theorem returnToActive_pending (s : State) : (returnToActive s).pending = s.pending := rfl
@[simp] theorem returnToActive_now (s : State) : (returnToActive s).now = s.now := rfl
@[simp] theorem returnToActive_resets (s : State) : (returnToActive s).resets = s.resets := rfl
@[simp] theorem returnToActive_pins (s : State) : (returnToActive s).pins = s.pins := rfl
@[simp] theorem returnToActive_config (s : State) : (returnToActive s).config = s.config := rfl
@[simp] theorem returnToActive_receiver (s : State) : (returnToActive s).receiver = s.receiver := rfl
@[simp] theorem returnToActive_link (s : State) : (returnToActive s).link = s.link := rfl
@[simp] theorem returnToActive_allotment (s : State) : (returnToActive s).allotment = s.allotment := rfl
@[simp] theorem returnToActive_cooling (s : State) : (returnToActive s).cooling = s.cooling := rfl
@[simp] theorem returnToActive_wind (s : State) : (returnToActive s).wind = s.wind := rfl
@[simp] theorem returnToActive_yaw (s : State) : (returnToActive s).yaw = s.yaw := rfl
@[simp] theorem returnToActive_fault (s : State) : (returnToActive s).fault = s.fault := rfl
@[simp] theorem returnToActive_log (s : State) : (returnToActive s).log = s.log := rfl

@[simp] theorem startCall_pending (s : State) : (startCall s).pending = s.pending := rfl
@[simp] theorem startCall_now (s : State) : (startCall s).now = s.now := rfl
@[simp] theorem startCall_resets (s : State) : (startCall s).resets = s.resets := rfl
@[simp] theorem startCall_pins (s : State) : (startCall s).pins = s.pins := rfl
@[simp] theorem startCall_config (s : State) : (startCall s).config = s.config := rfl
@[simp] theorem startCall_receiver (s : State) : (startCall s).receiver = s.receiver := rfl
@[simp] theorem startCall_link (s : State) : (startCall s).link = s.link := rfl
@[simp] theorem startCall_cadence (s : State) : (startCall s).cadence = s.cadence := rfl
@[simp] theorem startCall_table (s : State) : (startCall s).table = s.table := rfl
@[simp] theorem startCall_allotment (s : State) : (startCall s).allotment = s.allotment := rfl
@[simp] theorem startCall_thread (s : State) : (startCall s).thread = s.thread := rfl
@[simp] theorem startCall_cooling (s : State) : (startCall s).cooling = s.cooling := rfl
@[simp] theorem startCall_wind (s : State) : (startCall s).wind = s.wind := rfl
@[simp] theorem startCall_yaw (s : State) : (startCall s).yaw = s.yaw := rfl
@[simp] theorem startCall_fault (s : State) : (startCall s).fault = s.fault := rfl
@[simp] theorem startCall_log (s : State) : (startCall s).log = s.log := rfl

@[simp] theorem enterQuiet_pending (s : State) : (enterQuiet s).pending = s.pending := rfl
@[simp] theorem enterQuiet_now (s : State) : (enterQuiet s).now = s.now := rfl
@[simp] theorem enterQuiet_resets (s : State) : (enterQuiet s).resets = s.resets := rfl
@[simp] theorem enterQuiet_pins (s : State) : (enterQuiet s).pins = s.pins := rfl
@[simp] theorem enterQuiet_config (s : State) : (enterQuiet s).config = s.config := rfl
@[simp] theorem enterQuiet_receiver (s : State) : (enterQuiet s).receiver = s.receiver := rfl
@[simp] theorem enterQuiet_link (s : State) : (enterQuiet s).link = s.link := rfl
@[simp] theorem enterQuiet_table (s : State) : (enterQuiet s).table = s.table := rfl
@[simp] theorem enterQuiet_allotment (s : State) : (enterQuiet s).allotment = s.allotment := rfl
@[simp] theorem enterQuiet_cooling (s : State) : (enterQuiet s).cooling = s.cooling := rfl
@[simp] theorem enterQuiet_wind (s : State) : (enterQuiet s).wind = s.wind := rfl
@[simp] theorem enterQuiet_yaw (s : State) : (enterQuiet s).yaw = s.yaw := rfl
@[simp] theorem enterQuiet_fault (s : State) : (enterQuiet s).fault = s.fault := rfl
@[simp] theorem enterQuiet_log (s : State) : (enterQuiet s).log = s.log := rfl

@[simp] theorem startHold_pending (s : State) : (startHold s).pending = s.pending := rfl
@[simp] theorem startHold_now (s : State) : (startHold s).now = s.now := rfl
@[simp] theorem startHold_resets (s : State) : (startHold s).resets = s.resets := rfl
@[simp] theorem startHold_pins (s : State) : (startHold s).pins = s.pins := rfl
@[simp] theorem startHold_config (s : State) : (startHold s).config = s.config := rfl
@[simp] theorem startHold_receiver (s : State) : (startHold s).receiver = s.receiver := rfl
@[simp] theorem startHold_link (s : State) : (startHold s).link = s.link := rfl
@[simp] theorem startHold_quiet (s : State) : (startHold s).quiet = s.quiet := rfl
@[simp] theorem startHold_cadence (s : State) : (startHold s).cadence = s.cadence := rfl
@[simp] theorem startHold_table (s : State) : (startHold s).table = s.table := rfl
@[simp] theorem startHold_allotment (s : State) : (startHold s).allotment = s.allotment := rfl
@[simp] theorem startHold_thread (s : State) : (startHold s).thread = s.thread := rfl
@[simp] theorem startHold_cooling (s : State) : (startHold s).cooling = s.cooling := rfl
@[simp] theorem startHold_wind (s : State) : (startHold s).wind = s.wind := rfl
@[simp] theorem startHold_fault (s : State) : (startHold s).fault = s.fault := rfl
@[simp] theorem startHold_log (s : State) : (startHold s).log = s.log := rfl

@[simp] theorem markTaken_pending (s : State) (n : Nat) : (markTaken s n).pending = s.pending := rfl
@[simp] theorem markTaken_now (s : State) (n : Nat) : (markTaken s n).now = s.now := rfl
@[simp] theorem markTaken_resets (s : State) (n : Nat) : (markTaken s n).resets = s.resets := rfl
@[simp] theorem markTaken_pins (s : State) (n : Nat) : (markTaken s n).pins = s.pins := rfl
@[simp] theorem markTaken_config (s : State) (n : Nat) : (markTaken s n).config = s.config := rfl
@[simp] theorem markTaken_receiver (s : State) (n : Nat) : (markTaken s n).receiver = s.receiver := rfl
@[simp] theorem markTaken_link (s : State) (n : Nat) : (markTaken s n).link = s.link := rfl
@[simp] theorem markTaken_quiet (s : State) (n : Nat) : (markTaken s n).quiet = s.quiet := rfl
@[simp] theorem markTaken_cadence (s : State) (n : Nat) : (markTaken s n).cadence = s.cadence := rfl
@[simp] theorem markTaken_table (s : State) (n : Nat) : (markTaken s n).table = s.table := rfl
@[simp] theorem markTaken_allotment (s : State) (n : Nat) : (markTaken s n).allotment = s.allotment := rfl
@[simp] theorem markTaken_thread (s : State) (n : Nat) : (markTaken s n).thread = s.thread := rfl
@[simp] theorem markTaken_cooling (s : State) (n : Nat) : (markTaken s n).cooling = s.cooling := rfl
@[simp] theorem markTaken_wind (s : State) (n : Nat) : (markTaken s n).wind = s.wind := rfl
@[simp] theorem markTaken_yaw (s : State) (n : Nat) : (markTaken s n).yaw = s.yaw := rfl
@[simp] theorem markTaken_log (s : State) (n : Nat) : (markTaken s n).log = s.log := rfl

@[simp] theorem setCapability_pending (s : State) : (setCapability s).pending = s.pending := rfl
@[simp] theorem setCapability_now (s : State) : (setCapability s).now = s.now := rfl
@[simp] theorem setCapability_resets (s : State) : (setCapability s).resets = s.resets := rfl
@[simp] theorem setCapability_pins (s : State) : (setCapability s).pins = s.pins := rfl
@[simp] theorem setCapability_config (s : State) : (setCapability s).config = s.config := rfl
@[simp] theorem setCapability_receiver (s : State) : (setCapability s).receiver = s.receiver := rfl
@[simp] theorem setCapability_link (s : State) : (setCapability s).link = s.link := rfl
@[simp] theorem setCapability_quiet (s : State) : (setCapability s).quiet = s.quiet := rfl
@[simp] theorem setCapability_cadence (s : State) : (setCapability s).cadence = s.cadence := rfl
@[simp] theorem setCapability_table (s : State) : (setCapability s).table = s.table := rfl
@[simp] theorem setCapability_thread (s : State) : (setCapability s).thread = s.thread := rfl
@[simp] theorem setCapability_cooling (s : State) : (setCapability s).cooling = s.cooling := rfl
@[simp] theorem setCapability_wind (s : State) : (setCapability s).wind = s.wind := rfl
@[simp] theorem setCapability_yaw (s : State) : (setCapability s).yaw = s.yaw := rfl
@[simp] theorem setCapability_fault (s : State) : (setCapability s).fault = s.fault := rfl
@[simp] theorem setCapability_log (s : State) : (setCapability s).log = s.log := rfl

@[simp] theorem allot_pending (s : State) : (allot s).pending = s.pending := rfl
@[simp] theorem allot_now (s : State) : (allot s).now = s.now := rfl
@[simp] theorem allot_resets (s : State) : (allot s).resets = s.resets := rfl
@[simp] theorem allot_pins (s : State) : (allot s).pins = s.pins := rfl
@[simp] theorem allot_config (s : State) : (allot s).config = s.config := rfl
@[simp] theorem allot_receiver (s : State) : (allot s).receiver = s.receiver := rfl
@[simp] theorem allot_link (s : State) : (allot s).link = s.link := rfl
@[simp] theorem allot_quiet (s : State) : (allot s).quiet = s.quiet := rfl
@[simp] theorem allot_cadence (s : State) : (allot s).cadence = s.cadence := rfl
@[simp] theorem allot_table (s : State) : (allot s).table = s.table := rfl
@[simp] theorem allot_thread (s : State) : (allot s).thread = s.thread := rfl
@[simp] theorem allot_cooling (s : State) : (allot s).cooling = s.cooling := rfl
@[simp] theorem allot_wind (s : State) : (allot s).wind = s.wind := rfl
@[simp] theorem allot_yaw (s : State) : (allot s).yaw = s.yaw := rfl
@[simp] theorem allot_fault (s : State) : (allot s).fault = s.fault := rfl
@[simp] theorem allot_log (s : State) : (allot s).log = s.log := rfl

@[simp] theorem sendCommand_pending (s : State) (offset : Nat) : (sendCommand s offset).pending = s.pending := rfl
@[simp] theorem sendCommand_now (s : State) (offset : Nat) : (sendCommand s offset).now = s.now := rfl
@[simp] theorem sendCommand_resets (s : State) (offset : Nat) : (sendCommand s offset).resets = s.resets := rfl
@[simp] theorem sendCommand_pins (s : State) (offset : Nat) : (sendCommand s offset).pins = s.pins := rfl
@[simp] theorem sendCommand_config (s : State) (offset : Nat) : (sendCommand s offset).config = s.config := rfl
@[simp] theorem sendCommand_receiver (s : State) (offset : Nat) : (sendCommand s offset).receiver = s.receiver := rfl
@[simp] theorem sendCommand_link (s : State) (offset : Nat) : (sendCommand s offset).link = s.link := rfl
@[simp] theorem sendCommand_quiet (s : State) (offset : Nat) : (sendCommand s offset).quiet = s.quiet := rfl
@[simp] theorem sendCommand_cadence (s : State) (offset : Nat) : (sendCommand s offset).cadence = s.cadence := rfl
@[simp] theorem sendCommand_table (s : State) (offset : Nat) : (sendCommand s offset).table = s.table := rfl
@[simp] theorem sendCommand_allotment (s : State) (offset : Nat) :
    (sendCommand s offset).allotment = s.allotment := rfl
@[simp] theorem sendCommand_cooling (s : State) (offset : Nat) : (sendCommand s offset).cooling = s.cooling := rfl
@[simp] theorem sendCommand_wind (s : State) (offset : Nat) : (sendCommand s offset).wind = s.wind := rfl
@[simp] theorem sendCommand_yaw (s : State) (offset : Nat) : (sendCommand s offset).yaw = s.yaw := rfl
@[simp] theorem sendCommand_fault (s : State) (offset : Nat) : (sendCommand s offset).fault = s.fault := rfl
@[simp] theorem sendCommand_log (s : State) (offset : Nat) : (sendCommand s offset).log = s.log := rfl

@[simp] theorem latchOffset_pending (s : State) : (latchOffset s).pending = s.pending := rfl
@[simp] theorem latchOffset_now (s : State) : (latchOffset s).now = s.now := rfl
@[simp] theorem latchOffset_resets (s : State) : (latchOffset s).resets = s.resets := rfl
@[simp] theorem latchOffset_pins (s : State) : (latchOffset s).pins = s.pins := rfl
@[simp] theorem latchOffset_config (s : State) : (latchOffset s).config = s.config := rfl
@[simp] theorem latchOffset_receiver (s : State) : (latchOffset s).receiver = s.receiver := rfl
@[simp] theorem latchOffset_link (s : State) : (latchOffset s).link = s.link := rfl
@[simp] theorem latchOffset_quiet (s : State) : (latchOffset s).quiet = s.quiet := rfl
@[simp] theorem latchOffset_table (s : State) : (latchOffset s).table = s.table := rfl
@[simp] theorem latchOffset_allotment (s : State) : (latchOffset s).allotment = s.allotment := rfl
@[simp] theorem latchOffset_thread (s : State) : (latchOffset s).thread = s.thread := rfl
@[simp] theorem latchOffset_cooling (s : State) : (latchOffset s).cooling = s.cooling := rfl
@[simp] theorem latchOffset_wind (s : State) : (latchOffset s).wind = s.wind := rfl
@[simp] theorem latchOffset_yaw (s : State) : (latchOffset s).yaw = s.yaw := rfl
@[simp] theorem latchOffset_fault (s : State) : (latchOffset s).fault = s.fault := rfl
@[simp] theorem latchOffset_log (s : State) : (latchOffset s).log = s.log := rfl

@[simp] theorem formFactor_pending (s : State) : (formFactor s).pending = s.pending := rfl
@[simp] theorem formFactor_now (s : State) : (formFactor s).now = s.now := rfl
@[simp] theorem formFactor_resets (s : State) : (formFactor s).resets = s.resets := rfl
@[simp] theorem formFactor_pins (s : State) : (formFactor s).pins = s.pins := rfl
@[simp] theorem formFactor_config (s : State) : (formFactor s).config = s.config := rfl
@[simp] theorem formFactor_receiver (s : State) : (formFactor s).receiver = s.receiver := rfl
@[simp] theorem formFactor_link (s : State) : (formFactor s).link = s.link := rfl
@[simp] theorem formFactor_quiet (s : State) : (formFactor s).quiet = s.quiet := rfl
@[simp] theorem formFactor_cadence (s : State) : (formFactor s).cadence = s.cadence := rfl
@[simp] theorem formFactor_table (s : State) : (formFactor s).table = s.table := rfl
@[simp] theorem formFactor_allotment (s : State) : (formFactor s).allotment = s.allotment := rfl
@[simp] theorem formFactor_thread (s : State) : (formFactor s).thread = s.thread := rfl
@[simp] theorem formFactor_wind (s : State) : (formFactor s).wind = s.wind := rfl
@[simp] theorem formFactor_yaw (s : State) : (formFactor s).yaw = s.yaw := rfl
@[simp] theorem formFactor_fault (s : State) : (formFactor s).fault = s.fault := rfl
@[simp] theorem formFactor_log (s : State) : (formFactor s).log = s.log := rfl

@[simp] theorem formDemands_pending (s : State) : (formDemands s).pending = s.pending := rfl
@[simp] theorem formDemands_now (s : State) : (formDemands s).now = s.now := rfl
@[simp] theorem formDemands_resets (s : State) : (formDemands s).resets = s.resets := rfl
@[simp] theorem formDemands_pins (s : State) : (formDemands s).pins = s.pins := rfl
@[simp] theorem formDemands_config (s : State) : (formDemands s).config = s.config := rfl
@[simp] theorem formDemands_receiver (s : State) : (formDemands s).receiver = s.receiver := rfl
@[simp] theorem formDemands_link (s : State) : (formDemands s).link = s.link := rfl
@[simp] theorem formDemands_quiet (s : State) : (formDemands s).quiet = s.quiet := rfl
@[simp] theorem formDemands_cadence (s : State) : (formDemands s).cadence = s.cadence := rfl
@[simp] theorem formDemands_table (s : State) : (formDemands s).table = s.table := rfl
@[simp] theorem formDemands_allotment (s : State) : (formDemands s).allotment = s.allotment := rfl
@[simp] theorem formDemands_thread (s : State) : (formDemands s).thread = s.thread := rfl
@[simp] theorem formDemands_wind (s : State) : (formDemands s).wind = s.wind := rfl
@[simp] theorem formDemands_yaw (s : State) : (formDemands s).yaw = s.yaw := rfl
@[simp] theorem formDemands_fault (s : State) : (formDemands s).fault = s.fault := rfl
@[simp] theorem formDemands_log (s : State) : (formDemands s).log = s.log := rfl

@[simp] theorem updateStorm_pending (s : State) : (updateStorm s).pending = s.pending := rfl
@[simp] theorem updateStorm_now (s : State) : (updateStorm s).now = s.now := rfl
@[simp] theorem updateStorm_resets (s : State) : (updateStorm s).resets = s.resets := rfl
@[simp] theorem updateStorm_pins (s : State) : (updateStorm s).pins = s.pins := rfl
@[simp] theorem updateStorm_config (s : State) : (updateStorm s).config = s.config := rfl
@[simp] theorem updateStorm_receiver (s : State) : (updateStorm s).receiver = s.receiver := rfl
@[simp] theorem updateStorm_link (s : State) : (updateStorm s).link = s.link := rfl
@[simp] theorem updateStorm_quiet (s : State) : (updateStorm s).quiet = s.quiet := rfl
@[simp] theorem updateStorm_cadence (s : State) : (updateStorm s).cadence = s.cadence := rfl
@[simp] theorem updateStorm_table (s : State) : (updateStorm s).table = s.table := rfl
@[simp] theorem updateStorm_allotment (s : State) : (updateStorm s).allotment = s.allotment := rfl
@[simp] theorem updateStorm_thread (s : State) : (updateStorm s).thread = s.thread := rfl
@[simp] theorem updateStorm_cooling (s : State) : (updateStorm s).cooling = s.cooling := rfl
@[simp] theorem updateStorm_yaw (s : State) : (updateStorm s).yaw = s.yaw := rfl
@[simp] theorem updateStorm_fault (s : State) : (updateStorm s).fault = s.fault := rfl
@[simp] theorem updateStorm_log (s : State) : (updateStorm s).log = s.log := rfl

@[simp] theorem rearmNotes_pending (s : State) (t : Trigger) : (rearmNotes s t).pending = s.pending := rfl
@[simp] theorem rearmNotes_now (s : State) (t : Trigger) : (rearmNotes s t).now = s.now := rfl
@[simp] theorem rearmNotes_resets (s : State) (t : Trigger) : (rearmNotes s t).resets = s.resets := rfl
@[simp] theorem rearmNotes_pins (s : State) (t : Trigger) : (rearmNotes s t).pins = s.pins := rfl
@[simp] theorem rearmNotes_config (s : State) (t : Trigger) : (rearmNotes s t).config = s.config := rfl
@[simp] theorem rearmNotes_receiver (s : State) (t : Trigger) : (rearmNotes s t).receiver = s.receiver := rfl
@[simp] theorem rearmNotes_link (s : State) (t : Trigger) : (rearmNotes s t).link = s.link := rfl
@[simp] theorem rearmNotes_quiet (s : State) (t : Trigger) : (rearmNotes s t).quiet = s.quiet := rfl
@[simp] theorem rearmNotes_cadence (s : State) (t : Trigger) : (rearmNotes s t).cadence = s.cadence := rfl
@[simp] theorem rearmNotes_table (s : State) (t : Trigger) : (rearmNotes s t).table = s.table := rfl
@[simp] theorem rearmNotes_allotment (s : State) (t : Trigger) : (rearmNotes s t).allotment = s.allotment := rfl
@[simp] theorem rearmNotes_thread (s : State) (t : Trigger) : (rearmNotes s t).thread = s.thread := rfl
@[simp] theorem rearmNotes_cooling (s : State) (t : Trigger) : (rearmNotes s t).cooling = s.cooling := rfl
@[simp] theorem rearmNotes_wind (s : State) (t : Trigger) : (rearmNotes s t).wind = s.wind := rfl
@[simp] theorem rearmNotes_fault (s : State) (t : Trigger) : (rearmNotes s t).fault = s.fault := rfl
@[simp] theorem rearmNotes_log (s : State) (t : Trigger) : (rearmNotes s t).log = s.log := rfl

@[simp] theorem dropStagger_pending (s : State) : (dropStagger s).pending = s.pending := rfl
@[simp] theorem dropStagger_now (s : State) : (dropStagger s).now = s.now := rfl
@[simp] theorem dropStagger_resets (s : State) : (dropStagger s).resets = s.resets := rfl
@[simp] theorem dropStagger_pins (s : State) : (dropStagger s).pins = s.pins := rfl
@[simp] theorem dropStagger_config (s : State) : (dropStagger s).config = s.config := rfl
@[simp] theorem dropStagger_receiver (s : State) : (dropStagger s).receiver = s.receiver := rfl
@[simp] theorem dropStagger_link (s : State) : (dropStagger s).link = s.link := rfl
@[simp] theorem dropStagger_quiet (s : State) : (dropStagger s).quiet = s.quiet := rfl
@[simp] theorem dropStagger_cadence (s : State) : (dropStagger s).cadence = s.cadence := rfl
@[simp] theorem dropStagger_table (s : State) : (dropStagger s).table = s.table := rfl
@[simp] theorem dropStagger_allotment (s : State) : (dropStagger s).allotment = s.allotment := rfl
@[simp] theorem dropStagger_thread (s : State) : (dropStagger s).thread = s.thread := rfl
@[simp] theorem dropStagger_cooling (s : State) : (dropStagger s).cooling = s.cooling := rfl
@[simp] theorem dropStagger_wind (s : State) : (dropStagger s).wind = s.wind := rfl
@[simp] theorem dropStagger_fault (s : State) : (dropStagger s).fault = s.fault := rfl
@[simp] theorem dropStagger_log (s : State) : (dropStagger s).log = s.log := rfl

@[simp] theorem addAnswer_pending (s : State) (a : Answer) : (addAnswer s a).pending = s.pending := rfl
@[simp] theorem addAnswer_now (s : State) (a : Answer) : (addAnswer s a).now = s.now := rfl
@[simp] theorem addAnswer_resets (s : State) (a : Answer) : (addAnswer s a).resets = s.resets := rfl
@[simp] theorem addAnswer_pins (s : State) (a : Answer) : (addAnswer s a).pins = s.pins := rfl
@[simp] theorem addAnswer_config (s : State) (a : Answer) : (addAnswer s a).config = s.config := rfl
@[simp] theorem addAnswer_receiver (s : State) (a : Answer) : (addAnswer s a).receiver = s.receiver := rfl
@[simp] theorem addAnswer_link (s : State) (a : Answer) : (addAnswer s a).link = s.link := rfl
@[simp] theorem addAnswer_quiet (s : State) (a : Answer) : (addAnswer s a).quiet = s.quiet := rfl
@[simp] theorem addAnswer_cadence (s : State) (a : Answer) : (addAnswer s a).cadence = s.cadence := rfl
@[simp] theorem addAnswer_table (s : State) (a : Answer) : (addAnswer s a).table = s.table := rfl
@[simp] theorem addAnswer_allotment (s : State) (a : Answer) : (addAnswer s a).allotment = s.allotment := rfl
@[simp] theorem addAnswer_thread (s : State) (a : Answer) : (addAnswer s a).thread = s.thread := rfl
@[simp] theorem addAnswer_cooling (s : State) (a : Answer) : (addAnswer s a).cooling = s.cooling := rfl
@[simp] theorem addAnswer_wind (s : State) (a : Answer) : (addAnswer s a).wind = s.wind := rfl
@[simp] theorem addAnswer_fault (s : State) (a : Answer) : (addAnswer s a).fault = s.fault := rfl
@[simp] theorem addAnswer_log (s : State) (a : Answer) : (addAnswer s a).log = s.log := rfl

@[simp] theorem driveCallMark_pending (s : State) (c : WakeCall) : (driveCallMark s c).pending = s.pending := rfl
@[simp] theorem driveCallMark_now (s : State) (c : WakeCall) : (driveCallMark s c).now = s.now := rfl
@[simp] theorem driveCallMark_resets (s : State) (c : WakeCall) : (driveCallMark s c).resets = s.resets := rfl
@[simp] theorem driveCallMark_pins (s : State) (c : WakeCall) : (driveCallMark s c).pins = s.pins := rfl
@[simp] theorem driveCallMark_config (s : State) (c : WakeCall) : (driveCallMark s c).config = s.config := rfl
@[simp] theorem driveCallMark_receiver (s : State) (c : WakeCall) : (driveCallMark s c).receiver = s.receiver := rfl
@[simp] theorem driveCallMark_cadence (s : State) (c : WakeCall) : (driveCallMark s c).cadence = s.cadence := rfl
@[simp] theorem driveCallMark_table (s : State) (c : WakeCall) : (driveCallMark s c).table = s.table := rfl
@[simp] theorem driveCallMark_allotment (s : State) (c : WakeCall) :
    (driveCallMark s c).allotment = s.allotment := rfl
@[simp] theorem driveCallMark_thread (s : State) (c : WakeCall) : (driveCallMark s c).thread = s.thread := rfl
@[simp] theorem driveCallMark_cooling (s : State) (c : WakeCall) : (driveCallMark s c).cooling = s.cooling := rfl
@[simp] theorem driveCallMark_wind (s : State) (c : WakeCall) : (driveCallMark s c).wind = s.wind := rfl
@[simp] theorem driveCallMark_yaw (s : State) (c : WakeCall) : (driveCallMark s c).yaw = s.yaw := rfl
@[simp] theorem driveCallMark_fault (s : State) (c : WakeCall) : (driveCallMark s c).fault = s.fault := rfl
@[simp] theorem driveCallMark_log (s : State) (c : WakeCall) : (driveCallMark s c).log = s.log := rfl

@[simp] theorem endRun_receiver (s : State) :
    (endRun s).receiver = { s.receiver with recessiveSince := some s.now } := rfl
@[simp] theorem holdRun_receiver (s : State) :
    (holdRun s).receiver = { s.receiver with recessiveSince := none } := rfl
@[simp] theorem leaveReception_receiver (r : Reception) (s : State) :
    (leaveReception r s).receiver = { s.receiver with phase := r.phase s.now } := rfl

@[simp] theorem endRun_pending (s : State) : (endRun s).pending = s.pending := rfl
@[simp] theorem endRun_now (s : State) : (endRun s).now = s.now := rfl
@[simp] theorem endRun_resets (s : State) : (endRun s).resets = s.resets := rfl
@[simp] theorem endRun_pins (s : State) : (endRun s).pins = s.pins := rfl
@[simp] theorem endRun_config (s : State) : (endRun s).config = s.config := rfl
@[simp] theorem endRun_link (s : State) : (endRun s).link = s.link := rfl
@[simp] theorem endRun_quiet (s : State) : (endRun s).quiet = s.quiet := rfl
@[simp] theorem endRun_cadence (s : State) : (endRun s).cadence = s.cadence := rfl
@[simp] theorem endRun_table (s : State) : (endRun s).table = s.table := rfl
@[simp] theorem endRun_allotment (s : State) : (endRun s).allotment = s.allotment := rfl
@[simp] theorem endRun_thread (s : State) : (endRun s).thread = s.thread := rfl
@[simp] theorem endRun_cooling (s : State) : (endRun s).cooling = s.cooling := rfl
@[simp] theorem endRun_wind (s : State) : (endRun s).wind = s.wind := rfl
@[simp] theorem endRun_yaw (s : State) : (endRun s).yaw = s.yaw := rfl
@[simp] theorem endRun_fault (s : State) : (endRun s).fault = s.fault := rfl
@[simp] theorem endRun_log (s : State) : (endRun s).log = s.log := rfl

@[simp] theorem holdRun_pending (s : State) : (holdRun s).pending = s.pending := rfl
@[simp] theorem holdRun_now (s : State) : (holdRun s).now = s.now := rfl
@[simp] theorem holdRun_resets (s : State) : (holdRun s).resets = s.resets := rfl
@[simp] theorem holdRun_pins (s : State) : (holdRun s).pins = s.pins := rfl
@[simp] theorem holdRun_config (s : State) : (holdRun s).config = s.config := rfl
@[simp] theorem holdRun_link (s : State) : (holdRun s).link = s.link := rfl
@[simp] theorem holdRun_quiet (s : State) : (holdRun s).quiet = s.quiet := rfl
@[simp] theorem holdRun_cadence (s : State) : (holdRun s).cadence = s.cadence := rfl
@[simp] theorem holdRun_table (s : State) : (holdRun s).table = s.table := rfl
@[simp] theorem holdRun_allotment (s : State) : (holdRun s).allotment = s.allotment := rfl
@[simp] theorem holdRun_thread (s : State) : (holdRun s).thread = s.thread := rfl
@[simp] theorem holdRun_cooling (s : State) : (holdRun s).cooling = s.cooling := rfl
@[simp] theorem holdRun_wind (s : State) : (holdRun s).wind = s.wind := rfl
@[simp] theorem holdRun_yaw (s : State) : (holdRun s).yaw = s.yaw := rfl
@[simp] theorem holdRun_fault (s : State) : (holdRun s).fault = s.fault := rfl
@[simp] theorem holdRun_log (s : State) : (holdRun s).log = s.log := rfl

@[simp] theorem leaveReception_pending (r : Reception) (s : State) : (leaveReception r s).pending = s.pending := rfl
@[simp] theorem leaveReception_now (r : Reception) (s : State) : (leaveReception r s).now = s.now := rfl
@[simp] theorem leaveReception_resets (r : Reception) (s : State) : (leaveReception r s).resets = s.resets := rfl
@[simp] theorem leaveReception_pins (r : Reception) (s : State) : (leaveReception r s).pins = s.pins := rfl
@[simp] theorem leaveReception_config (r : Reception) (s : State) : (leaveReception r s).config = s.config := rfl
@[simp] theorem leaveReception_link (r : Reception) (s : State) : (leaveReception r s).link = s.link := rfl
@[simp] theorem leaveReception_quiet (r : Reception) (s : State) : (leaveReception r s).quiet = s.quiet := rfl
@[simp] theorem leaveReception_cadence (r : Reception) (s : State) : (leaveReception r s).cadence = s.cadence := rfl
@[simp] theorem leaveReception_table (r : Reception) (s : State) : (leaveReception r s).table = s.table := rfl
@[simp] theorem leaveReception_allotment (r : Reception) (s : State) :
    (leaveReception r s).allotment = s.allotment := rfl
@[simp] theorem leaveReception_thread (r : Reception) (s : State) : (leaveReception r s).thread = s.thread := rfl
@[simp] theorem leaveReception_cooling (r : Reception) (s : State) : (leaveReception r s).cooling = s.cooling := rfl
@[simp] theorem leaveReception_wind (r : Reception) (s : State) : (leaveReception r s).wind = s.wind := rfl
@[simp] theorem leaveReception_yaw (r : Reception) (s : State) : (leaveReception r s).yaw = s.yaw := rfl
@[simp] theorem leaveReception_fault (r : Reception) (s : State) : (leaveReception r s).fault = s.fault := rfl
@[simp] theorem leaveReception_log (r : Reception) (s : State) : (leaveReception r s).log = s.log := rfl

@[simp] theorem leaveSending_pending (f : Frame) (heard : List Level) (o : Sending) (s : State) :
    (leaveSending f heard o s).pending = s.pending := rfl
@[simp] theorem leaveSending_now (f : Frame) (heard : List Level) (o : Sending) (s : State) :
    (leaveSending f heard o s).now = s.now := rfl
@[simp] theorem leaveSending_resets (f : Frame) (heard : List Level) (o : Sending) (s : State) :
    (leaveSending f heard o s).resets = s.resets := rfl
@[simp] theorem leaveSending_pins (f : Frame) (heard : List Level) (o : Sending) (s : State) :
    (leaveSending f heard o s).pins = s.pins := rfl
@[simp] theorem leaveSending_config (f : Frame) (heard : List Level) (o : Sending) (s : State) :
    (leaveSending f heard o s).config = s.config := rfl
@[simp] theorem leaveSending_link (f : Frame) (heard : List Level) (o : Sending) (s : State) :
    (leaveSending f heard o s).link = s.link := rfl
@[simp] theorem leaveSending_quiet (f : Frame) (heard : List Level) (o : Sending) (s : State) :
    (leaveSending f heard o s).quiet = s.quiet := rfl
@[simp] theorem leaveSending_cadence (f : Frame) (heard : List Level) (o : Sending) (s : State) :
    (leaveSending f heard o s).cadence = s.cadence := rfl
@[simp] theorem leaveSending_table (f : Frame) (heard : List Level) (o : Sending) (s : State) :
    (leaveSending f heard o s).table = s.table := rfl
@[simp] theorem leaveSending_allotment (f : Frame) (heard : List Level) (o : Sending) (s : State) :
    (leaveSending f heard o s).allotment = s.allotment := rfl
@[simp] theorem leaveSending_thread (f : Frame) (heard : List Level) (o : Sending) (s : State) :
    (leaveSending f heard o s).thread = s.thread := rfl
@[simp] theorem leaveSending_cooling (f : Frame) (heard : List Level) (o : Sending) (s : State) :
    (leaveSending f heard o s).cooling = s.cooling := rfl
@[simp] theorem leaveSending_wind (f : Frame) (heard : List Level) (o : Sending) (s : State) :
    (leaveSending f heard o s).wind = s.wind := rfl
@[simp] theorem leaveSending_yaw (f : Frame) (heard : List Level) (o : Sending) (s : State) :
    (leaveSending f heard o s).yaw = s.yaw := rfl
@[simp] theorem leaveSending_fault (f : Frame) (heard : List Level) (o : Sending) (s : State) :
    (leaveSending f heard o s).fault = s.fault := rfl
@[simp] theorem leaveSending_log (f : Frame) (heard : List Level) (o : Sending) (s : State) :
    (leaveSending f heard o s).log = s.log := rfl

@[simp] theorem resetBlocks_pending (s : State) : (resetBlocks s).pending = s.pending := rfl
@[simp] theorem resetBlocks_resets (s : State) : (resetBlocks s).resets = s.resets := rfl
@[simp] theorem resetBlocks_pins (s : State) : (resetBlocks s).pins = s.pins := rfl

@[simp] theorem powerOnReset_pending (s : State) : (powerOnReset s).pending = s.pending := rfl
@[simp] theorem powerOnReset_pins (s : State) : (powerOnReset s).pins = s.pins := rfl

@[simp] theorem resetInput_pending (s : State) : (resetInput s).pending = s.pending := rfl
@[simp] theorem resetInput_pins (s : State) : (resetInput s).pins = s.pins := rfl

@[simp] theorem rejectImage_pending (s : State) (image : List Byte) : (rejectImage s image).pending = s.pending := rfl
@[simp] theorem rejectImage_now (s : State) (image : List Byte) : (rejectImage s image).now = s.now := rfl
@[simp] theorem rejectImage_resets (s : State) (image : List Byte) : (rejectImage s image).resets = s.resets := rfl
@[simp] theorem rejectImage_pins (s : State) (image : List Byte) : (rejectImage s image).pins = s.pins := rfl
@[simp] theorem rejectImage_receiver (s : State) (image : List Byte) : (rejectImage s image).receiver = s.receiver := rfl
@[simp] theorem rejectImage_quiet (s : State) (image : List Byte) : (rejectImage s image).quiet = s.quiet := rfl
@[simp] theorem rejectImage_cadence (s : State) (image : List Byte) : (rejectImage s image).cadence = s.cadence := rfl
@[simp] theorem rejectImage_table (s : State) (image : List Byte) : (rejectImage s image).table = s.table := rfl
@[simp] theorem rejectImage_allotment (s : State) (image : List Byte) :
    (rejectImage s image).allotment = s.allotment := rfl
@[simp] theorem rejectImage_thread (s : State) (image : List Byte) : (rejectImage s image).thread = s.thread := rfl
@[simp] theorem rejectImage_cooling (s : State) (image : List Byte) : (rejectImage s image).cooling = s.cooling := rfl
@[simp] theorem rejectImage_wind (s : State) (image : List Byte) : (rejectImage s image).wind = s.wind := rfl
@[simp] theorem rejectImage_yaw (s : State) (image : List Byte) : (rejectImage s image).yaw = s.yaw := rfl
@[simp] theorem rejectImage_fault (s : State) (image : List Byte) : (rejectImage s image).fault = s.fault := rfl
@[simp] theorem rejectImage_log (s : State) (image : List Byte) : (rejectImage s image).log = s.log := rfl

@[simp] theorem enterListen_pending (s : State) : (enterListen s).pending = s.pending := rfl
@[simp] theorem enterListen_now (s : State) : (enterListen s).now = s.now := rfl
@[simp] theorem enterListen_resets (s : State) : (enterListen s).resets = s.resets := rfl
@[simp] theorem enterListen_pins (s : State) : (enterListen s).pins = s.pins := rfl
@[simp] theorem enterListen_config (s : State) : (enterListen s).config = s.config := rfl
@[simp] theorem enterListen_quiet (s : State) : (enterListen s).quiet = s.quiet := rfl
@[simp] theorem enterListen_thread (s : State) : (enterListen s).thread = s.thread := rfl
@[simp] theorem enterListen_yaw (s : State) : (enterListen s).yaw = s.yaw := rfl
@[simp] theorem enterListen_log (s : State) : (enterListen s).log = s.log := rfl

@[simp] theorem startRecord_pending (s : State) : (startRecord s).pending = s.pending := rfl
@[simp] theorem startRecord_now (s : State) : (startRecord s).now = s.now := rfl
@[simp] theorem startRecord_resets (s : State) : (startRecord s).resets = s.resets := rfl
@[simp] theorem startRecord_pins (s : State) : (startRecord s).pins = s.pins := rfl
@[simp] theorem startRecord_config (s : State) : (startRecord s).config = s.config := rfl
@[simp] theorem startRecord_receiver (s : State) : (startRecord s).receiver = s.receiver := rfl
@[simp] theorem startRecord_link (s : State) : (startRecord s).link = s.link := rfl
@[simp] theorem startRecord_quiet (s : State) : (startRecord s).quiet = s.quiet := rfl
@[simp] theorem startRecord_cadence (s : State) : (startRecord s).cadence = s.cadence := rfl
@[simp] theorem startRecord_table (s : State) : (startRecord s).table = s.table := rfl
@[simp] theorem startRecord_allotment (s : State) : (startRecord s).allotment = s.allotment := rfl
@[simp] theorem startRecord_thread (s : State) : (startRecord s).thread = s.thread := rfl
@[simp] theorem startRecord_cooling (s : State) : (startRecord s).cooling = s.cooling := rfl
@[simp] theorem startRecord_wind (s : State) : (startRecord s).wind = s.wind := rfl
@[simp] theorem startRecord_yaw (s : State) : (startRecord s).yaw = s.yaw := rfl
@[simp] theorem startRecord_fault (s : State) : (startRecord s).fault = s.fault := rfl

@[simp] theorem enterJoined_pending (s : State) : (enterJoined s).pending = s.pending := rfl
@[simp] theorem enterJoined_now (s : State) : (enterJoined s).now = s.now := rfl
@[simp] theorem enterJoined_resets (s : State) : (enterJoined s).resets = s.resets := rfl
@[simp] theorem enterJoined_pins (s : State) : (enterJoined s).pins = s.pins := rfl
@[simp] theorem enterJoined_config (s : State) : (enterJoined s).config = s.config := rfl
@[simp] theorem enterJoined_receiver (s : State) : (enterJoined s).receiver = s.receiver := rfl
@[simp] theorem enterJoined_quiet (s : State) : (enterJoined s).quiet = s.quiet := rfl
@[simp] theorem enterJoined_cadence (s : State) : (enterJoined s).cadence = s.cadence := rfl
@[simp] theorem enterJoined_allotment (s : State) : (enterJoined s).allotment = s.allotment := rfl
@[simp] theorem enterJoined_wind (s : State) : (enterJoined s).wind = s.wind := rfl
@[simp] theorem enterJoined_fault (s : State) : (enterJoined s).fault = s.fault := rfl
@[simp] theorem enterJoined_log (s : State) : (enterJoined s).log = s.log := rfl

end Sys2Proof.Machine
end

