-- ==== Sys2Proof/Laws/Frame.lean ====
section
/-!
SUPPORT. What each conditional operation leaves as it is, in the order of the operations: one lemma an operation, which simp
reads field by field.  A field that a lemma does not name is one the operation may write.
-/
namespace Sys2Proof.Machine

@[simp] theorem offerStatus_frame (s : State) (r : StatusRecord) :
    (offerStatus s r).pending = s.pending ∧ (offerStatus s r).now = s.now ∧ (offerStatus s r).resets = s.resets ∧
    (offerStatus s r).pins = s.pins ∧ (offerStatus s r).config = s.config ∧ (offerStatus s r).receiver = s.receiver ∧
    (offerStatus s r).quiet = s.quiet ∧ (offerStatus s r).cadence = s.cadence ∧ (offerStatus s r).table = s.table ∧
    (offerStatus s r).allotment = s.allotment ∧ (offerStatus s r).thread = s.thread ∧
    (offerStatus s r).cooling = s.cooling ∧ (offerStatus s r).wind = s.wind ∧ (offerStatus s r).yaw = s.yaw ∧
    (offerStatus s r).fault = s.fault ∧ (offerStatus s r).log = s.log := by
  unfold offerStatus; (repeat' split) <;> simp

@[simp] theorem offerYaw_frame (s : State) (f : Frame) :
    (offerYaw s f).pending = s.pending ∧ (offerYaw s f).now = s.now ∧ (offerYaw s f).resets = s.resets ∧
    (offerYaw s f).pins = s.pins ∧ (offerYaw s f).config = s.config ∧ (offerYaw s f).receiver = s.receiver ∧
    (offerYaw s f).quiet = s.quiet ∧ (offerYaw s f).cadence = s.cadence ∧ (offerYaw s f).table = s.table ∧
    (offerYaw s f).allotment = s.allotment ∧ (offerYaw s f).thread = s.thread ∧ (offerYaw s f).cooling = s.cooling ∧
    (offerYaw s f).wind = s.wind ∧ (offerYaw s f).yaw = s.yaw ∧ (offerYaw s f).fault = s.fault ∧
    (offerYaw s f).log = s.log := by
  unfold offerYaw; (repeat' split) <;> simp

@[simp] theorem offerNotice_frame (s : State) (cls code severity action : Nat) (detail : Int) :
    (offerNotice s cls code severity action detail).pending = s.pending ∧
    (offerNotice s cls code severity action detail).now = s.now ∧
    (offerNotice s cls code severity action detail).resets = s.resets ∧
    (offerNotice s cls code severity action detail).pins = s.pins ∧
    (offerNotice s cls code severity action detail).config = s.config ∧
    (offerNotice s cls code severity action detail).receiver = s.receiver ∧
    (offerNotice s cls code severity action detail).quiet = s.quiet ∧
    (offerNotice s cls code severity action detail).cadence = s.cadence ∧
    (offerNotice s cls code severity action detail).table = s.table ∧
    (offerNotice s cls code severity action detail).allotment = s.allotment ∧
    (offerNotice s cls code severity action detail).thread = s.thread ∧
    (offerNotice s cls code severity action detail).cooling = s.cooling ∧
    (offerNotice s cls code severity action detail).wind = s.wind ∧
    (offerNotice s cls code severity action detail).yaw = s.yaw ∧
    (offerNotice s cls code severity action detail).fault = s.fault := by
  unfold offerNotice; (repeat' split) <;> simp

@[simp] theorem setThread_frame (s : State) (t : ThreadState) :
    (setThread s t).pending = s.pending ∧ (setThread s t).now = s.now ∧ (setThread s t).resets = s.resets ∧
    (setThread s t).pins = s.pins ∧ (setThread s t).config = s.config ∧ (setThread s t).receiver = s.receiver ∧
    (setThread s t).link = s.link ∧ (setThread s t).quiet = s.quiet ∧ (setThread s t).cadence = s.cadence ∧
    (setThread s t).allotment = s.allotment ∧ (setThread s t).cooling = s.cooling ∧ (setThread s t).wind = s.wind ∧
    (setThread s t).yaw = s.yaw ∧ (setThread s t).fault = s.fault ∧ (setThread s t).log = s.log := by
  unfold setThread; (repeat' split) <;> simp

@[simp] theorem tripThread_frame (s : State) :
    (tripThread s).pending = s.pending ∧ (tripThread s).now = s.now ∧ (tripThread s).resets = s.resets ∧
    (tripThread s).pins = s.pins ∧ (tripThread s).config = s.config ∧ (tripThread s).receiver = s.receiver ∧
    (tripThread s).link = s.link ∧ (tripThread s).quiet = s.quiet ∧ (tripThread s).cadence = s.cadence ∧
    (tripThread s).cooling = s.cooling ∧ (tripThread s).wind = s.wind ∧ (tripThread s).yaw = s.yaw ∧
    (tripThread s).fault = s.fault ∧ (tripThread s).log = s.log := by
  unfold tripThread; (repeat' split) <;> simp

@[simp] theorem enterOff_frame (s : State) :
    (enterOff s).pending = s.pending ∧ (enterOff s).now = s.now ∧ (enterOff s).resets = s.resets ∧
    (enterOff s).pins = s.pins ∧ (enterOff s).config = s.config ∧ (enterOff s).receiver = s.receiver ∧
    (enterOff s).link = s.link ∧ (enterOff s).quiet = s.quiet ∧ (enterOff s).cadence = s.cadence ∧
    (enterOff s).allotment = s.allotment ∧ (enterOff s).cooling = s.cooling ∧ (enterOff s).wind = s.wind ∧
    (enterOff s).yaw = s.yaw ∧ (enterOff s).fault = s.fault ∧ (enterOff s).log = s.log := by
  simp [enterOff]

@[simp] theorem wakeCause_frame (s : State) :
    (wakeCause s).pending = s.pending ∧ (wakeCause s).now = s.now ∧ (wakeCause s).resets = s.resets ∧
    (wakeCause s).pins = s.pins ∧ (wakeCause s).config = s.config ∧ (wakeCause s).receiver = s.receiver ∧
    (wakeCause s).link = s.link ∧ (wakeCause s).allotment = s.allotment ∧ (wakeCause s).cooling = s.cooling ∧
    (wakeCause s).wind = s.wind ∧ (wakeCause s).yaw = s.yaw ∧ (wakeCause s).fault = s.fault ∧
    (wakeCause s).log = s.log := by
  unfold wakeCause; (repeat' split) <;> simp

@[simp] theorem quietTest_frame (s : State) :
    (quietTest s).pending = s.pending ∧ (quietTest s).now = s.now ∧ (quietTest s).resets = s.resets ∧
    (quietTest s).pins = s.pins ∧ (quietTest s).config = s.config ∧ (quietTest s).receiver = s.receiver ∧
    (quietTest s).link = s.link ∧ (quietTest s).table = s.table ∧ (quietTest s).allotment = s.allotment ∧
    (quietTest s).cooling = s.cooling ∧ (quietTest s).wind = s.wind ∧ (quietTest s).yaw = s.yaw ∧
    (quietTest s).fault = s.fault ∧ (quietTest s).log = s.log := by
  unfold quietTest; (repeat' split) <;> simp

@[simp] theorem setYaw_frame (s : State) (y : YawState) :
    (setYaw s y).pending = s.pending ∧ (setYaw s y).now = s.now ∧ (setYaw s y).resets = s.resets ∧
    (setYaw s y).pins = s.pins ∧ (setYaw s y).config = s.config ∧ (setYaw s y).receiver = s.receiver ∧
    (setYaw s y).link = s.link ∧ (setYaw s y).quiet = s.quiet ∧ (setYaw s y).cadence = s.cadence ∧
    (setYaw s y).allotment = s.allotment ∧ (setYaw s y).thread = s.thread ∧ (setYaw s y).cooling = s.cooling ∧
    (setYaw s y).wind = s.wind ∧ (setYaw s y).fault = s.fault ∧ (setYaw s y).log = s.log := by
  unfold setYaw; (repeat' split) <;> simp

@[simp] theorem enterIdle_frame (s : State) :
    (enterIdle s).pending = s.pending ∧ (enterIdle s).now = s.now ∧ (enterIdle s).resets = s.resets ∧
    (enterIdle s).pins = s.pins ∧ (enterIdle s).config = s.config ∧ (enterIdle s).receiver = s.receiver ∧
    (enterIdle s).link = s.link ∧ (enterIdle s).allotment = s.allotment ∧ (enterIdle s).cooling = s.cooling ∧
    (enterIdle s).wind = s.wind ∧ (enterIdle s).fault = s.fault ∧ (enterIdle s).log = s.log := by
  simp [enterIdle]

@[simp] theorem offerStop_frame (s : State) :
    (offerStop s).pending = s.pending ∧ (offerStop s).now = s.now ∧ (offerStop s).resets = s.resets ∧
    (offerStop s).pins = s.pins ∧ (offerStop s).config = s.config ∧ (offerStop s).receiver = s.receiver ∧
    (offerStop s).quiet = s.quiet ∧ (offerStop s).cadence = s.cadence ∧ (offerStop s).table = s.table ∧
    (offerStop s).allotment = s.allotment ∧ (offerStop s).thread = s.thread ∧ (offerStop s).cooling = s.cooling ∧
    (offerStop s).wind = s.wind ∧ (offerStop s).yaw = s.yaw ∧ (offerStop s).fault = s.fault ∧
    (offerStop s).log = s.log := by
  simp [offerStop]

@[simp] theorem enterStopping_frame (s : State) :
    (enterStopping s).pending = s.pending ∧ (enterStopping s).now = s.now ∧ (enterStopping s).resets = s.resets ∧
    (enterStopping s).pins = s.pins ∧ (enterStopping s).config = s.config ∧ (enterStopping s).receiver = s.receiver ∧
    (enterStopping s).link = s.link ∧ (enterStopping s).quiet = s.quiet ∧ (enterStopping s).cadence = s.cadence ∧
    (enterStopping s).allotment = s.allotment ∧ (enterStopping s).thread = s.thread ∧
    (enterStopping s).cooling = s.cooling ∧ (enterStopping s).wind = s.wind ∧ (enterStopping s).fault = s.fault ∧
    (enterStopping s).log = s.log := by
  simp [enterStopping]

@[simp] theorem stopSession_frame (s : State) :
    (stopSession s).pending = s.pending ∧ (stopSession s).now = s.now ∧ (stopSession s).resets = s.resets ∧
    (stopSession s).pins = s.pins ∧ (stopSession s).config = s.config ∧ (stopSession s).receiver = s.receiver ∧
    (stopSession s).quiet = s.quiet ∧ (stopSession s).cadence = s.cadence ∧ (stopSession s).allotment = s.allotment ∧
    (stopSession s).thread = s.thread ∧ (stopSession s).cooling = s.cooling ∧ (stopSession s).wind = s.wind ∧
    (stopSession s).fault = s.fault ∧ (stopSession s).log = s.log := by
  simp [stopSession]

@[simp] theorem abandon_frame (s : State) (reason station : Nat) :
    (abandon s reason station).pending = s.pending ∧ (abandon s reason station).now = s.now ∧
    (abandon s reason station).resets = s.resets ∧ (abandon s reason station).pins = s.pins ∧
    (abandon s reason station).config = s.config ∧ (abandon s reason station).receiver = s.receiver ∧
    (abandon s reason station).allotment = s.allotment ∧ (abandon s reason station).cooling = s.cooling ∧
    (abandon s reason station).wind = s.wind ∧ (abandon s reason station).fault = s.fault := by
  simp [abandon]

@[simp] theorem barSession_frame (s : State) :
    (barSession s).pending = s.pending ∧ (barSession s).now = s.now ∧ (barSession s).resets = s.resets ∧
    (barSession s).pins = s.pins ∧ (barSession s).config = s.config ∧ (barSession s).receiver = s.receiver ∧
    (barSession s).allotment = s.allotment ∧ (barSession s).cooling = s.cooling ∧ (barSession s).wind = s.wind ∧
    (barSession s).fault = s.fault := by
  unfold barSession; (repeat' split) <;> simp

@[simp] theorem finishStopping_frame (s : State) :
    (finishStopping s).pending = s.pending ∧ (finishStopping s).now = s.now ∧ (finishStopping s).resets = s.resets ∧
    (finishStopping s).pins = s.pins ∧ (finishStopping s).config = s.config ∧
    (finishStopping s).receiver = s.receiver ∧ (finishStopping s).link = s.link ∧
    (finishStopping s).allotment = s.allotment ∧ (finishStopping s).cooling = s.cooling ∧
    (finishStopping s).wind = s.wind ∧ (finishStopping s).fault = s.fault ∧ (finishStopping s).log = s.log := by
  simp [finishStopping]

@[simp] theorem endLocally_frame (s : State) :
    (endLocally s).pending = s.pending ∧ (endLocally s).now = s.now ∧ (endLocally s).resets = s.resets ∧
    (endLocally s).pins = s.pins ∧ (endLocally s).config = s.config ∧ (endLocally s).receiver = s.receiver ∧
    (endLocally s).link = s.link ∧ (endLocally s).quiet = s.quiet ∧ (endLocally s).cadence = s.cadence ∧
    (endLocally s).allotment = s.allotment ∧ (endLocally s).thread = s.thread ∧ (endLocally s).cooling = s.cooling ∧
    (endLocally s).wind = s.wind ∧ (endLocally s).fault = s.fault ∧ (endLocally s).log = s.log := by
  unfold endLocally; (repeat' split) <;> simp

@[simp] theorem enterReleasing_frame (s : State) :
    (enterReleasing s).pending = s.pending ∧ (enterReleasing s).now = s.now ∧ (enterReleasing s).resets = s.resets ∧
    (enterReleasing s).pins = s.pins ∧ (enterReleasing s).config = s.config ∧
    (enterReleasing s).receiver = s.receiver ∧ (enterReleasing s).link = s.link ∧ (enterReleasing s).quiet = s.quiet ∧
    (enterReleasing s).cadence = s.cadence ∧ (enterReleasing s).allotment = s.allotment ∧
    (enterReleasing s).thread = s.thread ∧ (enterReleasing s).cooling = s.cooling ∧ (enterReleasing s).wind = s.wind ∧
    (enterReleasing s).fault = s.fault ∧ (enterReleasing s).log = s.log := by
  simp [enterReleasing]

@[simp] theorem allocateAndStart_frame (s : State) :
    (allocateAndStart s).pending = s.pending ∧ (allocateAndStart s).now = s.now ∧
    (allocateAndStart s).resets = s.resets ∧ (allocateAndStart s).pins = s.pins ∧
    (allocateAndStart s).config = s.config ∧ (allocateAndStart s).receiver = s.receiver ∧
    (allocateAndStart s).quiet = s.quiet ∧ (allocateAndStart s).cadence = s.cadence ∧
    (allocateAndStart s).allotment = s.allotment ∧ (allocateAndStart s).thread = s.thread ∧
    (allocateAndStart s).cooling = s.cooling ∧ (allocateAndStart s).wind = s.wind ∧
    (allocateAndStart s).fault = s.fault ∧ (allocateAndStart s).log = s.log := by
  simp [allocateAndStart]

@[simp] theorem enterDriving_frame (s : State) :
    (enterDriving s).pending = s.pending ∧ (enterDriving s).now = s.now ∧ (enterDriving s).resets = s.resets ∧
    (enterDriving s).pins = s.pins ∧ (enterDriving s).config = s.config ∧ (enterDriving s).receiver = s.receiver ∧
    (enterDriving s).link = s.link ∧ (enterDriving s).quiet = s.quiet ∧ (enterDriving s).cadence = s.cadence ∧
    (enterDriving s).allotment = s.allotment ∧ (enterDriving s).thread = s.thread ∧
    (enterDriving s).cooling = s.cooling ∧ (enterDriving s).wind = s.wind ∧ (enterDriving s).fault = s.fault ∧
    (enterDriving s).log = s.log := by
  simp [enterDriving]

@[simp] theorem judgeDriving_frame (s : State) :
    (judgeDriving s).pending = s.pending ∧ (judgeDriving s).now = s.now ∧ (judgeDriving s).resets = s.resets ∧
    (judgeDriving s).pins = s.pins ∧ (judgeDriving s).config = s.config ∧ (judgeDriving s).receiver = s.receiver ∧
    (judgeDriving s).link = s.link ∧ (judgeDriving s).quiet = s.quiet ∧ (judgeDriving s).cadence = s.cadence ∧
    (judgeDriving s).allotment = s.allotment ∧ (judgeDriving s).thread = s.thread ∧
    (judgeDriving s).cooling = s.cooling ∧ (judgeDriving s).wind = s.wind ∧ (judgeDriving s).fault = s.fault ∧
    (judgeDriving s).log = s.log := by
  unfold judgeDriving; (repeat' split) <;> simp

@[simp] theorem judgeTwist_frame (s : State) :
    (judgeTwist s).pending = s.pending ∧ (judgeTwist s).now = s.now ∧ (judgeTwist s).resets = s.resets ∧
    (judgeTwist s).pins = s.pins ∧ (judgeTwist s).config = s.config ∧ (judgeTwist s).receiver = s.receiver ∧
    (judgeTwist s).quiet = s.quiet ∧ (judgeTwist s).cadence = s.cadence ∧ (judgeTwist s).allotment = s.allotment ∧
    (judgeTwist s).thread = s.thread ∧ (judgeTwist s).cooling = s.cooling ∧ (judgeTwist s).wind = s.wind ∧
    (judgeTwist s).fault = s.fault ∧ (judgeTwist s).log = s.log := by
  unfold judgeTwist; (repeat' split) <;> simp

@[simp] theorem judgeStatus_frame (s : State) (n : Nat) :
    (judgeStatus s n).pending = s.pending ∧ (judgeStatus s n).now = s.now ∧ (judgeStatus s n).resets = s.resets ∧
    (judgeStatus s n).pins = s.pins ∧ (judgeStatus s n).config = s.config ∧ (judgeStatus s n).receiver = s.receiver ∧
    (judgeStatus s n).quiet = s.quiet ∧ (judgeStatus s n).cadence = s.cadence ∧
    (judgeStatus s n).allotment = s.allotment ∧ (judgeStatus s n).thread = s.thread ∧
    (judgeStatus s n).cooling = s.cooling ∧ (judgeStatus s n).wind = s.wind ∧ (judgeStatus s n).fault = s.fault ∧
    (judgeStatus s n).log = s.log := by
  unfold judgeStatus; (repeat' split) <;> simp

@[simp] theorem takeReport_frame (s : State) (cls code : Nat) (severity : Severity) (detail : Int) :
    (takeReport s cls code severity detail).pending = s.pending ∧
    (takeReport s cls code severity detail).now = s.now ∧ (takeReport s cls code severity detail).resets = s.resets ∧
    (takeReport s cls code severity detail).pins = s.pins ∧
    (takeReport s cls code severity detail).config = s.config ∧
    (takeReport s cls code severity detail).receiver = s.receiver ∧
    (takeReport s cls code severity detail).cooling = s.cooling ∧
    (takeReport s cls code severity detail).wind = s.wind ∧ (takeReport s cls code severity detail).yaw = s.yaw := by
  unfold takeReport; (repeat' split) <;> simp

@[simp] theorem reportFault_frame (s : State) (cls code : Nat) (severity : Severity) (detail : Int) :
    (reportFault s cls code severity detail).pending = s.pending ∧
    (reportFault s cls code severity detail).now = s.now ∧
    (reportFault s cls code severity detail).resets = s.resets ∧
    (reportFault s cls code severity detail).pins = s.pins ∧
    (reportFault s cls code severity detail).config = s.config ∧
    (reportFault s cls code severity detail).receiver = s.receiver ∧
    (reportFault s cls code severity detail).cooling = s.cooling ∧
    (reportFault s cls code severity detail).wind = s.wind := by
  unfold reportFault; (repeat' split) <;> simp

@[simp] theorem countDiscard_frame (s : State) :
    (countDiscard s).pending = s.pending ∧ (countDiscard s).now = s.now ∧ (countDiscard s).resets = s.resets ∧
    (countDiscard s).pins = s.pins ∧ (countDiscard s).config = s.config ∧ (countDiscard s).receiver = s.receiver ∧
    (countDiscard s).cooling = s.cooling ∧ (countDiscard s).wind = s.wind := by
  unfold countDiscard; (repeat' split) <;> simp

@[simp] theorem stopForStale_frame (s : State) (n : Nat) :
    (stopForStale s n).pending = s.pending ∧ (stopForStale s n).now = s.now ∧ (stopForStale s n).resets = s.resets ∧
    (stopForStale s n).pins = s.pins ∧ (stopForStale s n).config = s.config ∧
    (stopForStale s n).receiver = s.receiver ∧ (stopForStale s n).cooling = s.cooling ∧
    (stopForStale s n).wind = s.wind := by
  simp [stopForStale]

@[simp] theorem startTest_frame (s : State) :
    (startTest s).pending = s.pending ∧ (startTest s).now = s.now ∧ (startTest s).resets = s.resets ∧
    (startTest s).pins = s.pins ∧ (startTest s).config = s.config ∧ (startTest s).receiver = s.receiver ∧
    (startTest s).link = s.link ∧ (startTest s).quiet = s.quiet ∧ (startTest s).cadence = s.cadence ∧
    (startTest s).allotment = s.allotment ∧ (startTest s).cooling = s.cooling ∧ (startTest s).wind = s.wind ∧
    (startTest s).yaw = s.yaw ∧ (startTest s).fault = s.fault ∧ (startTest s).log = s.log := by
  unfold startTest; (repeat' split) <;> simp

@[simp] theorem completeStop_frame (s : State) :
    (completeStop s).pending = s.pending ∧ (completeStop s).now = s.now ∧ (completeStop s).resets = s.resets ∧
    (completeStop s).pins = s.pins ∧ (completeStop s).config = s.config ∧ (completeStop s).receiver = s.receiver ∧
    (completeStop s).link = s.link ∧ (completeStop s).quiet = s.quiet ∧ (completeStop s).cadence = s.cadence ∧
    (completeStop s).allotment = s.allotment ∧ (completeStop s).cooling = s.cooling ∧ (completeStop s).wind = s.wind ∧
    (completeStop s).yaw = s.yaw ∧ (completeStop s).fault = s.fault ∧ (completeStop s).log = s.log := by
  unfold completeStop; (repeat' split) <;> simp

@[simp] theorem judgeDemand_frame (s : State) :
    (judgeDemand s).pending = s.pending ∧ (judgeDemand s).now = s.now ∧ (judgeDemand s).resets = s.resets ∧
    (judgeDemand s).pins = s.pins ∧ (judgeDemand s).config = s.config ∧ (judgeDemand s).receiver = s.receiver ∧
    (judgeDemand s).link = s.link ∧ (judgeDemand s).quiet = s.quiet ∧ (judgeDemand s).cadence = s.cadence ∧
    (judgeDemand s).allotment = s.allotment ∧ (judgeDemand s).cooling = s.cooling ∧ (judgeDemand s).wind = s.wind ∧
    (judgeDemand s).yaw = s.yaw ∧ (judgeDemand s).fault = s.fault ∧ (judgeDemand s).log = s.log := by
  unfold judgeDemand; (repeat' split) <;> simp

@[simp] theorem countEarly_frame (s : State) :
    (countEarly s).pending = s.pending ∧ (countEarly s).now = s.now ∧ (countEarly s).resets = s.resets ∧
    (countEarly s).pins = s.pins ∧ (countEarly s).config = s.config ∧ (countEarly s).receiver = s.receiver ∧
    (countEarly s).cooling = s.cooling ∧ (countEarly s).wind = s.wind := by
  unfold countEarly; (repeat' split) <;> simp

@[simp] theorem earlyMarkWindowEnd_frame (s : State) :
    (earlyMarkWindowEnd s).pending = s.pending ∧ (earlyMarkWindowEnd s).now = s.now ∧
    (earlyMarkWindowEnd s).resets = s.resets ∧ (earlyMarkWindowEnd s).pins = s.pins ∧
    (earlyMarkWindowEnd s).config = s.config ∧ (earlyMarkWindowEnd s).receiver = s.receiver ∧
    (earlyMarkWindowEnd s).link = s.link ∧ (earlyMarkWindowEnd s).quiet = s.quiet ∧
    (earlyMarkWindowEnd s).table = s.table ∧ (earlyMarkWindowEnd s).allotment = s.allotment ∧
    (earlyMarkWindowEnd s).thread = s.thread ∧ (earlyMarkWindowEnd s).cooling = s.cooling ∧
    (earlyMarkWindowEnd s).wind = s.wind ∧ (earlyMarkWindowEnd s).yaw = s.yaw ∧
    (earlyMarkWindowEnd s).fault = s.fault ∧ (earlyMarkWindowEnd s).log = s.log := by
  unfold earlyMarkWindowEnd; (repeat' split) <;> simp

@[simp] theorem reportIf_frame (c : Bool) (cls code : Nat) (detail : Int) (s : State) :
    (reportIf c cls code detail s).pending = s.pending ∧ (reportIf c cls code detail s).now = s.now ∧
    (reportIf c cls code detail s).resets = s.resets ∧ (reportIf c cls code detail s).pins = s.pins ∧
    (reportIf c cls code detail s).config = s.config ∧ (reportIf c cls code detail s).receiver = s.receiver ∧
    (reportIf c cls code detail s).cooling = s.cooling ∧ (reportIf c cls code detail s).wind = s.wind := by
  unfold reportIf; (repeat' split) <;> simp

@[simp] theorem endIf_frame (c : Bool) (cls code : Nat) (s : State) :
    (endIf c cls code s).pending = s.pending ∧ (endIf c cls code s).now = s.now ∧
    (endIf c cls code s).resets = s.resets ∧ (endIf c cls code s).pins = s.pins ∧
    (endIf c cls code s).config = s.config ∧ (endIf c cls code s).receiver = s.receiver ∧
    (endIf c cls code s).link = s.link ∧ (endIf c cls code s).quiet = s.quiet ∧
    (endIf c cls code s).cadence = s.cadence ∧ (endIf c cls code s).table = s.table ∧
    (endIf c cls code s).allotment = s.allotment ∧ (endIf c cls code s).thread = s.thread ∧
    (endIf c cls code s).cooling = s.cooling ∧ (endIf c cls code s).wind = s.wind ∧ (endIf c cls code s).yaw = s.yaw ∧
    (endIf c cls code s).log = s.log := by
  unfold endIf; (repeat' split) <;> simp

@[simp] theorem judgeReplyFaults_frame (s0 : State) (r : StackReply) (s : State) :
    (judgeReplyFaults s0 r s).pending = s.pending ∧ (judgeReplyFaults s0 r s).now = s.now ∧
    (judgeReplyFaults s0 r s).resets = s.resets ∧ (judgeReplyFaults s0 r s).pins = s.pins ∧
    (judgeReplyFaults s0 r s).config = s.config ∧ (judgeReplyFaults s0 r s).receiver = s.receiver ∧
    (judgeReplyFaults s0 r s).cooling = s.cooling ∧ (judgeReplyFaults s0 r s).wind = s.wind := by
  simp [judgeReplyFaults]

@[simp] theorem prechargeTimeout_frame (s : State) :
    (prechargeTimeout s).pending = s.pending ∧ (prechargeTimeout s).now = s.now ∧
    (prechargeTimeout s).resets = s.resets ∧ (prechargeTimeout s).pins = s.pins ∧
    (prechargeTimeout s).config = s.config ∧ (prechargeTimeout s).receiver = s.receiver ∧
    (prechargeTimeout s).cooling = s.cooling ∧ (prechargeTimeout s).wind = s.wind := by
  unfold prechargeTimeout; (repeat' split) <;> simp

@[simp] theorem syncTimeout_frame (s : State) :
    (syncTimeout s).pending = s.pending ∧ (syncTimeout s).now = s.now ∧ (syncTimeout s).resets = s.resets ∧
    (syncTimeout s).pins = s.pins ∧ (syncTimeout s).config = s.config ∧ (syncTimeout s).receiver = s.receiver ∧
    (syncTimeout s).cooling = s.cooling ∧ (syncTimeout s).wind = s.wind := by
  unfold syncTimeout; (repeat' split) <;> simp

@[simp] theorem rideThroughRecovery_frame (s : State) :
    (rideThroughRecovery s).pending = s.pending ∧ (rideThroughRecovery s).now = s.now ∧
    (rideThroughRecovery s).resets = s.resets ∧ (rideThroughRecovery s).pins = s.pins ∧
    (rideThroughRecovery s).config = s.config ∧ (rideThroughRecovery s).receiver = s.receiver ∧
    (rideThroughRecovery s).link = s.link ∧ (rideThroughRecovery s).quiet = s.quiet ∧
    (rideThroughRecovery s).cadence = s.cadence ∧ (rideThroughRecovery s).allotment = s.allotment ∧
    (rideThroughRecovery s).cooling = s.cooling ∧ (rideThroughRecovery s).wind = s.wind ∧
    (rideThroughRecovery s).yaw = s.yaw ∧ (rideThroughRecovery s).fault = s.fault := by
  unfold rideThroughRecovery; (repeat' split) <;> simp

@[simp] theorem rideThroughTooLong_frame (s : State) :
    (rideThroughTooLong s).pending = s.pending ∧ (rideThroughTooLong s).now = s.now ∧
    (rideThroughTooLong s).resets = s.resets ∧ (rideThroughTooLong s).pins = s.pins ∧
    (rideThroughTooLong s).config = s.config ∧ (rideThroughTooLong s).receiver = s.receiver ∧
    (rideThroughTooLong s).cooling = s.cooling ∧ (rideThroughTooLong s).wind = s.wind := by
  unfold rideThroughTooLong; (repeat' split) <;> simp

@[simp] theorem gridHealthyTimer_frame (s : State) :
    (gridHealthyTimer s).pending = s.pending ∧ (gridHealthyTimer s).now = s.now ∧
    (gridHealthyTimer s).resets = s.resets ∧ (gridHealthyTimer s).pins = s.pins ∧
    (gridHealthyTimer s).config = s.config ∧ (gridHealthyTimer s).receiver = s.receiver ∧
    (gridHealthyTimer s).link = s.link ∧ (gridHealthyTimer s).quiet = s.quiet ∧
    (gridHealthyTimer s).cadence = s.cadence ∧ (gridHealthyTimer s).table = s.table ∧
    (gridHealthyTimer s).allotment = s.allotment ∧ (gridHealthyTimer s).thread = s.thread ∧
    (gridHealthyTimer s).cooling = s.cooling ∧ (gridHealthyTimer s).wind = s.wind ∧ (gridHealthyTimer s).yaw = s.yaw ∧
    (gridHealthyTimer s).log = s.log := by
  unfold gridHealthyTimer; (repeat' split) <;> simp

@[simp] theorem restartHoldExpiry_frame (s : State) :
    (restartHoldExpiry s).pending = s.pending ∧ (restartHoldExpiry s).now = s.now ∧
    (restartHoldExpiry s).resets = s.resets ∧ (restartHoldExpiry s).pins = s.pins ∧
    (restartHoldExpiry s).config = s.config ∧ (restartHoldExpiry s).receiver = s.receiver ∧
    (restartHoldExpiry s).link = s.link ∧ (restartHoldExpiry s).quiet = s.quiet ∧
    (restartHoldExpiry s).cadence = s.cadence ∧ (restartHoldExpiry s).table = s.table ∧
    (restartHoldExpiry s).allotment = s.allotment ∧ (restartHoldExpiry s).cooling = s.cooling ∧
    (restartHoldExpiry s).wind = s.wind ∧ (restartHoldExpiry s).yaw = s.yaw ∧ (restartHoldExpiry s).fault = s.fault ∧
    (restartHoldExpiry s).log = s.log := by
  unfold restartHoldExpiry; (repeat' split) <;> simp

@[simp] theorem takeAcknowledge_frame (s : State) :
    (takeAcknowledge s).pending = s.pending ∧ (takeAcknowledge s).now = s.now ∧
    (takeAcknowledge s).resets = s.resets ∧ (takeAcknowledge s).pins = s.pins ∧
    (takeAcknowledge s).config = s.config ∧ (takeAcknowledge s).receiver = s.receiver ∧
    (takeAcknowledge s).link = s.link ∧ (takeAcknowledge s).quiet = s.quiet ∧
    (takeAcknowledge s).cadence = s.cadence ∧ (takeAcknowledge s).table = s.table ∧
    (takeAcknowledge s).allotment = s.allotment ∧ (takeAcknowledge s).thread = s.thread ∧
    (takeAcknowledge s).cooling = s.cooling ∧ (takeAcknowledge s).wind = s.wind ∧ (takeAcknowledge s).yaw = s.yaw ∧
    (takeAcknowledge s).log = s.log := by
  unfold takeAcknowledge; (repeat' split) <;> simp

@[simp] theorem buildStatus_frame (s : State) :
    (buildStatus s).pending = s.pending ∧ (buildStatus s).now = s.now ∧ (buildStatus s).resets = s.resets ∧
    (buildStatus s).pins = s.pins ∧ (buildStatus s).config = s.config ∧ (buildStatus s).receiver = s.receiver ∧
    (buildStatus s).quiet = s.quiet ∧ (buildStatus s).cadence = s.cadence ∧ (buildStatus s).allotment = s.allotment ∧
    (buildStatus s).thread = s.thread ∧ (buildStatus s).cooling = s.cooling ∧ (buildStatus s).wind = s.wind ∧
    (buildStatus s).yaw = s.yaw ∧ (buildStatus s).fault = s.fault ∧ (buildStatus s).log = s.log := by
  simp [buildStatus]

@[simp] theorem statusBuild_frame (s : State) :
    (statusBuild s).pending = s.pending ∧ (statusBuild s).now = s.now ∧ (statusBuild s).resets = s.resets ∧
    (statusBuild s).pins = s.pins ∧ (statusBuild s).config = s.config ∧ (statusBuild s).receiver = s.receiver ∧
    (statusBuild s).quiet = s.quiet ∧ (statusBuild s).cadence = s.cadence ∧ (statusBuild s).allotment = s.allotment ∧
    (statusBuild s).thread = s.thread ∧ (statusBuild s).cooling = s.cooling ∧ (statusBuild s).wind = s.wind ∧
    (statusBuild s).yaw = s.yaw ∧ (statusBuild s).fault = s.fault ∧ (statusBuild s).log = s.log := by
  unfold statusBuild; (repeat' split) <;> simp

@[simp] theorem reportSensor_frame (before : Sensor) (reading : Option Int) (code : Nat) (s : State) :
    (reportSensor before reading code s).pending = s.pending ∧ (reportSensor before reading code s).now = s.now ∧
    (reportSensor before reading code s).resets = s.resets ∧ (reportSensor before reading code s).pins = s.pins ∧
    (reportSensor before reading code s).config = s.config ∧
    (reportSensor before reading code s).receiver = s.receiver ∧
    (reportSensor before reading code s).cooling = s.cooling ∧
    (reportSensor before reading code s).wind = s.wind := by
  unfold reportSensor; (repeat' split) <;> simp

@[simp] theorem senseHeatsink_frame (s : State) :
    (senseHeatsink s).pending = s.pending ∧ (senseHeatsink s).now = s.now ∧ (senseHeatsink s).resets = s.resets ∧
    (senseHeatsink s).pins = s.pins ∧ (senseHeatsink s).config = s.config ∧ (senseHeatsink s).receiver = s.receiver ∧
    (senseHeatsink s).wind = s.wind := by
  unfold senseHeatsink; (repeat' split) <;> simp

@[simp] theorem senseInlet_frame (reading : Option Int) (s : State) :
    (senseInlet reading s).pending = s.pending ∧ (senseInlet reading s).now = s.now ∧
    (senseInlet reading s).resets = s.resets ∧ (senseInlet reading s).pins = s.pins ∧
    (senseInlet reading s).config = s.config ∧ (senseInlet reading s).receiver = s.receiver ∧
    (senseInlet reading s).wind = s.wind := by
  simp [senseInlet]

@[simp] theorem senseOutlet_frame (reading : Option Int) (s : State) :
    (senseOutlet reading s).pending = s.pending ∧ (senseOutlet reading s).now = s.now ∧
    (senseOutlet reading s).resets = s.resets ∧ (senseOutlet reading s).pins = s.pins ∧
    (senseOutlet reading s).config = s.config ∧ (senseOutlet reading s).receiver = s.receiver ∧
    (senseOutlet reading s).wind = s.wind := by
  simp [senseOutlet]

@[simp] theorem derateNote_frame (s : State) :
    (derateNote s).pending = s.pending ∧ (derateNote s).now = s.now ∧ (derateNote s).resets = s.resets ∧
    (derateNote s).pins = s.pins ∧ (derateNote s).config = s.config ∧ (derateNote s).receiver = s.receiver ∧
    (derateNote s).link = s.link ∧ (derateNote s).quiet = s.quiet ∧ (derateNote s).cadence = s.cadence ∧
    (derateNote s).table = s.table ∧ (derateNote s).allotment = s.allotment ∧ (derateNote s).thread = s.thread ∧
    (derateNote s).wind = s.wind ∧ (derateNote s).yaw = s.yaw ∧ (derateNote s).fault = s.fault := by
  unfold derateNote; (repeat' split) <;> simp

@[simp] theorem heatsinkTrip_frame (s : State) :
    (heatsinkTrip s).pending = s.pending ∧ (heatsinkTrip s).now = s.now ∧ (heatsinkTrip s).resets = s.resets ∧
    (heatsinkTrip s).pins = s.pins ∧ (heatsinkTrip s).config = s.config ∧ (heatsinkTrip s).receiver = s.receiver ∧
    (heatsinkTrip s).wind = s.wind := by
  unfold heatsinkTrip; (repeat' split) <;> simp

@[simp] theorem mergeCommand_frame (s : State) :
    (mergeCommand s).pending = s.pending ∧ (mergeCommand s).now = s.now ∧ (mergeCommand s).resets = s.resets ∧
    (mergeCommand s).pins = s.pins ∧ (mergeCommand s).config = s.config ∧ (mergeCommand s).receiver = s.receiver ∧
    (mergeCommand s).link = s.link ∧ (mergeCommand s).quiet = s.quiet ∧ (mergeCommand s).cadence = s.cadence ∧
    (mergeCommand s).table = s.table ∧ (mergeCommand s).allotment = s.allotment ∧ (mergeCommand s).thread = s.thread ∧
    (mergeCommand s).wind = s.wind ∧ (mergeCommand s).yaw = s.yaw ∧ (mergeCommand s).fault = s.fault ∧
    (mergeCommand s).log = s.log := by
  unfold mergeCommand; (repeat' split) <;> simp

@[simp] theorem capabilityAtEvaluation_frame (s : State) :
    (capabilityAtEvaluation s).pending = s.pending ∧ (capabilityAtEvaluation s).now = s.now ∧
    (capabilityAtEvaluation s).resets = s.resets ∧ (capabilityAtEvaluation s).pins = s.pins ∧
    (capabilityAtEvaluation s).config = s.config ∧ (capabilityAtEvaluation s).receiver = s.receiver ∧
    (capabilityAtEvaluation s).link = s.link ∧ (capabilityAtEvaluation s).quiet = s.quiet ∧
    (capabilityAtEvaluation s).cadence = s.cadence ∧ (capabilityAtEvaluation s).table = s.table ∧
    (capabilityAtEvaluation s).thread = s.thread ∧ (capabilityAtEvaluation s).cooling = s.cooling ∧
    (capabilityAtEvaluation s).wind = s.wind ∧ (capabilityAtEvaluation s).yaw = s.yaw ∧
    (capabilityAtEvaluation s).fault = s.fault ∧ (capabilityAtEvaluation s).log = s.log := by
  unfold capabilityAtEvaluation; (repeat' split) <;> simp

@[simp] theorem tachPulse_frame (s : State) :
    (tachPulse s).pending = s.pending ∧ (tachPulse s).now = s.now ∧ (tachPulse s).resets = s.resets ∧
    (tachPulse s).pins = s.pins ∧ (tachPulse s).config = s.config ∧ (tachPulse s).receiver = s.receiver ∧
    (tachPulse s).link = s.link ∧ (tachPulse s).quiet = s.quiet ∧ (tachPulse s).cadence = s.cadence ∧
    (tachPulse s).table = s.table ∧ (tachPulse s).allotment = s.allotment ∧ (tachPulse s).thread = s.thread ∧
    (tachPulse s).wind = s.wind ∧ (tachPulse s).yaw = s.yaw ∧ (tachPulse s).fault = s.fault ∧
    (tachPulse s).log = s.log := by
  unfold tachPulse; (repeat' split) <;> simp

@[simp] theorem pwmPeriodEnd_frame (s : State) :
    (pwmPeriodEnd s).pending = s.pending ∧ (pwmPeriodEnd s).now = s.now ∧ (pwmPeriodEnd s).resets = s.resets ∧
    (pwmPeriodEnd s).pins = s.pins ∧ (pwmPeriodEnd s).config = s.config ∧ (pwmPeriodEnd s).receiver = s.receiver ∧
    (pwmPeriodEnd s).link = s.link ∧ (pwmPeriodEnd s).quiet = s.quiet ∧ (pwmPeriodEnd s).cadence = s.cadence ∧
    (pwmPeriodEnd s).table = s.table ∧ (pwmPeriodEnd s).allotment = s.allotment ∧ (pwmPeriodEnd s).thread = s.thread ∧
    (pwmPeriodEnd s).wind = s.wind ∧ (pwmPeriodEnd s).yaw = s.yaw ∧ (pwmPeriodEnd s).fault = s.fault ∧
    (pwmPeriodEnd s).log = s.log := by
  unfold pwmPeriodEnd; (repeat' split) <;> simp

@[simp] theorem vaneRising_frame (s : State) :
    (vaneRising s).pending = s.pending ∧ (vaneRising s).now = s.now ∧ (vaneRising s).resets = s.resets ∧
    (vaneRising s).pins = s.pins ∧ (vaneRising s).config = s.config ∧ (vaneRising s).receiver = s.receiver ∧
    (vaneRising s).link = s.link ∧ (vaneRising s).quiet = s.quiet ∧ (vaneRising s).cadence = s.cadence ∧
    (vaneRising s).table = s.table ∧ (vaneRising s).allotment = s.allotment ∧ (vaneRising s).thread = s.thread ∧
    (vaneRising s).cooling = s.cooling ∧ (vaneRising s).yaw = s.yaw ∧ (vaneRising s).fault = s.fault ∧
    (vaneRising s).log = s.log := by
  unfold vaneRising; (repeat' split) <;> simp

@[simp] theorem vaneFalling_frame (s : State) :
    (vaneFalling s).pending = s.pending ∧ (vaneFalling s).now = s.now ∧ (vaneFalling s).resets = s.resets ∧
    (vaneFalling s).pins = s.pins ∧ (vaneFalling s).config = s.config ∧ (vaneFalling s).receiver = s.receiver ∧
    (vaneFalling s).link = s.link ∧ (vaneFalling s).quiet = s.quiet ∧ (vaneFalling s).cadence = s.cadence ∧
    (vaneFalling s).table = s.table ∧ (vaneFalling s).allotment = s.allotment ∧ (vaneFalling s).thread = s.thread ∧
    (vaneFalling s).cooling = s.cooling ∧ (vaneFalling s).yaw = s.yaw ∧ (vaneFalling s).fault = s.fault ∧
    (vaneFalling s).log = s.log := by
  unfold vaneFalling; (repeat' split) <;> simp

@[simp] theorem vaneWrap_frame (s : State) :
    (vaneWrap s).pending = s.pending ∧ (vaneWrap s).now = s.now ∧ (vaneWrap s).resets = s.resets ∧
    (vaneWrap s).pins = s.pins ∧ (vaneWrap s).config = s.config ∧ (vaneWrap s).receiver = s.receiver ∧
    (vaneWrap s).link = s.link ∧ (vaneWrap s).quiet = s.quiet ∧ (vaneWrap s).cadence = s.cadence ∧
    (vaneWrap s).table = s.table ∧ (vaneWrap s).allotment = s.allotment ∧ (vaneWrap s).thread = s.thread ∧
    (vaneWrap s).cooling = s.cooling ∧ (vaneWrap s).yaw = s.yaw ∧ (vaneWrap s).fault = s.fault ∧
    (vaneWrap s).log = s.log := by
  unfold vaneWrap; (repeat' split) <;> simp

@[simp] theorem anemometerEdge_frame (s : State) :
    (anemometerEdge s).pending = s.pending ∧ (anemometerEdge s).now = s.now ∧ (anemometerEdge s).resets = s.resets ∧
    (anemometerEdge s).pins = s.pins ∧ (anemometerEdge s).config = s.config ∧
    (anemometerEdge s).receiver = s.receiver ∧ (anemometerEdge s).link = s.link ∧ (anemometerEdge s).quiet = s.quiet ∧
    (anemometerEdge s).cadence = s.cadence ∧ (anemometerEdge s).table = s.table ∧
    (anemometerEdge s).allotment = s.allotment ∧ (anemometerEdge s).thread = s.thread ∧
    (anemometerEdge s).cooling = s.cooling ∧ (anemometerEdge s).yaw = s.yaw ∧ (anemometerEdge s).fault = s.fault ∧
    (anemometerEdge s).log = s.log := by
  unfold anemometerEdge; (repeat' split) <;> simp

@[simp] theorem readTwist_frame (encoder : Option Int) (s : State) :
    (readTwist encoder s).pending = s.pending ∧ (readTwist encoder s).now = s.now ∧
    (readTwist encoder s).resets = s.resets ∧ (readTwist encoder s).pins = s.pins ∧
    (readTwist encoder s).config = s.config ∧ (readTwist encoder s).receiver = s.receiver ∧
    (readTwist encoder s).cooling = s.cooling := by
  unfold readTwist; (repeat' split) <;> simp

@[simp] theorem judgeSpeed_frame (own : Nat) (s : State) :
    (judgeSpeed own s).pending = s.pending ∧ (judgeSpeed own s).now = s.now ∧ (judgeSpeed own s).resets = s.resets ∧
    (judgeSpeed own s).pins = s.pins ∧ (judgeSpeed own s).config = s.config ∧
    (judgeSpeed own s).receiver = s.receiver ∧ (judgeSpeed own s).cooling = s.cooling := by
  unfold judgeSpeed; (repeat' split) <;> simp

@[simp] theorem closeAnemometerWindow_frame (s : State) :
    (closeAnemometerWindow s).pending = s.pending ∧ (closeAnemometerWindow s).now = s.now ∧
    (closeAnemometerWindow s).resets = s.resets ∧ (closeAnemometerWindow s).pins = s.pins ∧
    (closeAnemometerWindow s).config = s.config ∧ (closeAnemometerWindow s).receiver = s.receiver ∧
    (closeAnemometerWindow s).cooling = s.cooling := by
  unfold closeAnemometerWindow; (repeat' split) <;> simp

@[simp] theorem logLimit_frame (t : Trigger) (s : State) :
    (logLimit t s).pending = s.pending ∧ (logLimit t s).now = s.now ∧ (logLimit t s).resets = s.resets ∧
    (logLimit t s).pins = s.pins ∧ (logLimit t s).config = s.config ∧ (logLimit t s).receiver = s.receiver ∧
    (logLimit t s).cooling = s.cooling ∧ (logLimit t s).wind = s.wind := by
  unfold logLimit; (repeat' split) <;> simp

@[simp] theorem logPeer_frame (s : State) :
    (logPeer s).pending = s.pending ∧ (logPeer s).now = s.now ∧ (logPeer s).resets = s.resets ∧
    (logPeer s).pins = s.pins ∧ (logPeer s).config = s.config ∧ (logPeer s).receiver = s.receiver ∧
    (logPeer s).link = s.link ∧ (logPeer s).quiet = s.quiet ∧ (logPeer s).cadence = s.cadence ∧
    (logPeer s).table = s.table ∧ (logPeer s).allotment = s.allotment ∧ (logPeer s).thread = s.thread ∧
    (logPeer s).cooling = s.cooling ∧ (logPeer s).wind = s.wind ∧ (logPeer s).fault = s.fault := by
  unfold logPeer; (repeat' split) <;> simp

@[simp] theorem logInhibits_frame (t : Trigger) (s : State) :
    (logInhibits t s).pending = s.pending ∧ (logInhibits t s).now = s.now ∧ (logInhibits t s).resets = s.resets ∧
    (logInhibits t s).pins = s.pins ∧ (logInhibits t s).config = s.config ∧ (logInhibits t s).receiver = s.receiver ∧
    (logInhibits t s).cooling = s.cooling ∧ (logInhibits t s).wind = s.wind := by
  simp [logInhibits]

@[simp] theorem forwardTrigger_frame (s : State) (t : Trigger) :
    (forwardTrigger s t).pending = s.pending ∧ (forwardTrigger s t).now = s.now ∧
    (forwardTrigger s t).resets = s.resets ∧ (forwardTrigger s t).pins = s.pins ∧
    (forwardTrigger s t).config = s.config ∧ (forwardTrigger s t).receiver = s.receiver ∧
    (forwardTrigger s t).cooling = s.cooling ∧ (forwardTrigger s t).wind = s.wind := by
  unfold forwardTrigger; (repeat' split) <;> simp

@[simp] theorem judgeTriggers_frame (s : State) :
    (judgeTriggers s).pending = s.pending ∧ (judgeTriggers s).now = s.now ∧ (judgeTriggers s).resets = s.resets ∧
    (judgeTriggers s).pins = s.pins ∧ (judgeTriggers s).config = s.config ∧ (judgeTriggers s).receiver = s.receiver ∧
    (judgeTriggers s).cooling = s.cooling ∧ (judgeTriggers s).wind = s.wind := by
  unfold judgeTriggers; (repeat' split) <;> simp

@[simp] theorem judgeProposer_frame (s : State) :
    (judgeProposer s).pending = s.pending ∧ (judgeProposer s).now = s.now ∧ (judgeProposer s).resets = s.resets ∧
    (judgeProposer s).pins = s.pins ∧ (judgeProposer s).config = s.config ∧ (judgeProposer s).receiver = s.receiver ∧
    (judgeProposer s).quiet = s.quiet ∧ (judgeProposer s).cadence = s.cadence ∧
    (judgeProposer s).allotment = s.allotment ∧ (judgeProposer s).thread = s.thread ∧
    (judgeProposer s).cooling = s.cooling ∧ (judgeProposer s).wind = s.wind ∧ (judgeProposer s).fault = s.fault ∧
    (judgeProposer s).log = s.log := by
  unfold judgeProposer; (repeat' split) <;> simp

@[simp] theorem yawCheck_frame (s : State) :
    (yawCheck s).pending = s.pending ∧ (yawCheck s).now = s.now ∧ (yawCheck s).resets = s.resets ∧
    (yawCheck s).pins = s.pins ∧ (yawCheck s).config = s.config ∧ (yawCheck s).receiver = s.receiver ∧
    (yawCheck s).cooling = s.cooling ∧ (yawCheck s).wind = s.wind := by
  unfold yawCheck; (repeat' split) <;> simp

@[simp] theorem answerWaitExpiry_frame (s : State) :
    (answerWaitExpiry s).pending = s.pending ∧ (answerWaitExpiry s).now = s.now ∧
    (answerWaitExpiry s).resets = s.resets ∧ (answerWaitExpiry s).pins = s.pins ∧
    (answerWaitExpiry s).config = s.config ∧ (answerWaitExpiry s).receiver = s.receiver ∧
    (answerWaitExpiry s).allotment = s.allotment ∧ (answerWaitExpiry s).cooling = s.cooling ∧
    (answerWaitExpiry s).wind = s.wind ∧ (answerWaitExpiry s).fault = s.fault := by
  unfold answerWaitExpiry; (repeat' split) <;> simp

@[simp] theorem startWaitExpiry_frame (s : State) :
    (startWaitExpiry s).pending = s.pending ∧ (startWaitExpiry s).now = s.now ∧
    (startWaitExpiry s).resets = s.resets ∧ (startWaitExpiry s).pins = s.pins ∧
    (startWaitExpiry s).config = s.config ∧ (startWaitExpiry s).receiver = s.receiver ∧
    (startWaitExpiry s).link = s.link ∧ (startWaitExpiry s).allotment = s.allotment ∧
    (startWaitExpiry s).cooling = s.cooling ∧ (startWaitExpiry s).wind = s.wind ∧
    (startWaitExpiry s).fault = s.fault ∧ (startWaitExpiry s).log = s.log := by
  unfold startWaitExpiry; (repeat' split) <;> simp

@[simp] theorem releaseWaitExpiry_frame (s : State) :
    (releaseWaitExpiry s).pending = s.pending ∧ (releaseWaitExpiry s).now = s.now ∧
    (releaseWaitExpiry s).resets = s.resets ∧ (releaseWaitExpiry s).pins = s.pins ∧
    (releaseWaitExpiry s).config = s.config ∧ (releaseWaitExpiry s).receiver = s.receiver ∧
    (releaseWaitExpiry s).cooling = s.cooling ∧ (releaseWaitExpiry s).wind = s.wind := by
  unfold releaseWaitExpiry; (repeat' split) <;> simp

@[simp] theorem driveTimeExpiry_frame (s : State) :
    (driveTimeExpiry s).pending = s.pending ∧ (driveTimeExpiry s).now = s.now ∧
    (driveTimeExpiry s).resets = s.resets ∧ (driveTimeExpiry s).pins = s.pins ∧
    (driveTimeExpiry s).config = s.config ∧ (driveTimeExpiry s).receiver = s.receiver ∧
    (driveTimeExpiry s).link = s.link ∧ (driveTimeExpiry s).quiet = s.quiet ∧
    (driveTimeExpiry s).cadence = s.cadence ∧ (driveTimeExpiry s).table = s.table ∧
    (driveTimeExpiry s).allotment = s.allotment ∧ (driveTimeExpiry s).thread = s.thread ∧
    (driveTimeExpiry s).cooling = s.cooling ∧ (driveTimeExpiry s).wind = s.wind ∧
    (driveTimeExpiry s).fault = s.fault ∧ (driveTimeExpiry s).log = s.log := by
  unfold driveTimeExpiry; (repeat' split) <;> simp

@[simp] theorem judgeBrakes_frame (s : State) :
    (judgeBrakes s).pending = s.pending ∧ (judgeBrakes s).now = s.now ∧ (judgeBrakes s).resets = s.resets ∧
    (judgeBrakes s).pins = s.pins ∧ (judgeBrakes s).config = s.config ∧ (judgeBrakes s).receiver = s.receiver ∧
    (judgeBrakes s).cooling = s.cooling ∧ (judgeBrakes s).wind = s.wind := by
  unfold judgeBrakes; (repeat' split) <;> simp

@[simp] theorem brakeFeedback_frame (s : State) (released : Bool) :
    (brakeFeedback s released).pending = s.pending ∧ (brakeFeedback s released).now = s.now ∧
    (brakeFeedback s released).resets = s.resets ∧ (brakeFeedback s released).config = s.config ∧
    (brakeFeedback s released).receiver = s.receiver ∧ (brakeFeedback s released).cooling = s.cooling ∧
    (brakeFeedback s released).wind = s.wind := by
  unfold brakeFeedback; (repeat' split) <;> simp

@[simp] theorem motorFaultInput_frame (s : State) (motor : Nat) (active : Bool) :
    (motorFaultInput s motor active).pending = s.pending ∧ (motorFaultInput s motor active).now = s.now ∧
    (motorFaultInput s motor active).resets = s.resets ∧ (motorFaultInput s motor active).config = s.config ∧
    (motorFaultInput s motor active).receiver = s.receiver ∧ (motorFaultInput s motor active).cooling = s.cooling ∧
    (motorFaultInput s motor active).wind = s.wind := by
  unfold motorFaultInput; (repeat' split) <;> simp

@[simp] theorem brakeDelayExpiry_frame (s : State) :
    (brakeDelayExpiry s).pending = s.pending ∧ (brakeDelayExpiry s).now = s.now ∧
    (brakeDelayExpiry s).resets = s.resets ∧ (brakeDelayExpiry s).pins = s.pins ∧
    (brakeDelayExpiry s).config = s.config ∧ (brakeDelayExpiry s).receiver = s.receiver ∧
    (brakeDelayExpiry s).link = s.link ∧ (brakeDelayExpiry s).allotment = s.allotment ∧
    (brakeDelayExpiry s).cooling = s.cooling ∧ (brakeDelayExpiry s).wind = s.wind ∧
    (brakeDelayExpiry s).fault = s.fault ∧ (brakeDelayExpiry s).log = s.log := by
  unfold brakeDelayExpiry; (repeat' split) <;> simp

@[simp] theorem applyWaitExpiry_frame (s : State) :
    (applyWaitExpiry s).pending = s.pending ∧ (applyWaitExpiry s).now = s.now ∧
    (applyWaitExpiry s).resets = s.resets ∧ (applyWaitExpiry s).pins = s.pins ∧
    (applyWaitExpiry s).config = s.config ∧ (applyWaitExpiry s).receiver = s.receiver ∧
    (applyWaitExpiry s).cooling = s.cooling ∧ (applyWaitExpiry s).wind = s.wind := by
  unfold applyWaitExpiry; (repeat' split) <;> simp

@[simp] theorem holdTimerExpiry_frame (s : State) :
    (holdTimerExpiry s).pending = s.pending ∧ (holdTimerExpiry s).now = s.now ∧
    (holdTimerExpiry s).resets = s.resets ∧ (holdTimerExpiry s).pins = s.pins ∧
    (holdTimerExpiry s).config = s.config ∧ (holdTimerExpiry s).receiver = s.receiver ∧
    (holdTimerExpiry s).link = s.link ∧ (holdTimerExpiry s).quiet = s.quiet ∧
    (holdTimerExpiry s).cadence = s.cadence ∧ (holdTimerExpiry s).table = s.table ∧
    (holdTimerExpiry s).allotment = s.allotment ∧ (holdTimerExpiry s).thread = s.thread ∧
    (holdTimerExpiry s).cooling = s.cooling ∧ (holdTimerExpiry s).wind = s.wind ∧
    (holdTimerExpiry s).fault = s.fault ∧ (holdTimerExpiry s).log = s.log := by
  unfold holdTimerExpiry; (repeat' split) <;> simp

@[simp] theorem offerAnswer_frame (s : State) (p : Proposal) (reason : Nat) :
    (offerAnswer s p reason).pending = s.pending ∧ (offerAnswer s p reason).now = s.now ∧
    (offerAnswer s p reason).resets = s.resets ∧ (offerAnswer s p reason).pins = s.pins ∧
    (offerAnswer s p reason).config = s.config ∧ (offerAnswer s p reason).receiver = s.receiver ∧
    (offerAnswer s p reason).quiet = s.quiet ∧ (offerAnswer s p reason).cadence = s.cadence ∧
    (offerAnswer s p reason).table = s.table ∧ (offerAnswer s p reason).allotment = s.allotment ∧
    (offerAnswer s p reason).thread = s.thread ∧ (offerAnswer s p reason).cooling = s.cooling ∧
    (offerAnswer s p reason).wind = s.wind ∧ (offerAnswer s p reason).yaw = s.yaw ∧
    (offerAnswer s p reason).fault = s.fault ∧ (offerAnswer s p reason).log = s.log := by
  simp [offerAnswer]

@[simp] theorem answerProposal_frame (s : State) (p : Proposal) :
    (answerProposal s p).pending = s.pending ∧ (answerProposal s p).now = s.now ∧
    (answerProposal s p).resets = s.resets ∧ (answerProposal s p).pins = s.pins ∧
    (answerProposal s p).config = s.config ∧ (answerProposal s p).receiver = s.receiver ∧
    (answerProposal s p).quiet = s.quiet ∧ (answerProposal s p).cadence = s.cadence ∧
    (answerProposal s p).allotment = s.allotment ∧ (answerProposal s p).thread = s.thread ∧
    (answerProposal s p).cooling = s.cooling ∧ (answerProposal s p).wind = s.wind ∧
    (answerProposal s p).fault = s.fault ∧ (answerProposal s p).log = s.log := by
  unfold answerProposal; (repeat' split) <;> simp

@[simp] theorem yieldTo_frame (s : State) (p : Proposal) :
    (yieldTo s p).pending = s.pending ∧ (yieldTo s p).now = s.now ∧ (yieldTo s p).resets = s.resets ∧
    (yieldTo s p).pins = s.pins ∧ (yieldTo s p).config = s.config ∧ (yieldTo s p).receiver = s.receiver ∧
    (yieldTo s p).allotment = s.allotment ∧ (yieldTo s p).cooling = s.cooling ∧ (yieldTo s p).wind = s.wind ∧
    (yieldTo s p).fault = s.fault ∧ (yieldTo s p).log = s.log := by
  simp [yieldTo]

@[simp] theorem judgeProposal_frame (s : State) (p : Proposal) :
    (judgeProposal s p).pending = s.pending ∧ (judgeProposal s p).now = s.now ∧
    (judgeProposal s p).resets = s.resets ∧ (judgeProposal s p).pins = s.pins ∧
    (judgeProposal s p).config = s.config ∧ (judgeProposal s p).receiver = s.receiver ∧
    (judgeProposal s p).allotment = s.allotment ∧ (judgeProposal s p).cooling = s.cooling ∧
    (judgeProposal s p).wind = s.wind ∧ (judgeProposal s p).fault = s.fault ∧ (judgeProposal s p).log = s.log := by
  unfold judgeProposal; (repeat' split) <;> simp

@[simp] theorem hearProposal_frame (s : State) (p : Proposal) :
    (hearProposal s p).pending = s.pending ∧ (hearProposal s p).now = s.now ∧ (hearProposal s p).resets = s.resets ∧
    (hearProposal s p).pins = s.pins ∧ (hearProposal s p).config = s.config ∧
    (hearProposal s p).receiver = s.receiver ∧ (hearProposal s p).allotment = s.allotment ∧
    (hearProposal s p).cooling = s.cooling ∧ (hearProposal s p).wind = s.wind ∧ (hearProposal s p).fault = s.fault ∧
    (hearProposal s p).log = s.log := by
  unfold hearProposal; (repeat' split) <;> simp

@[simp] theorem takeProposal_frame (s : State) (sender tag modeCode directionCode budget : Nat)
    (twist : Option Int) :
    (takeProposal s sender tag modeCode directionCode budget twist).pending = s.pending ∧
    (takeProposal s sender tag modeCode directionCode budget twist).now = s.now ∧
    (takeProposal s sender tag modeCode directionCode budget twist).resets = s.resets ∧
    (takeProposal s sender tag modeCode directionCode budget twist).pins = s.pins ∧
    (takeProposal s sender tag modeCode directionCode budget twist).config = s.config ∧
    (takeProposal s sender tag modeCode directionCode budget twist).receiver = s.receiver ∧
    (takeProposal s sender tag modeCode directionCode budget twist).allotment = s.allotment ∧
    (takeProposal s sender tag modeCode directionCode budget twist).cooling = s.cooling ∧
    (takeProposal s sender tag modeCode directionCode budget twist).wind = s.wind ∧
    (takeProposal s sender tag modeCode directionCode budget twist).fault = s.fault ∧
    (takeProposal s sender tag modeCode directionCode budget twist).log = s.log := by
  unfold takeProposal; (repeat' split) <;> simp

@[simp] theorem takeStart_frame (s : State) (sender tag modeCode directionCode budget : Nat) (allocation : List (Nat × Nat)) :
    (takeStart s sender tag modeCode directionCode budget allocation).pending = s.pending ∧
    (takeStart s sender tag modeCode directionCode budget allocation).now = s.now ∧
    (takeStart s sender tag modeCode directionCode budget allocation).resets = s.resets ∧
    (takeStart s sender tag modeCode directionCode budget allocation).pins = s.pins ∧
    (takeStart s sender tag modeCode directionCode budget allocation).config = s.config ∧
    (takeStart s sender tag modeCode directionCode budget allocation).receiver = s.receiver ∧
    (takeStart s sender tag modeCode directionCode budget allocation).link = s.link ∧
    (takeStart s sender tag modeCode directionCode budget allocation).allotment = s.allotment ∧
    (takeStart s sender tag modeCode directionCode budget allocation).cooling = s.cooling ∧
    (takeStart s sender tag modeCode directionCode budget allocation).wind = s.wind ∧
    (takeStart s sender tag modeCode directionCode budget allocation).fault = s.fault ∧
    (takeStart s sender tag modeCode directionCode budget allocation).log = s.log := by
  unfold takeStart; (repeat' split) <;> simp

@[simp] theorem takeStop_frame (s : State) (sender proposer tag : Nat) :
    (takeStop s sender proposer tag).pending = s.pending ∧ (takeStop s sender proposer tag).now = s.now ∧
    (takeStop s sender proposer tag).resets = s.resets ∧ (takeStop s sender proposer tag).pins = s.pins ∧
    (takeStop s sender proposer tag).config = s.config ∧ (takeStop s sender proposer tag).receiver = s.receiver ∧
    (takeStop s sender proposer tag).allotment = s.allotment ∧ (takeStop s sender proposer tag).cooling = s.cooling ∧
    (takeStop s sender proposer tag).wind = s.wind ∧ (takeStop s sender proposer tag).fault = s.fault := by
  unfold takeStop; (repeat' split) <;> simp

@[simp] theorem seeSafety_frame (s : State) (input : SafetyInput) (active : Bool) :
    (seeSafety s input active).pending = s.pending ∧ (seeSafety s input active).now = s.now ∧
    (seeSafety s input active).resets = s.resets ∧ (seeSafety s input active).pins = s.pins ∧
    (seeSafety s input active).config = s.config ∧ (seeSafety s input active).receiver = s.receiver ∧
    (seeSafety s input active).cooling = s.cooling ∧ (seeSafety s input active).wind = s.wind := by
  unfold seeSafety; (repeat' split) <;> simp

@[simp] theorem safetyInputChange_frame (s : State) (input : SafetyInput) (active : Bool) :
    (safetyInputChange s input active).pending = s.pending ∧ (safetyInputChange s input active).now = s.now ∧
    (safetyInputChange s input active).resets = s.resets ∧ (safetyInputChange s input active).config = s.config ∧
    (safetyInputChange s input active).receiver = s.receiver ∧
    (safetyInputChange s input active).cooling = s.cooling ∧ (safetyInputChange s input active).wind = s.wind := by
  unfold safetyInputChange; (repeat' split) <;> simp

@[simp] theorem clearTaken_frame (s : State) :
    (clearTaken s).pending = s.pending ∧ (clearTaken s).now = s.now ∧ (clearTaken s).resets = s.resets ∧
    (clearTaken s).pins = s.pins ∧ (clearTaken s).config = s.config ∧ (clearTaken s).receiver = s.receiver ∧
    (clearTaken s).link = s.link ∧ (clearTaken s).quiet = s.quiet ∧ (clearTaken s).cadence = s.cadence ∧
    (clearTaken s).table = s.table ∧ (clearTaken s).allotment = s.allotment ∧ (clearTaken s).thread = s.thread ∧
    (clearTaken s).cooling = s.cooling ∧ (clearTaken s).wind = s.wind ∧ (clearTaken s).yaw = s.yaw ∧
    (clearTaken s).log = s.log := by
  unfold clearTaken; (repeat' split) <;> simp

@[simp] theorem removeEnded_frame (s : State) :
    (removeEnded s).pending = s.pending ∧ (removeEnded s).now = s.now ∧ (removeEnded s).resets = s.resets ∧
    (removeEnded s).pins = s.pins ∧ (removeEnded s).config = s.config ∧ (removeEnded s).receiver = s.receiver ∧
    (removeEnded s).link = s.link ∧ (removeEnded s).quiet = s.quiet ∧ (removeEnded s).cadence = s.cadence ∧
    (removeEnded s).table = s.table ∧ (removeEnded s).allotment = s.allotment ∧ (removeEnded s).thread = s.thread ∧
    (removeEnded s).cooling = s.cooling ∧ (removeEnded s).wind = s.wind ∧ (removeEnded s).yaw = s.yaw ∧
    (removeEnded s).log = s.log := by
  unfold removeEnded; (repeat' split) <;> simp

@[simp] theorem releaseThread_frame (s : State) :
    (releaseThread s).pending = s.pending ∧ (releaseThread s).now = s.now ∧ (releaseThread s).resets = s.resets ∧
    (releaseThread s).pins = s.pins ∧ (releaseThread s).config = s.config ∧ (releaseThread s).receiver = s.receiver ∧
    (releaseThread s).link = s.link ∧ (releaseThread s).quiet = s.quiet ∧ (releaseThread s).cadence = s.cadence ∧
    (releaseThread s).allotment = s.allotment ∧ (releaseThread s).cooling = s.cooling ∧
    (releaseThread s).wind = s.wind ∧ (releaseThread s).yaw = s.yaw := by
  unfold releaseThread; (repeat' split) <;> simp

@[simp] theorem faultEvaluation_frame (s : State) :
    (faultEvaluation s).pending = s.pending ∧ (faultEvaluation s).now = s.now ∧
    (faultEvaluation s).resets = s.resets ∧ (faultEvaluation s).pins = s.pins ∧
    (faultEvaluation s).config = s.config ∧ (faultEvaluation s).receiver = s.receiver ∧
    (faultEvaluation s).link = s.link ∧ (faultEvaluation s).quiet = s.quiet ∧
    (faultEvaluation s).cadence = s.cadence ∧ (faultEvaluation s).allotment = s.allotment ∧
    (faultEvaluation s).cooling = s.cooling ∧ (faultEvaluation s).wind = s.wind ∧
    (faultEvaluation s).yaw = s.yaw := by
  unfold faultEvaluation; (repeat' split) <;> simp

@[simp] theorem ackLapse_frame (s : State) :
    (ackLapse s).pending = s.pending ∧ (ackLapse s).now = s.now ∧ (ackLapse s).resets = s.resets ∧
    (ackLapse s).pins = s.pins ∧ (ackLapse s).config = s.config ∧ (ackLapse s).receiver = s.receiver ∧
    (ackLapse s).link = s.link ∧ (ackLapse s).quiet = s.quiet ∧ (ackLapse s).cadence = s.cadence ∧
    (ackLapse s).table = s.table ∧ (ackLapse s).allotment = s.allotment ∧ (ackLapse s).thread = s.thread ∧
    (ackLapse s).cooling = s.cooling ∧ (ackLapse s).wind = s.wind ∧ (ackLapse s).yaw = s.yaw := by
  unfold ackLapse; (repeat' split) <;> simp

@[simp] theorem takeLogRequest_frame (s : State) (target fromSequence count : Nat) :
    (takeLogRequest s target fromSequence count).pending = s.pending ∧
    (takeLogRequest s target fromSequence count).now = s.now ∧
    (takeLogRequest s target fromSequence count).resets = s.resets ∧
    (takeLogRequest s target fromSequence count).pins = s.pins ∧
    (takeLogRequest s target fromSequence count).config = s.config ∧
    (takeLogRequest s target fromSequence count).receiver = s.receiver ∧
    (takeLogRequest s target fromSequence count).link = s.link ∧
    (takeLogRequest s target fromSequence count).quiet = s.quiet ∧
    (takeLogRequest s target fromSequence count).cadence = s.cadence ∧
    (takeLogRequest s target fromSequence count).table = s.table ∧
    (takeLogRequest s target fromSequence count).allotment = s.allotment ∧
    (takeLogRequest s target fromSequence count).thread = s.thread ∧
    (takeLogRequest s target fromSequence count).cooling = s.cooling ∧
    (takeLogRequest s target fromSequence count).wind = s.wind ∧
    (takeLogRequest s target fromSequence count).yaw = s.yaw ∧
    (takeLogRequest s target fromSequence count).fault = s.fault := by
  unfold takeLogRequest; (repeat' split) <;> simp

@[simp] theorem offerLogEntry_frame (s : State) :
    (offerLogEntry s).pending = s.pending ∧ (offerLogEntry s).now = s.now ∧ (offerLogEntry s).resets = s.resets ∧
    (offerLogEntry s).pins = s.pins ∧ (offerLogEntry s).config = s.config ∧ (offerLogEntry s).receiver = s.receiver ∧
    (offerLogEntry s).quiet = s.quiet ∧ (offerLogEntry s).cadence = s.cadence ∧ (offerLogEntry s).table = s.table ∧
    (offerLogEntry s).allotment = s.allotment ∧ (offerLogEntry s).thread = s.thread ∧
    (offerLogEntry s).cooling = s.cooling ∧ (offerLogEntry s).wind = s.wind ∧ (offerLogEntry s).yaw = s.yaw ∧
    (offerLogEntry s).fault = s.fault := by
  unfold offerLogEntry; (repeat' split) <;> simp

@[simp] theorem logEntryOffer_frame (s : State) :
    (logEntryOffer s).pending = s.pending ∧ (logEntryOffer s).now = s.now ∧ (logEntryOffer s).resets = s.resets ∧
    (logEntryOffer s).pins = s.pins ∧ (logEntryOffer s).config = s.config ∧ (logEntryOffer s).receiver = s.receiver ∧
    (logEntryOffer s).quiet = s.quiet ∧ (logEntryOffer s).cadence = s.cadence ∧ (logEntryOffer s).table = s.table ∧
    (logEntryOffer s).allotment = s.allotment ∧ (logEntryOffer s).thread = s.thread ∧
    (logEntryOffer s).cooling = s.cooling ∧ (logEntryOffer s).wind = s.wind ∧ (logEntryOffer s).yaw = s.yaw ∧
    (logEntryOffer s).fault = s.fault := by
  simp [logEntryOffer]

@[simp] theorem takeQuietOrder_frame (s : State) (interval wakePeriod : Nat) :
    (takeQuietOrder s interval wakePeriod).pending = s.pending ∧ (takeQuietOrder s interval wakePeriod).now = s.now ∧
    (takeQuietOrder s interval wakePeriod).resets = s.resets ∧ (takeQuietOrder s interval wakePeriod).pins = s.pins ∧
    (takeQuietOrder s interval wakePeriod).config = s.config ∧
    (takeQuietOrder s interval wakePeriod).receiver = s.receiver ∧
    (takeQuietOrder s interval wakePeriod).link = s.link ∧ (takeQuietOrder s interval wakePeriod).table = s.table ∧
    (takeQuietOrder s interval wakePeriod).allotment = s.allotment ∧
    (takeQuietOrder s interval wakePeriod).cooling = s.cooling ∧
    (takeQuietOrder s interval wakePeriod).wind = s.wind ∧ (takeQuietOrder s interval wakePeriod).yaw = s.yaw ∧
    (takeQuietOrder s interval wakePeriod).fault = s.fault ∧ (takeQuietOrder s interval wakePeriod).log = s.log := by
  unfold takeQuietOrder; (repeat' split) <;> simp

@[simp] theorem entryIntoQuiet_frame (s : State) :
    (entryIntoQuiet s).pending = s.pending ∧ (entryIntoQuiet s).now = s.now ∧ (entryIntoQuiet s).resets = s.resets ∧
    (entryIntoQuiet s).pins = s.pins ∧ (entryIntoQuiet s).config = s.config ∧
    (entryIntoQuiet s).receiver = s.receiver ∧ (entryIntoQuiet s).link = s.link ∧ (entryIntoQuiet s).table = s.table ∧
    (entryIntoQuiet s).allotment = s.allotment ∧ (entryIntoQuiet s).cooling = s.cooling ∧
    (entryIntoQuiet s).wind = s.wind ∧ (entryIntoQuiet s).yaw = s.yaw ∧ (entryIntoQuiet s).fault = s.fault ∧
    (entryIntoQuiet s).log = s.log := by
  unfold entryIntoQuiet; (repeat' split) <;> simp

@[simp] theorem standForMark_frame (s : State) (c : WakeCall) :
    (standForMark s c).pending = s.pending ∧ (standForMark s c).now = s.now ∧ (standForMark s c).resets = s.resets ∧
    (standForMark s c).pins = s.pins ∧ (standForMark s c).config = s.config ∧
    (standForMark s c).receiver = s.receiver ∧ (standForMark s c).link = s.link ∧
    (standForMark s c).allotment = s.allotment ∧ (standForMark s c).cooling = s.cooling ∧
    (standForMark s c).wind = s.wind ∧ (standForMark s c).yaw = s.yaw ∧ (standForMark s c).fault = s.fault ∧
    (standForMark s c).log = s.log := by
  unfold standForMark; (repeat' split) <;> simp

@[simp] theorem callMarkDue_frame (s : State) (c : WakeCall) (lineIdle : Bool) :
    (callMarkDue s c lineIdle).pending = s.pending ∧ (callMarkDue s c lineIdle).now = s.now ∧
    (callMarkDue s c lineIdle).resets = s.resets ∧ (callMarkDue s c lineIdle).pins = s.pins ∧
    (callMarkDue s c lineIdle).config = s.config ∧ (callMarkDue s c lineIdle).receiver = s.receiver ∧
    (callMarkDue s c lineIdle).allotment = s.allotment ∧ (callMarkDue s c lineIdle).cooling = s.cooling ∧
    (callMarkDue s c lineIdle).wind = s.wind ∧ (callMarkDue s c lineIdle).yaw = s.yaw ∧
    (callMarkDue s c lineIdle).fault = s.fault ∧ (callMarkDue s c lineIdle).log = s.log := by
  unfold callMarkDue; (repeat' split) <;> simp

@[simp] theorem wakeCallMark_frame (s : State) (lineDominant : Bool) :
    (wakeCallMark s lineDominant).pending = s.pending ∧ (wakeCallMark s lineDominant).now = s.now ∧
    (wakeCallMark s lineDominant).resets = s.resets ∧ (wakeCallMark s lineDominant).pins = s.pins ∧
    (wakeCallMark s lineDominant).config = s.config ∧ (wakeCallMark s lineDominant).receiver = s.receiver ∧
    (wakeCallMark s lineDominant).allotment = s.allotment ∧ (wakeCallMark s lineDominant).cooling = s.cooling ∧
    (wakeCallMark s lineDominant).wind = s.wind ∧ (wakeCallMark s lineDominant).yaw = s.yaw ∧
    (wakeCallMark s lineDominant).fault = s.fault ∧ (wakeCallMark s lineDominant).log = s.log := by
  unfold wakeCallMark; (repeat' split) <;> simp

@[simp] theorem wakeCallGiveUp_frame (s : State) :
    (wakeCallGiveUp s).pending = s.pending ∧ (wakeCallGiveUp s).now = s.now ∧ (wakeCallGiveUp s).resets = s.resets ∧
    (wakeCallGiveUp s).pins = s.pins ∧ (wakeCallGiveUp s).config = s.config ∧
    (wakeCallGiveUp s).receiver = s.receiver ∧ (wakeCallGiveUp s).link = s.link ∧
    (wakeCallGiveUp s).allotment = s.allotment ∧ (wakeCallGiveUp s).cooling = s.cooling ∧
    (wakeCallGiveUp s).wind = s.wind ∧ (wakeCallGiveUp s).yaw = s.yaw ∧ (wakeCallGiveUp s).fault = s.fault ∧
    (wakeCallGiveUp s).log = s.log := by
  unfold wakeCallGiveUp; (repeat' split) <;> simp

@[simp] theorem callHearsMark_frame (s : State) (c : WakeCall) :
    (callHearsMark s c).pending = s.pending ∧ (callHearsMark s c).now = s.now ∧
    (callHearsMark s c).resets = s.resets ∧ (callHearsMark s c).pins = s.pins ∧
    (callHearsMark s c).config = s.config ∧ (callHearsMark s c).receiver = s.receiver ∧
    (callHearsMark s c).link = s.link ∧ (callHearsMark s c).allotment = s.allotment ∧
    (callHearsMark s c).cooling = s.cooling ∧ (callHearsMark s c).wind = s.wind ∧ (callHearsMark s c).yaw = s.yaw ∧
    (callHearsMark s c).fault = s.fault ∧ (callHearsMark s c).log = s.log := by
  unfold callHearsMark; (repeat' split) <;> simp

@[simp] theorem ownMarkEnds_frame (s : State) :
    (ownMarkEnds s).pending = s.pending ∧ (ownMarkEnds s).now = s.now ∧ (ownMarkEnds s).resets = s.resets ∧
    (ownMarkEnds s).pins = s.pins ∧ (ownMarkEnds s).config = s.config ∧ (ownMarkEnds s).receiver = s.receiver ∧
    (ownMarkEnds s).link = s.link ∧ (ownMarkEnds s).allotment = s.allotment ∧ (ownMarkEnds s).cooling = s.cooling ∧
    (ownMarkEnds s).wind = s.wind ∧ (ownMarkEnds s).yaw = s.yaw ∧ (ownMarkEnds s).fault = s.fault ∧
    (ownMarkEnds s).log = s.log := by
  unfold ownMarkEnds; (repeat' split) <;> simp

@[simp] theorem wakeTimerExpiry_frame (s : State) :
    (wakeTimerExpiry s).pending = s.pending ∧ (wakeTimerExpiry s).now = s.now ∧
    (wakeTimerExpiry s).resets = s.resets ∧ (wakeTimerExpiry s).pins = s.pins ∧
    (wakeTimerExpiry s).config = s.config ∧ (wakeTimerExpiry s).receiver = s.receiver ∧
    (wakeTimerExpiry s).link = s.link ∧ (wakeTimerExpiry s).allotment = s.allotment ∧
    (wakeTimerExpiry s).cooling = s.cooling ∧ (wakeTimerExpiry s).wind = s.wind ∧ (wakeTimerExpiry s).yaw = s.yaw ∧
    (wakeTimerExpiry s).fault = s.fault ∧ (wakeTimerExpiry s).log = s.log := by
  unfold wakeTimerExpiry; (repeat' split) <;> simp

@[simp] theorem receiveRun_frame (s : State) (c : RunClass) (start : Nat) :
    (receiveRun s c start).pending = s.pending ∧ (receiveRun s c start).now = s.now ∧
    (receiveRun s c start).resets = s.resets ∧ (receiveRun s c start).pins = s.pins ∧
    (receiveRun s c start).config = s.config ∧ (receiveRun s c start).cooling = s.cooling ∧
    (receiveRun s c start).wind = s.wind := by
  unfold receiveRun; dsimp only; (repeat' split) <;> simp

@[simp] theorem endOwnMark_frame (s : State) :
    (endOwnMark s).pending = s.pending ∧ (endOwnMark s).now = s.now ∧ (endOwnMark s).resets = s.resets ∧
    (endOwnMark s).pins = s.pins ∧ (endOwnMark s).config = s.config ∧ (endOwnMark s).receiver = s.receiver ∧
    (endOwnMark s).allotment = s.allotment ∧ (endOwnMark s).cooling = s.cooling ∧ (endOwnMark s).wind = s.wind ∧
    (endOwnMark s).yaw = s.yaw ∧ (endOwnMark s).fault = s.fault ∧ (endOwnMark s).log = s.log := by
  simp [endOwnMark]

@[simp] theorem addressClash_frame (s : State) :
    (addressClash s).pending = s.pending ∧ (addressClash s).now = s.now ∧ (addressClash s).resets = s.resets ∧
    (addressClash s).pins = s.pins ∧ (addressClash s).config = s.config ∧ (addressClash s).receiver = s.receiver ∧
    (addressClash s).cooling = s.cooling ∧ (addressClash s).wind = s.wind := by
  simp [addressClash]

@[simp] theorem countCorrection_frame (corrected : Bool) (s : State) :
    (countCorrection corrected s).pending = s.pending ∧ (countCorrection corrected s).now = s.now ∧
    (countCorrection corrected s).resets = s.resets ∧ (countCorrection corrected s).pins = s.pins ∧
    (countCorrection corrected s).config = s.config ∧ (countCorrection corrected s).receiver = s.receiver ∧
    (countCorrection corrected s).quiet = s.quiet ∧ (countCorrection corrected s).cadence = s.cadence ∧
    (countCorrection corrected s).table = s.table ∧ (countCorrection corrected s).allotment = s.allotment ∧
    (countCorrection corrected s).thread = s.thread ∧ (countCorrection corrected s).cooling = s.cooling ∧
    (countCorrection corrected s).wind = s.wind ∧ (countCorrection corrected s).yaw = s.yaw ∧
    (countCorrection corrected s).fault = s.fault ∧ (countCorrection corrected s).log = s.log := by
  unfold countCorrection; (repeat' split) <;> simp

@[simp] theorem errorWindowEnd_frame (s : State) :
    (errorWindowEnd s).pending = s.pending ∧ (errorWindowEnd s).now = s.now ∧ (errorWindowEnd s).resets = s.resets ∧
    (errorWindowEnd s).pins = s.pins ∧ (errorWindowEnd s).config = s.config ∧
    (errorWindowEnd s).receiver = s.receiver ∧ (errorWindowEnd s).quiet = s.quiet ∧
    (errorWindowEnd s).cadence = s.cadence ∧ (errorWindowEnd s).table = s.table ∧
    (errorWindowEnd s).allotment = s.allotment ∧ (errorWindowEnd s).thread = s.thread ∧
    (errorWindowEnd s).cooling = s.cooling ∧ (errorWindowEnd s).wind = s.wind ∧ (errorWindowEnd s).yaw = s.yaw ∧
    (errorWindowEnd s).fault = s.fault ∧ (errorWindowEnd s).log = s.log := by
  unfold errorWindowEnd; (repeat' split) <;> simp

@[simp] theorem transmitStart_frame (s : State) (lineDominant : Bool) :
    (transmitStart s lineDominant).pending = s.pending ∧ (transmitStart s lineDominant).now = s.now ∧
    (transmitStart s lineDominant).resets = s.resets ∧ (transmitStart s lineDominant).pins = s.pins ∧
    (transmitStart s lineDominant).config = s.config ∧ (transmitStart s lineDominant).quiet = s.quiet ∧
    (transmitStart s lineDominant).cadence = s.cadence ∧ (transmitStart s lineDominant).table = s.table ∧
    (transmitStart s lineDominant).allotment = s.allotment ∧ (transmitStart s lineDominant).thread = s.thread ∧
    (transmitStart s lineDominant).cooling = s.cooling ∧ (transmitStart s lineDominant).wind = s.wind ∧
    (transmitStart s lineDominant).yaw = s.yaw ∧ (transmitStart s lineDominant).fault = s.fault ∧
    (transmitStart s lineDominant).log = s.log := by
  unfold transmitStart; (repeat' split) <;> simp

@[simp] theorem frameLeft_frame (s : State) :
    (frameLeft s).pending = s.pending ∧ (frameLeft s).now = s.now ∧ (frameLeft s).resets = s.resets ∧
    (frameLeft s).pins = s.pins ∧ (frameLeft s).config = s.config ∧ (frameLeft s).receiver = s.receiver ∧
    (frameLeft s).table = s.table ∧ (frameLeft s).allotment = s.allotment ∧ (frameLeft s).cooling = s.cooling ∧
    (frameLeft s).wind = s.wind ∧ (frameLeft s).yaw = s.yaw ∧ (frameLeft s).fault = s.fault := by
  simp [frameLeft]

@[simp] theorem resetRelease_frame (s : State) (lines : ResetLines) :
    (resetRelease s lines).pending = s.pending ∧ (resetRelease s lines).pins = s.pins := by
  unfold resetRelease; (repeat' split) <;> simp

@[simp] theorem seePin_frame (input : SafetyInput) (s : State) :
    (seePin input s).pending = s.pending ∧ (seePin input s).now = s.now ∧ (seePin input s).resets = s.resets ∧
    (seePin input s).pins = s.pins ∧ (seePin input s).config = s.config ∧ (seePin input s).receiver = s.receiver ∧
    (seePin input s).cooling = s.cooling ∧ (seePin input s).wind = s.wind := by
  unfold seePin; (repeat' split) <;> simp

end Sys2Proof.Machine
end

