-- ==== Sys2Proof/Laws/Ops.lean ====
section
/-!
SUPPORT. One lemma for each shared operation that says once what it can do: the log (R166), the queue (R13 to R17), the cause set
(R152, R153), trips (R94), reports (R151), the quiet state (R175 to R181), the yaw state (R126), and the receiver (R3).
-/
namespace Sys2Proof.Machine

/-! ## The fault log -/

theorem FaultLog.enter_full (l : FaultLog) (now origin cls code severity action : Nat) (d : Option Int)
    (n : Option Nat) (h : Config.lastSequence ≤ l.newest) : l.enter now origin cls code severity action d n = l := by
  simp [FaultLog.enter, h]

/-- Below the last sequence number a record is entered, and it is the newest. -/
theorem FaultLog.enter_newest (l : FaultLog) (now origin cls code severity action : Nat) (d : Option Int)
    (n : Option Nat) (h : l.newest < Config.lastSequence) :
    (l.enter now origin cls code severity action d n).newest = l.newest + 1 ∧
    (l.enter now origin cls code severity action d n).records.getLast? = some
      { sequence := l.newest + 1, stamp := millisecondCount now, origin := origin, cls := cls, code := code,
        severity := severity, action := action, detail := d, noticeNumber := n } := by
  unfold FaultLog.enter
  rw [if_neg (Nat.not_le.mpr h)]
  dsimp only
  split <;> simp

/-- With room in the log nothing is overwritten. -/
theorem FaultLog.enter_records (l : FaultLog) (now origin cls code severity action : Nat) (d : Option Int)
    (n : Option Nat) (h : l.newest < Config.lastSequence) (room : l.records.length < Config.logSize) :
    (l.enter now origin cls code severity action d n).records = l.records ++
      [{ sequence := l.newest + 1, stamp := millisecondCount now, origin := origin, cls := cls, code := code,
         severity := severity, action := action, detail := d, noticeNumber := n }] := by
  unfold FaultLog.enter
  rw [if_neg (Nat.not_le.mpr h), if_neg (Nat.not_le.mpr room)]

@[simp] theorem FaultLog.enter_cursor (l : FaultLog) (now origin cls code severity action : Nat) (d : Option Int)
    (n : Option Nat) : (l.enter now origin cls code severity action d n).cursor = l.cursor := by
  unfold FaultLog.enter; repeat' split
  all_goals rfl

/-- Entering a record keeps the sequence numbers of the log consecutive. -/
theorem FaultLog.enter_consecutive (l : FaultLog) (now origin cls code severity action : Nat) (d : Option Int)
    (n : Option Nat) (h : l.Consecutive) : (l.enter now origin cls code severity action d n).Consecutive := by
  obtain ⟨h1, h2, h3, h4⟩ := h
  unfold FaultLog.enter
  by_cases full : Config.lastSequence ≤ l.newest
  · rw [if_pos full]; exact ⟨h1, h2, h3, h4⟩
  rw [if_neg full]
  dsimp only
  split
  · rename_i full64
    cases hr : l.records with
    | nil => rw [hr] at full64; simp at full64
    | cons r rest =>
      rw [hr] at h1 h2 h4 full64
      simp only [List.length_cons, List.map_cons, List.range'_succ, List.cons.injEq] at h1 h2 h4 full64
      refine ⟨?_, ?_, ?_, ?_⟩
      · simpa using h1
      · simp; omega
      · dsimp only; omega
      · simp only [List.drop_succ_cons, List.drop_zero, List.map_append, h4.2, List.map_cons, List.map_nil,
          List.length_append, List.length_cons, List.length_nil, List.range'_concat]
        congr 2; omega
  · rename_i room
    refine ⟨?_, ?_, ?_, ?_⟩
    · simp; omega
    · simp; omega
    · dsimp only; omega
    · simp only [List.map_append, h4, List.map_cons, List.map_nil, List.length_append, List.length_cons,
        List.length_nil, List.range'_concat]
      congr 2; omega

/-! ## The transmit queue -/

@[simp] theorem insertSlot_length (own : Nat) (f : Frame) (q : List Slot) :
    (insertSlot own f q).length = q.length + 1 := by
  induction q with
  | nil => rfl
  | cons x rest ih => unfold insertSlot; split <;> simp [ih]

theorem mem_insertSlot (own : Nat) (f : Frame) (q : List Slot) (y : Slot) :
    y ∈ insertSlot own f q ↔ y = { frame := f, onLine := false } ∨ y ∈ q := by
  induction q with
  | nil => simp [insertSlot]
  | cons x rest ih =>
    unfold insertSlot
    split
    · simp only [List.mem_cons, ih]; tauto
    · simp only [List.mem_cons]

/-- A frame put into a queue in order of precedence leaves it so. -/
theorem insertSlot_sorted (own : Nat) (f : Frame) (q : List Slot)
    (h : (q.map (fun x => x.frame.precedence own)).Pairwise (· ≤ ·)) :
    ((insertSlot own f q).map (fun x => x.frame.precedence own)).Pairwise (· ≤ ·) := by
  induction q with
  | nil => simp [insertSlot]
  | cons x rest ih =>
    simp only [List.map_cons, List.pairwise_cons, List.mem_map, forall_exists_index, and_imp,
      forall_apply_eq_imp_iff₂] at h
    unfold insertSlot
    split
    · rename_i le
      simp only [List.map_cons, List.pairwise_cons, List.mem_map, forall_exists_index, and_imp,
        forall_apply_eq_imp_iff₂, mem_insertSlot]
      exact ⟨fun y hy => hy.elim (fun e => e ▸ le) (h.1 y), ih h.2⟩
    · rename_i gt
      simp only [List.map_cons, List.pairwise_cons, List.mem_cons, List.mem_map, forall_eq_or_imp,
        forall_exists_index, and_imp, forall_apply_eq_imp_iff₂]
      exact ⟨⟨by omega, fun y hy => by have := h.1 y hy; omega⟩, h.1, h.2⟩

/-- A notice that finds a free slot takes the next number and enters. -/
theorem offerNotice_room (s : State) (cls code severity action : Nat) (detail : Int) (open' : s.takesOffers = true)
    (room : s.link.queue.length < Config.queueSlots) :
    offerNotice s cls code severity action detail = { s with link := { s.link.lose 0 with
      noticeCounter := (s.link.noticeCounter + 1) % 65536,
      queue := insertSlot s.own (.faultNotice
        { number := (s.link.noticeCounter + 1) % 65536, cls := cls, code := code, severity := severity,
          action := action, detail := detail, logSequence := s.log.newest % 65536 }) s.link.queue } } := by
  simp [offerNotice, open', roomForUrgent, room]

/-- A station that takes no offers is left as it is by each of them. -/
theorem offer_closed (s : State) (h : s.takesOffers = false) :
    (∀ f, offerYaw s f = s) ∧ (∀ r, offerStatus s r = s) ∧
    (∀ cls code severity action detail, offerNotice s cls code severity action detail = s) := by
  simp [offerYaw, offerStatus, offerNotice, h]

/-! ## The cause set -/

theorem holdsCause_addCause (s : State) (cls code : Nat) : (addCause s cls code).holdsCause cls code = true := by
  simp only [State.holdsCause, addCause]
  induction s.fault.causes with
  | nil => simp [addCauseTo]
  | cons c rest ih =>
    unfold addCauseTo
    split
    · rename_i hc; split <;> simp [hc]
    · simp [ih]

/-- Adding a cause leaves every other cause held. -/
theorem holdsCause_of_addCause (s : State) (cls code cls' code' : Nat) (h : s.holdsCause cls' code' = true) :
    (addCause s cls code).holdsCause cls' code' = true := by
  simp only [State.holdsCause, addCause] at h ⊢
  generalize s.fault.causes = cs at h
  induction cs with
  | nil => simp at h
  | cons c rest ih =>
    simp only [List.any_cons, Bool.or_eq_true] at h
    unfold addCauseTo
    split
    · split <;> simpa using h
    · simp only [List.any_cons, Bool.or_eq_true]
      exact h.imp id ih

/-! ## Trips -/

@[simp] theorem tripThread_state (s : State) : (tripThread s).thread.state = .tripped := by
  by_cases h : s.thread.state = .tripped <;> simp [tripThread, setThread, markChange, h]

/-- A trip zeroes the commands and the targets of a thread not yet TRIPPED. -/
theorem tripThread_allotment (s : State) (h : s.thread.state ≠ .tripped) :
    (tripThread s).allotment = s.allotment.zero := by
  simp [tripThread, h]

/-- R93: a trip starts the breaker-open time. -/
theorem tripThread_breakerOpenTimer (s : State) (h : s.thread.state ≠ .tripped) :
    (tripThread s).thread.breakerOpenTimer = some s.now := by
  simp [tripThread, h, setThread, markChange]

/-- A thread already TRIPPED is not touched by a trip. -/
theorem tripThread_tripped (s : State) (h : s.thread.state = .tripped) : tripThread s = s := by
  simp [tripThread, h]

/-! ## The quiet state -/

@[simp] theorem wakeCause_active (s : State) (h : s.quiet.state = .active) : wakeCause s = s := by
  simp [wakeCause, h]

theorem wakeCause_ofPending (s : State) (h : s.quiet.state = .pending) :
    wakeCause s = { s with quiet := { s.quiet with state := .active } } := by
  simp [wakeCause, h]

/-- R177, R178, R181: all a wake cause can do, by the quiet state it finds. -/
theorem wakeCause_taken (s : State) : s.WakeTaken (wakeCause s) := by
  refine ⟨fun h => ?_, fun h => ?_, fun h silent => ?_, fun h heard => ⟨?_, fun call => ?_, fun none late => ?_, ?_⟩⟩
  · simp [wakeCause, h]
  · simp [wakeCause, h]
  · simp [wakeCause, h, silent, returnToActive]
  · simp only [wakeCause, h, heard, if_false]; split <;> rfl
  · simp [wakeCause, h, heard, call]
  · simp only [wakeCause, h, heard, if_false, none, Option.isSome_none, Bool.false_eq_true, startCall]
    cases mark : s.quiet.lastMark with
    | none => rfl
    | some m => have := late m mark; dsimp only; rw [if_neg (by omega)]
  · intro m none mark soon
    simp only [wakeCause, h, heard, if_false, none, Option.isSome_none, Bool.false_eq_true, startCall, mark, soon, if_true]
    rfl

@[simp] theorem quietTest_active (s : State) (h : s.quiet.state = .active) : quietTest s = s := by
  simp [quietTest, h]

/-! ## Reports -/

/-- What a WARN does in ACTIVE while the queue takes it: a record, a notice, and nothing else. -/
theorem reportFault_warn (s : State) (cls code : Nat) (detail : Int) (can : s.CanReport)
    (open' : s.takesOffers = true) :
    reportFault s cls code .warn detail = { s with
      log := s.log.enter s.now s.own cls code 1 (reportAction s cls code .warn).code (some detail) none,
      link := { s.link.lose 0 with
        noticeCounter := (s.link.noticeCounter + 1) % 65536,
        queue := insertSlot s.own (.faultNotice
          { number := (s.link.noticeCounter + 1) % 65536, cls := cls, code := code, severity := 1,
            action := (reportAction s cls code .warn).code, detail := detail,
            logSequence := (s.log.enter s.now s.own cls code 1 (reportAction s cls code .warn).code (some detail)
              none).newest % 65536 }) s.link.queue } } := by
  obtain ⟨-, room, active⟩ := can
  simp only [reportFault, takeReport, Severity.trips, Bool.false_eq_true, false_and, if_false, reduceCtorEq,
    Severity.code]
  rw [offerNotice_room (enterRecord s s.own cls code 1 _ (some detail) none) cls code 1 _ detail open' room,
    wakeCause_active]
  · rfl
  · exact active

/-- A trip keeps the cause set it finds. -/
theorem holdsCause_tripThread (s : State) (cls code : Nat) :
    (tripThread s).holdsCause cls code = s.holdsCause cls code := by
  simp [State.holdsCause]

/-- What a TRIP_THREAD report does in ACTIVE while the queue takes it, but for LINK 1, which silences. -/
theorem reportFault_tripThread (s : State) (cls code : Nat) (detail : Int) (can : s.CanReport)
    (open' : s.takesOffers = true) (apart : barsSession cls code = false) (link : ¬(cls = clsLink ∧ code = 1)) :
    s.Tripped (reportFault s cls code .tripThread detail) cls code detail := by
  obtain ⟨below, room, active⟩ := can
  have room' : (enterRecord (tripThread (addCause s cls code)) (tripThread (addCause s cls code)).own cls code Severity.tripThread.code
      (reportAction s cls code .tripThread).code (some detail) none).link.queue.length < Config.queueSlots := by
    simpa using room
  have own : (tripThread (addCause s cls code)).own = s.own := by simp [State.own, State.cfg]
  simp only [reportFault, takeReport, apart, Severity.trips, Bool.false_eq_true, and_false, false_and, if_false, if_true,
    reduceCtorEq]
  rw [offerNotice_room _ _ _ _ _ _ (by simpa [State.takesOffers] using open') room',
    wakeCause_active _ (by simpa using active)]
  have ent := FaultLog.enter_newest s.log s.now s.own cls code Severity.tripThread.code
    (reportAction s cls code .tripThread).code (some detail) none below
  refine ⟨?_, ?_, ?_, ?_, ?_, ?_, ?_⟩
  · simp
  · simp [State.tripLine]
  · have := holdsCause_addCause s cls code
    simpa [State.holdsCause] using this
  · intro h
    have h' : (addCause s cls code).thread.state ≠ .tripped := by simpa using h
    simp [enterRecord, tripThread_breakerOpenTimer _ h']
  · by_cases h : s.thread.state = .tripped
    · have h' : (addCause s cls code).thread.state = .tripped := by simpa using h
      simp [enterRecord, tripThread_tripped _ h']
    · have h' : (addCause s cls code).thread.state ≠ .tripped := by simpa using h
      simp [enterRecord, tripThread_allotment _ h', AllotmentUnit.zero]
  · intro h
    have h' : (addCause s cls code).thread.state ≠ .tripped := by simpa using h
    simp [enterRecord, tripThread_allotment _ h', AllotmentUnit.zero]
  · have act : (reportAction s cls code .tripThread).code =
        if s.thread.state = .tripped then FaultAction.none.code else FaultAction.threadTripped.code := by
      simp only [reportAction, link, if_false]; split <;> rfl
    rw [← act]
    simpa [State.Logged, enterRecord, own] using ent

/-! ## The receiver and the idle line -/

/-- A timer has reached a limit exactly when it runs and that much has passed. -/
theorem Timer.reached_iff (t : Timer) (now limit : Nat) : t.reached now limit = true ↔ ∃ t0, t = some t0 ∧ t0 + limit ≤ now := by
  cases t <;> simp [Timer.reached]

/-- R3: the line is idle once it has been recessive for 12 bit times of 4 clock steps. -/
theorem Receiver.idleAt_iff (r : Receiver) (moment : Nat) :
    r.idleAt moment = true ↔ ∃ t0, r.recessiveSince = some t0 ∧ t0 + 48 ≤ moment := Timer.reached_iff _ _ _

/-- R3, R11: the line is idle now. -/
theorem State.lineIdle_iff (s : State) (lineDominant : Bool) :
    s.lineIdle lineDominant = true ↔ lineDominant = false ∧ s.link.ownMark = none ∧
      ∃ t0, s.receiver.recessiveSince = some t0 ∧ t0 + 48 ≤ s.now := by
  simp [State.lineIdle, Receiver.idleAt_iff, and_assoc]

/-- R9, R12: a reception is taken through the checks. -/
theorem State.receives_iff (s : State) : s.receives = true ↔ s.receiver.phase = .receiving ∧ s.sending = false := by
  simp [State.receives]

/-- R12, R18: without a reception in hand, or with a frame of the station's own on the line, no frame is received. -/
theorem frameReceived_ignored (s : State) (levels : List Level) (h : s.receives = false) : frameReceived s levels = s := by
  simp [frameReceived, h]

/-- R9: with a reception in hand a frame is taken by how its checks end. -/
theorem frameReceived_taken (s : State) (levels : List Level) (on : s.running = true) (h : s.receives = true) :
    frameReceived s levels = endReception (countCorrection (receive levels).1 (leaveReception (receive levels).2 s))
      (receive levels).2 := by
  simp [frameReceived, on, h]

/-- R3: a frame taken whole leaves the receiver waiting for idle. -/
theorem leaveReception_good (s : State) (sender : Nat) (f : Frame) : leaveReception (.good sender f) s = s.received := rfl

/-- R2, R3: a run leaves the receiver by its class and the phase it began in, and is counted once where it breaks. -/
theorem receiveRun_cases (s : State) (c : RunClass) (start : Nat) :
    let t := { s with receiver := { s.receiver with phase := phaseAfterRun c (s.phaseAt start) } }
    (runBreaks c start (s.phaseAt start) = true ∧ receiveRun s c start = countDiscard t) ∨
      (runBreaks c start (s.phaseAt start) = false ∧ receiveRun s c start = t) := by
  unfold receiveRun; dsimp only; split <;> simp_all

/-- R2, R19: a run of 16 bit times or more moves the receiver, and counts the reception it breaks; short of the report of
R20 nothing else. -/
theorem receiveRun_long (s : State) (length start : Nat) (long : 16 ≤ length)
    (few : s.phaseAt start = .receiving → s.link.windowDiscards ≠ 50) :
    receiveRun s (classifyRun length) start = { s with
      receiver := (receiveRun s (classifyRun length) start).receiver, link := s.linkAfterRun start } := by
  have runs : classifyRun length = .mark ∨ classifyRun length = .stuck := by
    unfold classifyRun; rw [if_neg (by omega), if_neg (by omega)]; split <;> simp
  have breaks : ∀ p, runBreaks (classifyRun length) start p = decide (p = .receiving) := by
    intro p; rcases runs with h | h <;> rw [h] <;> cases p <;> rfl
  rcases receiveRun_cases s (classifyRun length) start with ⟨hit, run⟩ | ⟨hit, run⟩
  · rw [breaks, decide_eq_true_eq] at hit
    rw [run]; simp only [countDiscard, few hit, if_false, State.linkAfterRun, hit, if_true]; simp [countHeld]
  · rw [breaks, decide_eq_false_iff_not] at hit
    rw [run]; simp [State.linkAfterRun, hit]

/-- R12: inside the station's own frame a run is only classified. -/
theorem receiveRun_sending (s : State) (c : RunClass) (start : Nat) (h : s.sending = true) :
    receiveRun s c start = { s with receiver := { s.receiver with phase := .abandoned } } := by
  simp [receiveRun, State.phaseAt, h, runBreaks, phaseAfterRun]

end Sys2Proof.Machine
end

