-- ==== Sys2Proof/WellFormed.lean ====
section
/-!
DEFINITION. Which commands the outside can deliver: the ranges the spec gives the operands.  `exec` is total and
does not consult this predicate; it names the operands the world of the spec can present.
-/
namespace Sys2Proof

/-- R80: the ranges of a reply's fields; the heatsink value is a signed 16-bit count of 0.1 °C. -/
def StackReply.wellFormed (r : StackReply) : Bool :=
  decide (r.number < 256) &&
  decide (-4000 ≤ r.active ∧ r.active ≤ 4000) &&
  decide (-4000 ≤ r.reactive ∧ r.reactive ≤ 4000) &&
  decide (r.dcLink ≤ 1500) && decide (r.grid ≤ 1500) &&
  decide (-32768 ≤ r.heatsink ∧ r.heatsink ≤ 32767)

/-- A sensor input gives a signed 16-bit value or reports no conversion; the marker −32768 of R100 is no
reading of a sensor. -/
def sampleWellFormed : Option Int → Bool
  | none => true
  | some v => decide (-32768 < v ∧ v ≤ 32767)

/-- Whether the outside can deliver the command. -/
def Instr.wellFormed : Instr → Bool
  | .configImageRead image => decide (image.length = 32)
  | .listenTimeout _ inlet outlet => sampleWellFormed inlet && sampleWellFormed outlet
  | .dominantRunEnd length _ => decide (1 ≤ length)
  | .frameReceived levels => decide (levels.head? = some false)
  | .transmitEnd heard => decide (heard ≠ [])
  | .stackReply r => r.wellFormed
  | .coolingEvaluation inlet outlet => sampleWellFormed inlet && sampleWellFormed outlet
  | .motorFaultInput motor _ => decide (1 ≤ motor ∧ motor ≤ 4)
  | .powerOnReset | .resetInput | .resetRelease _ | .stuckDominant _ | .errorWindowEnd
  | .transmitStart _ | .cadenceExpiry _ | .overdueMark _ | .standInPeriod | .earlyMarkWindowEnd
  | .quietExchangeTimer | .stackReplyTimeout | .prechargeTimeout | .syncTimeout | .rideThroughRecovery
  | .rideThroughTooLong | .gridHealthyTimer | .restartHoldExpiry | .ageingStep | .statusBuild
  | .tachPulse | .pwmPeriodEnd | .vaneRisingEdge | .vaneFallingEdge | .vaneWrap | .anemometerEdge
  | .windEvaluation _ | .yawCheck | .staggerExpiry | .answerWaitExpiry | .startWaitExpiry
  | .brakeFeedbackChange _ | .releaseWaitExpiry | .driveTimeExpiry | .brakeDelayExpiry
  | .applyWaitExpiry | .holdTimerExpiry | .safetyInputChange _ _ | .faultEvaluation | .ackLapse
  | .logEntryOffer | .entryIntoQuiet | .wakeCallMark _ | .wakeCallGiveUp | .wakeTimerExpiry => true

end Sys2Proof
end

