-- ==== Sys2Proof/Tests/Slice0.lean ====
section
/-!
SUPPORT. Tests: the WellFormed smoke tests, the worked examples of the spec on one command or one computation each, and for each
statement of Certificates/Slice0/Obligations.lean with hypotheses a witness, a concrete state and operands that meet them, at a
boundary of each clause.  A `witness_` theorem says only that: the hypotheses, on a small state built from `on`.
-/
open Sys2Proof Sys2Proof.Machine

namespace Sys2Proof.Tests

set_option Elab.async false


/-! ## The states of the tests -/

/-- The values of station 2 in the tests. -/
def cfg : ConfigValues where
  station := 2
  rated := 1000
  motors := 3
  isolated := false
  vane := true
  anemometer := true
  encoder := true
  role := .pump
  tachMinimum := 5
  prescaler := 4
  speedFactor := 75
  backupBudget := 6
  acceptMask := 0x04#8

/-- 250 s after the release of the last reset. -/
def clock : Nat := 10000000000

/-- Station 2, JOINED and at rest, a reception in hand, the line recessive for just 12 bit times. -/
def on : State :=
  { State.reset with
    now := clock
    config := { image := [], values := some cfg, faultOutput := false }
    receiver := { phase := .receiving, recessiveSince := some (clock - 48) }
    link := { LinkControl.initial with state := .joined }
    table := { PeerTable.initial with threads := PerThread.all Entry.initial |>.set 2 ownEntry } }

/-- The receiver of station 2 in a phase, the line recessive for `d` clock steps. -/
def rx (phase : ReceiverPhase) (d : Nat) (s : State) : State :=
  { s with receiver := { phase := phase, recessiveSince := some (clock - d) } }
def setLink (f : LinkControl → LinkControl) (s : State) : State := { s with link := f s.link }
def setQuiet (f : QuietControl → QuietControl) (s : State) : State := { s with quiet := f s.quiet }
def setCad (f : CadenceUnit → CadenceUnit) (s : State) : State := { s with cadence := f s.cadence }
def setThr (f : ThreadControl → ThreadControl) (s : State) : State := { s with thread := f s.thread }
def setYawU (f : YawControl → YawControl) (s : State) : State := { s with yaw := f s.yaw }
def setWind (f : WindUnit → WindUnit) (s : State) : State := { s with wind := f s.wind }
def setCool (f : CoolingUnit → CoolingUnit) (s : State) : State := { s with cooling := f s.cooling }
def setFault (f : FaultUnit → FaultUnit) (s : State) : State := { s with fault := f s.fault }

def inThread (x : ThreadState) : State := setThr (fun u => { u with state := x }) on
def inYaw (x : YawState) : State := setYawU (fun y => { y with state := x }) on
def inLink (x : LinkState) : State := setLink (fun l => { l with state := x }) on
def inQuiet : State := setQuiet (fun q => { q with state := .quiet }) on
def heldState : State := { on with resets := { on.resets with inputHeld := true } }

/-- A reply with nothing wrong in it. -/
def reply : StackReply where
  number := 0
  checkPassed := true
  active := 0
  reactive := 0
  dcLink := 1000
  grid := 1000
  heatsink := 300
  locked := true
  overcurrent := false
  desaturation := false
  contactorClosed := true
  breakerClosed := false

/-- An exchange outstanding since `d` clock steps, in a thread state. -/
def asked (x : ThreadState) (d : Nat) : State :=
  setThr (fun u => { u with exchange := { u.exchange with outstanding := true, begun := clock - d } }) (inThread x)

/-- A status of a peer at rest. -/
def status : StatusRecord where
  tag := 1
  nacelleTrip := false
  threadCode := 0
  capability := 1000
  yawCode := 0
  active := 0
  motorsReady := 2
  reactive := 0
  heatLoad := 0
  pumpOwner := false
  flowDemand := 0
  fanOwner := false
  fanDemand := 0
  isolated := false
  fanHealthy := false
  pumpHealthy := false
  proposer := 0
  sessionTag := 0
  direction := none
  windSpeed := none
  brakesReleased := false
  twist := none
  cadenceCount := 0
  lastWindow := 0
  foreign := 0
  corrected := 0
  losses := 0
  superseded := 0

/-- A demand to produce. -/
def demand : DemandRecord where
  tag := 1
  modeCode := 1
  auxCode := 0
  active := 10000
  reactive := 3000
  orderCode := 0
  budget := 0
  ackTag := 1

def liveController (d : DemandRecord) (s : State) : State :=
  let e : Entry DemandRecord :=
    { role := .turbineController, state := .live, age := 0, good := 3, record := some d, lastTag := some d.tag }
  { s with table := { s.table with controller := e } }

/-- Station 4 LIVE with a record. -/
def livePeer (r : StatusRecord) (s : State) : State :=
  let e : Entry StatusRecord :=
    { role := .thread, state := .live, age := 0, good := 3, record := some r, lastTag := some r.tag }
  { s with table := { s.table with threads := s.table.threads.set 4 e } }

/-- The state a command leaves. -/
def after (c : Instr) (s : State) : State :=
  match exec c s with
  | .next u => u
  | .fault _ | .refused _ => s

/-- A read image: station, rated current, motors, flags, role, tach minimum, prescaler, K, budget and mask, the spare bytes 0
and the byte that makes the sum 0 mod 256. -/
def image (station ratedHigh ratedLow motors flags role tach prescaler kHigh kLow budget mask last : Byte) : List Byte :=
  [station, ratedHigh, ratedLow, motors, flags, role, tach, prescaler, kHigh, kLow, budget, mask] ++
    List.replicate 19 0#8 ++ [last]

/-- Station 2, 1000 A, 3 motors, pump owner: bytes that sum to 0 mod 256. -/
def goodImage : List Byte := image 2 0x03 0xE8 3 0x0E 1 5 4 0 75 6 4 163

/-! ## WellFormed: each check refuses an ill-formed command -/

theorem wellFormed_accepts_image : (Instr.configImageRead goodImage).wellFormed = true := by decide +kernel
theorem wellFormed_refuses_short_image : (Instr.configImageRead [2, 3]).wellFormed = false := by decide
theorem wellFormed_refuses_marker_reading : (Instr.listenTimeout false (some (-32768)) none).wellFormed = false := by decide
theorem wellFormed_refuses_wide_reading : (Instr.coolingEvaluation none (some 32768)).wellFormed = false := by decide
theorem wellFormed_refuses_empty_run : (Instr.dominantRunEnd 0 0).wellFormed = false := by decide
theorem wellFormed_refuses_recessive_start : (Instr.frameReceived [true]).wellFormed = false := by decide
theorem wellFormed_refuses_empty_reception : (Instr.frameReceived []).wellFormed = false := by decide
theorem wellFormed_refuses_nothing_read_back : (Instr.transmitEnd []).wellFormed = false := by decide
theorem wellFormed_refuses_reply_number : (Instr.stackReply { reply with number := 256 }).wellFormed = false := by decide
theorem wellFormed_refuses_reply_current : (Instr.stackReply { reply with active := 4001 }).wellFormed = false := by decide
theorem wellFormed_refuses_reply_reactive : (Instr.stackReply { reply with reactive := -4001 }).wellFormed = false := by
  decide
theorem wellFormed_refuses_reply_voltage : (Instr.stackReply { reply with dcLink := 1501 }).wellFormed = false := by decide
theorem wellFormed_refuses_reply_grid : (Instr.stackReply { reply with grid := 1501 }).wellFormed = false := by decide
theorem wellFormed_refuses_reply_heatsink : (Instr.stackReply { reply with heatsink := 40000 }).wellFormed = false := by
  decide
theorem wellFormed_accepts_reply : (Instr.stackReply reply).wellFormed = true := by decide
theorem wellFormed_refuses_motor_0 : (Instr.motorFaultInput 0 true).wellFormed = false := by decide
theorem wellFormed_refuses_motor_5 : (Instr.motorFaultInput 5 true).wellFormed = false := by decide

/-! ## The interface of the block -/

theorem decode_spells_nothing : decodeTableWord 8 0x5A = none := by decide
theorem withFetchWord_leaves_state : on.withFetchWord 8 0x5A = on := by decide +kernel
theorem step_runs_the_front :
    step { on with pending := [.tachPulse, .yawCheck] } =
      .next { on with pending := [.yawCheck], cooling := { on.cooling with tachCount := 1 } } := rfl
theorem memory_of_commands_is_data : (on = on) ∧ (on ≠ heldState) := by decide +kernel

/-! ## Worked examples of the spec -/

/-- R8: the nine bytes 31 to 39 hex. -/
theorem crc_example : crc [0x31, 0x32, 0x33, 0x34, 0x35, 0x36, 0x37, 0x38, 0x39] = 0x29B1#16 := by decide +kernel
/-- R8: one byte more is eight more bits into the register. -/
theorem crc_append (payload : List Byte) (b : Byte) : crc (payload ++ [b]) = (byteBits b).foldl crcBit (crc payload) := by
  simp [crc]
/-- R33: four switching threads. -/
theorem offsets_of_four : (List.range 4).map (carrierOffset · 4) = [0, 4000, 8000, 12000] := by decide
/-- R33: three switching threads. -/
theorem offsets_of_three : (List.range 3).map (carrierOffset · 3) = [0, 5333, 10666] := by decide
/-- R67: the table for R = 4000 and R = 1500. -/
theorem support_examples :
    [950, 880, 800, 600, 400, 150].map (fun v => (supportCurrent 4000 (some v), supportCurrent 1500 (some v))) =
      [(0, 0), (160, 60), (800, 300), (2400, 900), (4000, 1500), (4000, 1500)] := by decide +kernel
/-- R137: the table of budgets for the offers of stations 1, 2, 4 and 6. -/
theorem allocation_examples :
    [28, 6, 3, 1].map (fun b => (allocate b [(1, 2), (2, 4), (4, 3), (6, 4)]).map (·.2)) =
      [[2, 4, 3, 4], [2, 2, 1, 1], [1, 1, 1, 0], [1, 0, 0, 0]] := by decide +kernel
/-- R105: the magnitude of 3000 and 400. -/
theorem isqrt_example : isqrt 9160000 = 3026 ∧ isqrt 2000000 = 1414 ∧ isqrt 16000000 = 4000 := by decide +kernel
/-- R46: the limits of a quiet interval of 4, 20 and 30 s. -/
theorem quiet_limits : [4, 20, 30].map (fun i => { inQuiet.quiet with interval := i }.threadLimits) =
    [(10000, 20000), (50000, 65534), (65534, 65534)] := by decide +kernel
/-- R62: the table of capabilities. -/
theorem capability_examples : [(4000, 1000), (4000, 850), (4000, 500), (2750, 333), (500, 1)].map
    (fun rf => capabilityOf rf.1 rf.2) = [4000, 3400, 2000, 915, 0] := by decide +kernel
/-- R101: T_hs = 76.0 °C and T_in = 51.3 °C. -/
theorem thermal_term_examples : heatsinkTerm (some 760) = 700 ∧ inletTerm (some 513) = 370 := by decide +kernel
/-- R105: the table of heat loads. -/
theorem heat_examples : [heatWatts 4000 0, heatWatts 3000 400, heatWatts 1000 (-1000), heatWatts 0 0] =
    [48000, 28943, 7826, 0] := by decide +kernel
/-- R106, R107: outlet 41.0 °C with 28 kW, and inlet 39.0 °C. -/
theorem demand_examples : flowDemandOf true (some 410) 28 = 56 ∧ fanDemandOf (some 390) = 60 := by decide +kernel
/-- R119: prescaler 4, count 52, K = 75. -/
theorem speed_example : windowSpeed 52 4 75 = 156 := by decide +kernel

/-- Station 1 of the worked cases of allotment: R = 4000, stations 2 and 3 LIVE in RUN, station 4 STALE. -/
def worked (x : ThreadState) (factor : Nat) (p : Nat) (q : Int) (grid : Nat) : State :=
  let peer (st : EntryState) (c : Nat) : Entry StatusRecord :=
    { role := .thread, state := st, age := 0, good := 3, record := some { status with threadCode := 3, capability := c },
      lastTag := some 1 }
  { on with
    config := { on.config with values := some { cfg with station := 1, rated := 4000 } }
    cooling := { on.cooling with factor := factor }
    allotment := { on.allotment with pCommand := p, qCommand := q }
    thread := { on.thread with state := x, reply := some { reply with grid := grid } }
    table := { on.table with
      controller := (liveController { demand with active := 9000, reactive := 2000 } on).table.controller
      threads := ⟨ownEntry, peer .live 4000, peer .live 3000, peer .stale 4000, Entry.initial, Entry.initial,
        Entry.initial⟩ } }

/-- Spec 04, steady running with a stale peer: mark k. -/
theorem allot_steady : ((allot (worked .run 850 2900 600 1000)).allotment.pCommand,
    (allot (worked .run 850 2900 600 1000)).allotment.qCommand) = (2916, 616) := by decide +kernel
/-- Spec 04, capability falls between two periods: mark k+1. -/
theorem allot_capability_falls : ((allot (worked .run 500 2916 616 1000)).allotment.pCommand,
    (allot (worked .run 500 2916 616 1000)).allotment.qCommand) = (2000, 0) := by decide +kernel
/-- Spec 04, a grid sag: mark k+2. -/
theorem allot_sag : ((allot (worked .rideThrough 850 2932 632 600)).allotment.pCommand,
    (allot (worked .rideThrough 850 2932 632 600)).allotment.qCommand) = (2408, 2400) := by decide +kernel
/-- Spec 04, the recovery: mark k+41. -/
theorem allot_recovery : ((allot (worked .rideThrough 850 2408 2400 800)).allotment.pCommand,
    (allot (worked .rideThrough 850 2408 2400 800)).allotment.qCommand) = (2424, 800) := by decide +kernel

/-- R136: a proposal refused for BRAKE by station 4 logs detail 34. -/
theorem refusal_detail : ((abandon (inYaw .proposing) 3 4).log.records.map (·.detail)) = [some 34] := by decide +kernel
/-- R182, R183: a read image gives LISTEN with the START record of the reset code. -/
theorem image_begins_listen :
    (after (.configImageRead goodImage) State.reset).link.state = .listen ∧
    (after (.configImageRead goodImage) State.reset).log.records.map (fun r => (r.cls, r.code, r.detail)) =
      [(0, 1, some 2)] := by decide +kernel
/-- R9, R52: a status sent by station 4 is received as it was sent. -/
theorem status_is_received : receive (frameLevels 4 (.threadStatus status)) = (false, .good 4 (.threadStatus status)) := by
  decide +kernel
/-- R6 to R8, R10: whole frames written out byte by byte from the layouts, their two checks worked by hand from R7 and R8. -/
theorem frame_bytes_stop : frameBytes 2 (.yawStop 4 7) = [34, 2, 25, 4, 7, 161, 44] := by decide +kernel
theorem frame_bytes_start : frameBytes 3 (.yawStart 9 1 1 6 [(3, 2), (4, 1)]) =
    [43, 7, 26, 9, 0x11, 6, 3, 2, 4, 1, 97, 250] := by decide +kernel
theorem frame_bytes_request : frameBytes 0 (.logRequest 2 256 16) = [192, 6, 33, 2, 0, 0, 1, 0, 16, 160, 81] := by
  decide +kernel
/-- Spec 13: the 24 bytes of a THREAD STATUS with a value in every field. -/
theorem status_bytes :
    (Frame.threadStatus
      { tag := 200, nacelleTrip := true, threadCode := 3, capability := 3400, yawCode := 4, active := -1200,
        motorsReady := 3, reactive := 650, heatLoad := 28, pumpOwner := true, flowDemand := 56, fanOwner := false,
        fanDemand := 60, isolated := true, fanHealthy := false, pumpHealthy := true, proposer := 5, sessionTag := 33,
        direction := some (-1800), windSpeed := none, brakesReleased := true, twist := some (-14400),
        cadenceCount := 65535, lastWindow := 255, foreign := 1, corrected := 2, losses := 3, superseded := 4 }).payload =
      [200, 189, 72, 155, 80, 98, 138, 28, 184, 60, 45, 33, 143, 143, 255, 199, 192, 255, 255, 255, 1, 2, 3, 4] := by
  decide +kernel
/-- R10: the precedence byte of a PLANT DEMAND, and of the statuses of stations 1 and 7. -/
theorem precedence_bytes : (Frame.plantDemand demand).precedence 0 = 80 ∧ (Frame.threadStatus status).precedence 1 = 129 ∧
    (Frame.threadStatus status).precedence 7 = 135 := by decide +kernel
/-- R2: a run of 16 to 24 bit times is a mark. -/
theorem run_classes : [1, 5, 6, 15, 16, 24, 25].map classifyRun =
    [.frameBits, .frameBits, .symbolError, .symbolError, .mark, .mark, .stuck] := by decide
/-- R11: the head of the queue goes onto the idle line. -/
theorem head_goes : ((after (.transmitStart false)
    (setLink (fun l => { l with queue := [⟨.yawStop 2 1, false⟩] }) on)).link.queue.map (·.onLine)) = [true] := by
  decide +kernel
/-- R5: a mark holds the line dominant for 20 bit times. -/
theorem mark_is_driven :
    let s (d : Nat) := setLink (fun l => { l with ownMark := some (clock - d) }) on
    (s 0).drivesMark = true ∧ (s 79).drivesMark = true ∧ (s 80).drivesMark = false := by decide +kernel
/-- R12: a status of the own number heard while the own frame is on the line is no clash. -/
theorem own_frame_is_no_clash : after (.frameReceived (frameLevels 2 (.threadStatus status)))
    (setLink (fun l => { l with queue := [⟨.threadStatus status, true⟩] }) on) =
    setLink (fun l => { l with queue := [⟨.threadStatus status, true⟩] }) on := by decide +kernel
/-- R3: the second of two symbol errors in one broken frame is not counted again. -/
theorem broken_frame_counted_once :
    let s := after (.dominantRunEnd 6 0) on
    s.link.windowDiscards = 1 ∧ (after (.dominantRunEnd 6 0) s).link.windowDiscards = 1 := by decide +kernel
/-- R110: a tachometer pulse is counted, held at 65535. -/
theorem tach_held : (after .tachPulse (setCool (fun c => { c with tachCount := 65535 }) on)).cooling.tachCount = 65535 := by
  decide +kernel
/-- R109: 50 % is 1000 counts of the next PWM period. -/
theorem pwm_takes_next : (after .pwmPeriodEnd (setCool (fun c => { c with nextDuty := 1000 }) on)).cooling.runningDuty =
    1000 := by decide +kernel
/-- R147: a clash ends a session in hand with brakes applied. -/
theorem clash_applies_brakes : (after (.frameReceived (frameLevels 2 (.threadStatus status)))
    (setYawU (fun y => { y with release := true }) (inYaw .driving))).yaw.release = false := by decide +kernel

/-! ## Witnesses: the step, resets and start-up -/

theorem witness_stepRunsFrontCommand : on.pending = [] ∧ on.held = false ∧ heldState.held = true := by decide +kernel
theorem witness_everyCommandCompletes :
    Instr.tachPulse ≠ .powerOnReset ∧ Instr.tachPulse ≠ .resetInput ∧ (∀ l, Instr.tachPulse ≠ .resetRelease l) ∧
    (∀ i, Instr.tachPulse ≠ .configImageRead i) ∧ (∀ r, Instr.tachPulse ≠ .brakeFeedbackChange r) ∧
    (∀ m a, Instr.tachPulse ≠ .motorFaultInput m a) ∧ (∀ i a, Instr.tachPulse ≠ .safetyInputChange i a) := by simp
theorem witness_blocksMoved :
    exec .yawCheck on = .next (after .yawCheck on) ∧ Instr.yawCheck ≠ .powerOnReset ∧ Instr.yawCheck ≠ .resetInput ∧
    (∀ l, Instr.yawCheck ≠ .resetRelease l) ∧ (∀ i, Instr.yawCheck ≠ .configImageRead i) ∧
    (∀ d i o, Instr.yawCheck ≠ .listenTimeout d i o) ∧ (∀ e, Instr.yawCheck ≠ .windEvaluation e) := by
  refine ⟨rfl, ?_⟩; simp
theorem witness_resetsReleased : on.held = false ∧ heldState.held = true ∧
    (after (.resetRelease .powerOn) heldState).held = true ∧ (after (.resetRelease .resetInput) heldState).held = false := by
  decide +kernel
theorem witness_imageRejected : State.reset.held = false ∧ State.reset.link.state = .configRead ∧
    (goodImage.drop 1).length = 31 ∧ ((3#8).toNat + ((goodImage.drop 1).map (·.toNat)).sum) % 256 ≠ 0 := by decide +kernel
theorem witness_imageRejected_station : ((0#8).toNat + ((List.replicate 31 0#8).map (·.toNat)).sum) % 256 = 0 ∧
    (0#8).toNat = 0 := by decide +kernel
theorem witness_imageAccepted : State.reset.held = false ∧ State.reset.link.state = .configRead ∧
    (goodImage.drop 1).length = 31 ∧ ((2#8).toNat + ((goodImage.drop 1).map (·.toNat)).sum) % 256 = 0 ∧ 1 ≤ (2#8).toNat ∧
    (2#8).toNat ≤ 7 ∧ State.reset.pins.emergencyStop = false ∧ State.reset.pins.arcOrFire = false ∧
    State.reset.log = FaultLog.initial ∧ State.reset.link.queue = [] ∧ State.reset.quiet.state = .active := by
  decide +kernel
theorem witness_fieldsClamped : (ConfigValues.ofImage (image 2 0x01 0xF3 5 0 3 0 3 0 9 29 0 0)).rated = 500 ∧
    clampedRows (image 2 0x01 0xF3 5 0 3 0 3 0 9 29 0 0) = [1, 2, 3, 4, 5, 6, 7] := by decide +kernel
theorem witness_imageFlags :
    [1, 2, 4, 8, 15].map (fun flags => let v := ConfigValues.ofImage (image 2 3 232 3 flags 1 5 4 0 75 6 4 0)
      (v.isolated, v.vane, v.anemometer, v.encoder, v.acceptMask)) =
    [(true, false, false, false, 4#8), (false, true, false, false, 4#8), (false, false, true, false, 4#8),
      (false, false, false, true, 4#8), (true, true, true, true, 4#8)] := by decide +kernel
theorem witness_imageFound :
    let s (stop fire : Bool) : State :=
      { State.reset with
        pins := { State.reset.pins with emergencyStop := stop, arcOrFire := fire }
        resets := { State.reset.resets with powerOnHeld := false, inputHeld := false } }
    let rows (stop fire : Bool) (image : List Byte) :=
      (after (.configImageRead image) (s stop fire)).log.records.map (fun r => (r.cls, r.code, r.action))
    let wide := image 2 0x01 0xF3 5 0 3 0 3 0 9 29 0 217
    (s true true).held = false ∧ (s true true).link.state = .configRead ∧ (s true true).log = FaultLog.initial ∧
    (s true true).link.queue = [] ∧ (s true true).quiet.state = .active ∧ (s true true).yaw.state = .idle ∧
    (s true true).fault.stopSeen = false ∧ (s true true).fault.fireSeen = false ∧
    rows true true goodImage = [(0, State.reset.resets.code, 1), (8, 1, 3), (8, 2, 3)] ∧
    (rows false true wide).length = 9 ∧ (rows true true wide).drop 8 = [(8, 1, 3), (8, 2, 3), (6, 5, 1)] := by
  decide +kernel

/-- In LISTEN since just 50 ms. -/
def listening : State := setLink (fun l => { l with listenTimer := some (clock - 2000000) }) (inLink .listen)

theorem witness_listenEnds : listening.held = false ∧ listening.link.state = .listen ∧
    listening.link.listenTimer = some (clock - 2000000) ∧ clock - 2000000 + Config.listenTime ≤ listening.now ∧
    listening.quiet.state = .active ∧ listening.thread.state.quietable = true ∧
    listening.cadence.reference = .seeking ∧ listening.cadence.overdue = false := by decide +kernel
theorem witness_listenEnds_locked :
    let s := setCad (fun c => { c with reference := .locked, timer := some (clock - 16000) }) listening
    s.cadence.reference = .locked ∧ s.cadenceReading ≤ s.cadence.expiry := by decide +kernel

/-! ## Witnesses: the link -/

theorem witness_dominantRuns :
    let idle := rx .idle 72 on
    let busy (p : ReceiverPhase) := rx p 71 on
    idle.running = true ∧ 1 ≤ 6 ∧ idle.sending = false ∧ clock - 72 + 48 ≤ idle.now - (4 * 6 + 0) ∧
    ¬(clock - 71 + 48 ≤ (busy .receiving).now - (4 * 6 + 0)) ∧ (busy .receiving).receiver.phase = .receiving ∧
    (busy (.awaitingIdle (clock - 24))).receiver.phase = .awaitingIdle (clock - 24) ∧
    clock - 24 ≤ (busy .receiving).now - (4 * 5 + 3) ∧ (busy .abandoned).receiver.phase = .abandoned ∧
    on.link.ownMark = none ∧ on.link.windowDiscards ≠ 50 := by decide +kernel
theorem witness_dominantRuns_report :
    let s := setLink (fun l => { l with windowDiscards := 50 }) (rx .receiving 71 on)
    s.running = true ∧ s.link.ownMark = none ∧ 24 < 25 ∧ s.link.windowDiscards = 50 ∧ s.takesOffers = true ∧ s.CanReport ∧
    (after (.dominantRunEnd 25 0) s).link.windowDiscards = 51 := by
  simp only [State.CanReport]; decide +kernel
theorem witness_stuck : (rx .idle 144 on).running = true ∧ clock - 144 + 48 ≤ (rx .idle 144 on).now - (96 + 0) ∧
    (rx .idle 144 on).sending = false ∧ ¬(clock - 143 + 48 ≤ (rx .receiving 143 on).now - (96 + 0)) ∧
    (rx .receiving 143 on).receiver.phase = .receiving ∧
    (rx (.awaitingIdle clock) 143 on).receiver.phase = .awaitingIdle clock ∧ (rx .idle 144 on).takesOffers = true ∧
    (rx .idle 144 on).CanReport ∧
    (∀ t0, (rx .idle 144 on).link.lastStuckReport = some t0 → t0 + Config.stuckSpacing ≤ (rx .idle 144 on).now) := by
  simp only [State.CanReport]; decide +kernel
theorem witness_stuck_again :
    let s := setLink (fun l => { l with lastStuckReport := some (clock - 39999999) }) on
    s.now < clock - 39999999 + Config.stuckSpacing := by decide +kernel
theorem witness_markInListen : listening.held = false ∧ listening.link.state = .listen ∧ listening.link.ownMark = none ∧
    16 ≤ 16 ∧ 16 ≤ 24 ∧ (rx .abandoned 112 listening).phaseAt (clock - (4 * 16 + 0)) = .idle ∧
    (rx .abandoned 111 listening).phaseAt (clock - (4 * 16 + 0)) = .abandoned ∧ listening.cadence.reference = .seeking := by
  decide +kernel
theorem witness_markInListen_locked :
    let s (d : Nat) := setCad (fun c => { c with reference := .locked, timer := some (clock - d) }) listening
    clock - 15904 + Config.acceptFrom ≤ (s 15904).now - (4 * 16 + 0) ∧ (s 15903).now - (4 * 16 + 0) < clock - 15903 + Config.acceptFrom ∧
    (s 15903).cadence.earlyMarks ≠ 10 := by decide +kernel
theorem witness_markInJoined : on.isJoined = true ∧ on.keepsCadence = true ∧ on.link.ownMark = none ∧
    (rx .abandoned 48 on).phaseAt (clock - (4 * 24 + 3)) ≠ .receiving ∧ (asked .run 100).thread.exchange.outstanding = true ∧
    (asked .run 100).thread.missCount + 1 ≠ 3 ∧ on.cadence.reference = .seeking := by decide +kernel
theorem witness_markInJoined_early :
    let s := setCad (fun c => { c with reference := .locked, timer := some (clock - 100), earlyMarks := 10 }) on
    s.cadence.reference = .locked ∧ s.cadence.timer.reached (s.now - (4 * 24 + 0)) Config.acceptFrom = false ∧
    s.cadence.earlyMarks = 10 ∧ s.CanReport := by simp only [State.CanReport]; decide +kernel
/-- Heard with a reception in hand after `n` discards, the cadence timer at `d`. -/
def breaking (n d : Nat) (s : State) : State :=
  setLink (fun l => { l with windowDiscards := n })
    (setCad (fun c => { c with reference := .locked, timer := some (clock - d), earlyMarks := 10 }) (rx .receiving 111 s))

theorem witness_markBreaks :
    let heard (n d : Nat) (s : State) := after (.dominantRunEnd 16 0) (breaking n d s)
    (breaking 49 15904 listening).phaseAt (clock - (4 * 16 + 0)) = .receiving ∧
    (breaking 49 15904 listening).link.windowDiscards ≠ 50 ∧ (breaking 51 15904 on).link.windowDiscards ≠ 50 ∧
    (breaking 50 15904 on).link.windowDiscards = 50 ∧ (breaking 50 15904 on).running = true ∧
    (breaking 50 15904 on).keepsCadence = true ∧ (breaking 50 15904 on).CanReport ∧
    (breaking 50 15904 listening).CanReport ∧ (breaking 50 15904 on).link.ownMark = none ∧
    (breaking 50 15904 on).thread.exchange.outstanding = false ∧
    (breaking 50 15904 on).cadence.timer.reached (clock - (4 * 16 + 0)) Config.acceptFrom = true ∧
    (breaking 49 15903 listening).cadence.timer.reached (clock - (4 * 16 + 0)) Config.acceptFrom = false ∧
    [heard 49 15904 listening, heard 49 15904 on, heard 50 15904 on, heard 50 15904 listening].map (fun u =>
      (u.link.windowDiscards, u.cadence.timer, u.log.records.map (fun r => (r.cls, r.code)))) =
      [(50, some (clock - 64), []), (50, some (clock - 64), []), (51, some (clock - 64), [(clsLink, 3)]),
        (51, some (clock - 64), [(clsLink, 3)])] := by
  simp only [State.CanReport]; decide +kernel
theorem witness_markBreaks_early :
    let heard (s : State) := after (.dominantRunEnd 16 0) (breaking 49 15903 s)
    [heard listening, heard on].map (fun u => ((u.link.windowDiscards, u.cadence.earlyMarks, u.cadence.reference),
      u.log.records.map (fun r => (r.cls, r.code, r.detail)))) =
      [((50, 11, .seeking), [(clsLink, 2, some 11)]), ((50, 11, .seeking), [(clsLink, 2, some 11)])] := by decide +kernel
/-- The levels of a frame's bits with the last bit of byte 0 inverted, which the header check corrects. -/
def corrected (bits : List Level) : List Level := stuff (bits.set 8 (!(bits.getD 8 false)))

theorem witness_discards : on.running = true ∧ on.receives = true ∧ on.link.windowDiscards ≠ 50 ∧
    receive (List.replicate 8 false) = (false, .abandoned) ∧ (rx .abandoned 48 on).receiver.phase ≠ .receiving ∧
    (setLink (fun l => { l with queue := [⟨.yawStop 2 1, true⟩] }) on).sending = true := by decide +kernel
theorem witness_discards_taken :
    receive (frameLevels 0 (.yawStop 4 1)) = (false, .foreign) ∧
    receive (corrected (frameBits 0 (.yawStop 4 1))) = (true, .foreign) ∧
    receive (stuff ((frameBits 1 (.yawStop 4 1)).set 45 true)) = (false, .discarded) ∧
    receive (corrected ((frameBits 1 (.yawStop 4 1)).set 45 true)) = (true, .discarded) ∧
    receive (corrected ((frameBits 1 (.yawStop 4 1)).take 40)) = (true, .abandoned) := by decide +kernel
theorem witness_corrected :
    let driving := inYaw .driving
    receive (corrected (frameBits 1 (.yawStop 0 0))) = (true, .good 1 (.yawStop 0 0)) ∧
    receive (frameLevels 1 (.yawStop 0 0)) = (false, .good 1 (.yawStop 0 0)) ∧
    receive (corrected (frameBits 1 (.logEntry (emptyEntry 1)))) = (true, .good 1 (.logEntry (emptyEntry 1))) ∧
    driving.running = true ∧ driving.receives = true ∧ driving.link.state = .joined ∧ driving.takesPart = true ∧
    driving.yaw.state = .driving ∧ driving.yaw.session.proposer = 0 ∧ driving.yaw.session.tag = 0 := by decide +kernel
theorem witness_lineQuality :
    let s := setLink (fun l => { l with windowDiscards := 50 }) on
    s.running = true ∧ s.receives = true ∧ s.takesOffers = true ∧ s.CanReport ∧ s.link.windowDiscards = 50 := by
  simp only [State.CanReport]; decide +kernel
theorem witness_windows_silent :
    let s := setCad (fun c => { c with earlyWindow := some (clock - 40000000) }) (inLink .silent)
    s.running = true ∧ s.cadence.earlyWindow = some (clock - 40000000) ∧ s.link.state = .silent ∧
    on.link.state ≠ .silent := by decide +kernel
theorem witness_windows :
    let s (d : Nat) := setCad (fun c => { c with earlyWindow := some (clock - d) })
      (setLink (fun l => { l with errorWindow := some (clock - d) }) on)
    (s 40000000).running = true ∧ clock - 40000000 + Config.window ≤ (s 40000000).now ∧
    (s 39999999).now < clock - 39999999 + Config.window := by decide +kernel
theorem witness_sentFrames : (Frame.yawStop 7 255).Fits 7 ∧ (Frame.yawProposal 255 3 1 28 (some (-32767))).Fits 1 ∧
    (Frame.quietOrder 255 255).Fits 0 := by
  refine ⟨?_, ?_, ?_⟩ <;> simp [Frame.Fits]
theorem witness_receiveChecks :
    let levels (b0 b1 : Byte) (payload check : List Byte) :=
      stuff (false :: ([b0, b1, headerCheck b0 b1] ++ payload ++ check).flatMap byteBits)
    let good := bigEndian 2 (crc [2, 1]).toNat
    let l := frameLevels 7 (.yawStop 7 255)
    receive (levels 34 2 [2, 1] good) = (false, .good 2 (.yawStop 2 1)) ∧
    receive (levels 34 2 [2, 1] (good.map (· ^^^ 1#8))) = (false, .discarded) ∧
    receive (levels 34 2 [2, 1] (good.take 1)) = (false, .abandoned) ∧
    receive (levels 32 2 [2, 1] good) = (false, .foreign) ∧ receive (levels 26 2 [2, 1] good) = (false, .foreign) ∧
    receive (levels 82 2 [2, 1] good) = (false, .foreign) ∧ receive (levels 50 2 [2, 1] good) = (false, .discarded) ∧
    receive (levels 34 0 [] []) = (false, .discarded) ∧ receive (levels 34 33 [] []) = (false, .abandoned) ∧
    readHeader 34 2 0xC0#8 = none ∧ receive (l.take (l.length - 1)) = (false, .abandoned) ∧ 30 + 16 ≤ l.length ∧
    receive (l.take 30 ++ List.replicate 6 true ++ l) = (false, .abandoned) := by decide +kernel

/-- A STOP waiting in the queue. -/
def queued : State := setLink (fun l => { l with queue := [⟨.yawStop 2 1, false⟩] }) on

theorem witness_headIsSent : queued.isJoined = true ∧ queued.link.queue = ⟨.yawStop 2 1, false⟩ :: [] ∧
    (∀ y ∈ queued.link.queue, y.onLine = false) ∧ queued.link.ownMark = none ∧
    queued.receiver.recessiveSince = some (clock - 48) ∧ clock - 48 + 48 ≤ queued.now ∧ queued.cadence.timer = none ∧
    (rx .idle 47 queued).now < clock - 47 + 48 := by decide +kernel
theorem witness_headIsSent_guard :
    let s (d : Nat) := setCad (fun c => { c with timer := some (clock - d) }) queued
    (s 14400).keepsCadence = true ∧ (s 14400).cadence.timer.isSome = true ∧
    (s 14400).cadence.expiry ≤ (s 14400).cadenceReading + Config.guard ∧
    (s 14399).cadenceReading + Config.guard < (s 14399).cadence.expiry := by decide +kernel

/-- A status on the line, an older one lost contention with a newer queued. -/
def onTheLine (newer : List Slot) : State :=
  setLink (fun l => { l with queue := ⟨.threadStatus status, true⟩ :: newer }) on

theorem witness_sendingEnds : (onTheLine []).isJoined = true ∧ (onTheLine []).quiet.state = .active ∧
    (onTheLine []).log.cursor = .idle ∧
    sendingOutcome 2 (.threadStatus status) (frameLevels 2 (.threadStatus status)) = some .complete ∧
    sendingOutcome 2 (.threadStatus status) [false, false] = some .lost ∧
    sendingOutcome 2 (.threadStatus status) [true] = some .corrupted := by decide +kernel
theorem witness_sendingEnds_receiver :
    agreeing (frameLevels 2 (.threadStatus status)) [false, false] < headerLevels 2 (.threadStatus status) ∧
    [false, false].getLast? = some false ∧ [false, false, true, true] = [false] ++ false :: List.replicate 2 true ∧
    sendingOutcome 2 (.threadStatus status) [false, false, true, true] = some .lost := by decide +kernel
theorem witness_frameLeaves :
    let s (q : QuietState) (c : CursorState) (newer : List Slot) : State :=
      { setQuiet (fun u => { u with state := q }) (onTheLine newer) with log := { FaultLog.initial with cursor := c } }
    let ended (s : State) := after (.transmitEnd (frameLevels 2 (.threadStatus status))) s
    (s .pending .idle []).isJoined = true ∧ (s .pending .idle []).yaw.state = .idle ∧
    (ended (s .pending .idle [])).quiet.state = .quiet ∧ (ended (s .pending .emptyDue [])).quiet.state = .pending ∧
    (ended (s .active .emptyDue [])).link.queue = [⟨.logEntry (emptyEntry 0), false⟩] ∧
    (after (.transmitEnd [false, false]) (s .pending .emptyDue [⟨.threadStatus status, false⟩])).link.queue.length = 2 ∧
    (ended (s .pending .idle [⟨.yawStop 2 1, false⟩])).quiet.state = .pending := by decide +kernel
theorem witness_readBack : 1 < (frameLevels 2 (.threadStatus status)).length ∧
    [false, false].take 1 = (frameLevels 2 (.threadStatus status)).take 1 ∧
    [false, false][1]? = some (!((frameLevels 2 (.threadStatus status)).getD 1 false)) ∧
    (∀ j, j + 16 ≤ [false, false].length → ∃ k, k < 16 ∧ [false, false][j + k]? = some true) := by
  refine ⟨by decide +kernel, by decide +kernel, by decide +kernel, fun j h => ?_⟩
  simp at h
theorem witness_readBack_run :
    let l := frameLevels 2 (.threadStatus status)
    let heard (i : Nat) := l.take i ++ List.replicate 16 false
    l[1]? = some true ∧ (heard 1)[1]? = some (!(l.getD 1 false)) ∧ (∀ k, k < 17 → (heard 1)[0 + k]? = some false) ∧
    l[13]? = some true ∧ (heard 13)[13]? = some (!(l.getD 13 false)) ∧ headerLevels 2 (.threadStatus status) ≤ 13 := by
  decide +kernel

/-- A full queue: a status first or not, LOG ENTRY frames last or not. -/
def fullOf (first last : Frame) : State :=
  setLink (fun l => { l with queue := ⟨first, false⟩ :: List.replicate 6 ⟨.yawStop 2 1, true⟩ ++ [⟨last, false⟩] }) on

theorem witness_offers : on.takesOffers = true ∧ on.link.queue.length < 8 ∧ (inLink .silent).takesOffers = false ∧
    8 ≤ (fullOf (.threadStatus status) (.logEntry (emptyEntry 1))).link.queue.length ∧
    (Frame.threadStatus status).kind = 16 ∧ (Frame.logEntry (emptyEntry 1)).kind = 28 ∧
    (Frame.yawStop 2 1).kind ≠ 16 ∧ (Frame.yawStop 2 1).kind ≠ 28 ∧ on.log.newest < Config.lastSequence := by decide +kernel
theorem witness_offers_status : (∀ y ∈ ([] : List Slot), y.onLine = true ∨ y.frame.kind ≠ 16) ∧
    (offerStatus (fullOf (.threadStatus status) (.yawStop 2 1)) { status with tag := 9 }).link.superseded = 1 ∧
    (offerStatus (fullOf (.yawStop 2 1) (.logEntry (emptyEntry 1))) status).link.losses = 1 ∧
    offerStatus (fullOf (.yawStop 2 1) (.yawStop 2 1)) status =
      setLink (fun l => { l with losses := 1 }) (fullOf (.yawStop 2 1) (.yawStop 2 1)) := by decide +kernel
theorem witness_offers_urgent :
    ((offerYaw (fullOf (.threadStatus status) (.yawStop 2 1)) (.yawStop 2 3)).link.queue.filter
      (fun x => x.frame.kind == 16)) = [] ∧
    (offerNotice (fullOf (.yawStop 2 1) (.yawStop 2 1)) 3 4 1 1 0).log.records.map (fun r => (r.cls, r.code, r.detail)) =
      [(6, 5, some 304)] := by decide +kernel
theorem witness_queueRules : on.QueueKept ∧ step on = .next on.idle := by
  simp only [State.QueueKept]; exact ⟨by decide +kernel, rfl⟩
theorem witness_clash : on.held = false ∧ on.receives = true ∧ on.link.state = .joined ∧
    receive (frameLevels 2 (.threadStatus status)) = (false, .good on.own (.threadStatus status)) ∧
    on.quiet.state ≠ .quiet ∧ inQuiet.quiet.state = .quiet ∧ on.log.newest < Config.lastSequence ∧
    (inYaw .driving).yaw.state ≠ .idle ∧ (inLink .silent).receives = true ∧ (inLink .silent).link.state = .silent := by
  decide +kernel
theorem witness_silent : (inLink .silent).link.state = .silent ∧ (inLink .silent).link.queue = [] ∧
    exec .statusBuild (inLink .silent) = .next (after .statusBuild (inLink .silent)) := by
  refine ⟨by decide +kernel, by decide +kernel, rfl⟩

/-! ## Witnesses: the cadence -/

/-- The timer at `d` clock steps, in a link state. -/
def ticking (x : LinkState) (d : Nat) : State := setCad (fun c => { c with timer := some (clock - d) }) (inLink x)

theorem witness_expiry : (ticking .joined 16000).held = false ∧ (ticking .joined 16000).keepsCadence = true ∧
    (ticking .joined 16000).cadence.timer = some (clock - 16000) ∧
    clock - 16000 + (ticking .joined 16000).cadence.expiry ≤ (ticking .joined 16000).now ∧
    (ticking .joined 16000).cadence.overdue = false ∧ (ticking .joined 16000).thread.exchange.outstanding = false ∧
    (ticking .silent 16000).link.state = .silent := by decide +kernel
/-- A period that finds an exchange outstanding after `n` misses. -/
def unanswered (x : ThreadState) (n : Nat) : State :=
  setThr (fun u => { u with state := x, missCount := n, exchange := { u.exchange with outstanding := true } })
    (ticking .joined 16000)

theorem witness_expiry_miss : (unanswered .run 2).isJoined = true ∧ (unanswered .run 2).keepsCadence = true ∧
    (unanswered .run 2).cadence.timer = some (clock - 16000) ∧
    clock - 16000 + (unanswered .run 2).cadence.expiry ≤ (unanswered .run 2).now ∧
    (unanswered .run 2).thread.exchange.outstanding = true ∧ (unanswered .run 1).thread.missCount + 1 ≠ 3 ∧
    (unanswered .run 2).thread.missCount + 1 = 3 ∧ (unanswered .run 2).thread.portOut = false ∧
    (unanswered .run 2).thread.state.quietable = false ∧ (unanswered .off 2).thread.state.quietable = true ∧
    (unanswered .off 2).mayStart = false ∧ (unanswered .tripped 2).mayStart = false ∧
    (setThr (fun u => { u with portOut := true }) (unanswered .run 2)).thread.portOut = true ∧
    (unanswered .run 2).log.newest < Config.lastSequence ∧ (unanswered .run 2).link.queue.length < 8 := by decide +kernel
theorem witness_drivesMark :
    let s := setLink (fun l => { l with ownMark := some (clock - 79) }) on
    s.isJoined = true ∧ s.link.ownMark = some (clock - 79) ∧ (inLink .silent).isJoined = false ∧ on.link.ownMark = none := by
  decide +kernel
theorem witness_ownMarkEnds :
    let s := rx .idle 128 (setLink (fun l => { l with ownMark := some (clock - 80) }) on)
    s.running = true ∧ s.link.ownMark = some (clock - 80) ∧ s.quiet.call = none ∧
    s.phaseAt (s.now - (4 * 20 + 0)) ≠ .receiving ∧ (after (.dominantRunEnd 20 0) s).link.ownMark = none ∧
    (after (.dominantRunEnd 20 0) s).cadence = s.cadence := by decide +kernel
theorem witness_ownMarkEnds_breaks :
    let s := rx .receiving 127 (setLink (fun l => { l with ownMark := some (clock - 80), windowDiscards := 49 }) on)
    s.phaseAt (s.now - (4 * 20 + 0)) = .receiving ∧ s.link.windowDiscards ≠ 50 ∧ s.quiet.call = none ∧
    (after (.dominantRunEnd 20 0) s).link = { s.link with ownMark := none, windowDiscards := 50 } := by decide +kernel
theorem witness_overdue :
    let s (d : Nat) := setCad (fun c => { c with overdue := true }) (ticking .joined d)
    (s 32000).isJoined = true ∧ (s 32000).keepsCadence = true ∧ (s 32000).cadence.overdue = true ∧
    (s 32000).cadence.timer = some (clock - 32000) ∧ (s 32000).thread.exchange.outstanding = false ∧
    (s 32000).receiver.recessiveSince = some (clock - 48) ∧ clock - 48 + 48 ≤ (s 32000).now ∧
    (s 32000).link.ownMark = none ∧ (rx .idle 47 (s 32000)).now < clock - 47 + 48 ∧
    clock - 32000 + (s 32000).cadence.expiry + Config.cadence ≤ (s 32000).now ∧
    (s 31999).now < clock - 31999 + (s 31999).cadence.expiry + Config.cadence := by decide +kernel
theorem witness_offsets : 1 ≤ 7 ∧ 7 ≤ 7 ∧ 5 + 1 < 7 ∧ 6 < 7 := by decide
theorem witness_cadenceRanges : on.CadenceKept ∧ on.OwnEntryKept ∧ step on = .next on.idle := by
  refine ⟨by simp only [State.CadenceKept]; decide +kernel, fun _ => ⟨ownEntry, by decide +kernel⟩, rfl⟩

/-! ## Witnesses: the thread and the stack port -/

theorem witness_goodReply : (asked .run 14400).running = true ∧ (asked .run 14400).thread.exchange.outstanding = true ∧
    reply.checkPassed = true ∧ reply.number = (asked .run 14400).thread.exchange.sent.number ∧
    (asked .run 14400).now ≤ (asked .run 14400).thread.exchange.begun + Config.replyWait ∧
    (asked .run 14401).thread.exchange.begun + Config.replyWait < (asked .run 14401).now := by decide +kernel
theorem witness_goodReply_out :
    let s := setThr (fun u => { u with portOut := true, recoveryCount := 24 }) (asked .off 100)
    s.thread.portOut = true ∧ 25 ≤ s.thread.recoveryCount + 1 ∧ s.CausesKept := by
  simp only [State.CausesKept]; decide +kernel
theorem witness_missed :
    let s (n : Nat) := setThr (fun u => { u with missCount := n, validity := .held }) (asked .run 14400)
    (s 2).running = true ∧ (s 2).thread.exchange.outstanding = true ∧
    (s 2).thread.exchange.begun + Config.replyWait ≤ (s 2).now ∧ (s 1).thread.missCount + 1 ≤ 2 ∧
    (s 2).thread.missCount + 1 = 3 ∧ (s 2).thread.portOut = false ∧ (s 2).takesOffers = true ∧ (s 2).CanReport ∧
    (s 2).thread.state.quietable = false ∧ 4 ≤ (s 3).thread.missCount + 1 ∧
    (setThr (fun u => { u with portOut := true }) (s 2)).thread.portOut = true := by
  simp only [State.CanReport]; decide +kernel
/-- The third miss at hand in a quiet state. -/
def missing (q : QuietState) : State :=
  setQuiet (fun u => { u with state := q }) (setThr (fun u => { u with missCount := 2 }) (asked .off 14400))

theorem witness_missed_quiet : (missing .quiet).running = true ∧ (missing .quiet).thread.exchange.outstanding = true ∧
    (missing .quiet).thread.exchange.begun + Config.replyWait ≤ (missing .quiet).now ∧
    (missing .quiet).thread.missCount + 1 = 3 ∧ (missing .quiet).thread.portOut = false ∧
    (missing .quiet).thread.state.quietable = true ∧ (missing .quiet).takesOffers = true ∧
    (missing .quiet).log.newest < Config.lastSequence ∧ (missing .quiet).link.queue.length < 8 ∧
    [QuietState.active, .pending, .quiet].map (fun q => let u := after .stackReplyTimeout (missing q)
      (u.quiet.state, u.quiet.call.isSome, u.log.records.map (fun r => (r.cls, r.code, r.severity)))) =
      [(.active, false, [(clsStack, 3, 1)]), (.active, false, [(clsStack, 3, 1)]), (.quiet, true, [(clsStack, 3, 1)])] := by
  decide +kernel
theorem witness_repliesMove : (asked .precharge 100).running = true ∧
    (asked .precharge 100).goodReply { reply with breakerClosed := true } = true ∧
    StackReply.Calm { reply with breakerClosed := true } ∧ (asked .run 100).log.newest < Config.lastSequence := by
  simp only [StackReply.Calm]; decide +kernel
theorem witness_repliesMove_open :
    let s := setThr (fun u => { u with breakerStep := .waitBreaker }) (asked .precharge 100)
    s.running = true ∧ s.goodReply reply = true ∧ reply.Calm ∧ breakerMismatch s reply = none ∧
    s.thread.breakerStep = .waitBreaker ∧ reply.breakerClosed = false := by
  simp only [StackReply.Calm]; decide +kernel
theorem witness_repliesMove_rest : (asked .off 100).goodReply reply = true ∧ breakerMismatch (asked .off 100) reply = none ∧
    (asked .tripped 100).goodReply reply = true ∧ breakerMismatch (asked .tripped 100) reply = none ∧
    (setThr (fun u => { u with breakerFault := true }) (asked .stopping 100)).thread.breakerFault = true := by decide +kernel
theorem witness_repliesMove_cells :
    (asked .precharge 100).thread.breakerStep = .waitCharge ∧ reply.contactorClosed = true ∧ 850 ≤ 850 ∧
    { reply with grid := 849 }.grid < 850 ∧ (asked .sync 100).thread.lockCount + 1 < 25 ∧
    25 ≤ (setThr (fun u => { u with lockCount := 24 }) (asked .sync 100)).thread.lockCount + 1 ∧
    (asked .rideThrough 100).thread.state = .rideThrough ∧ (asked .stopping 100).thread.state = .stopping := by
  decide +kernel
theorem witness_replyFaults : (asked .run 100).running = true ∧ (asked .run 100).goodReply reply = true ∧
    (asked .run 100).takesOffers = true ∧ (asked .run 100).CanReport ∧
    (∀ o, (asked .run 100).thread.reply = some o → o.overcurrent = false) ∧
    (∀ o, (asked .run 100).thread.reply = some o → o.desaturation = false) ∧
    breakerMismatch (asked .off 100) { reply with overcurrent := true } = none ∧
    breakerMismatch (asked .off 100) { reply with desaturation := true } = none ∧
    breakerMismatch (asked .off 100) { reply with dcLink := 1151 } = none ∧
    breakerMismatch (asked .off 100) { reply with grid := 1201 } = none ∧
    StackReply.Calm { reply with dcLink := 0 } ∧ StackReply.Calm { reply with grid := 0 } := by
  simp only [State.CanReport, StackReply.Calm]; decide +kernel
theorem witness_replyFaults_breaker :
    let s := setThr (fun u => { u with breakerOpenTimer := some (clock - 40000001) }) (asked .off 100)
    (asked .run 100).thread.breakerFault = false ∧ (asked .run 100).thread.state.gates = true ∧
    reply.breakerClosed = false ∧ s.thread.state.quietable = true ∧
    (∃ t0, s.thread.breakerOpenTimer = some t0 ∧ t0 + Config.breakerTime < s.now) ∧
    (setThr (fun u => { u with overvoltageCount := 1 }) (asked .run 100)).thread.overvoltageCount = 1 := by
  refine ⟨by decide +kernel, by decide +kernel, by decide +kernel, by decide +kernel, ⟨clock - 40000001, ?_⟩, by
    decide +kernel⟩
  decide +kernel
theorem witness_replyEnds :
    let s := setFault (fun f => { f with causes := [⟨1, 1, .latched, false⟩, ⟨1, 2, .latched, false⟩, ⟨1, 4, .condition, false⟩,
                                                    ⟨1, 7, .condition, false⟩] })
      (setThr (fun u => { u with reply := some { reply with overcurrent := true, desaturation := true }, dcLinkFault := true,
                                 breakerFault := true, overvoltageCount := 2 }) (asked .tripped 100))
    let t := after (.stackReply { reply with dcLink := 1100 }) s
    s.running = true ∧ s.goodReply { reply with dcLink := 1100 } = true ∧ s.CausesKept ∧ s.thread.state.quietable = true ∧
    reply.breakerClosed = false ∧ t.fault.causes = [⟨1, 1, .latched, true⟩, ⟨1, 2, .latched, true⟩] ∧
    t.thread.overvoltageCount = 0 ∧ t.thread.gridTimer = some clock ∧
    (after (.stackReply { reply with dcLink := 1101 }) s).holdsCause clsStack 4 = true := by
  simp only [State.CausesKept]; decide +kernel
theorem witness_replyEnds_grid :
    let s := setThr (fun u => { u with gridTimer := some 7 }) (asked .off 100)
    [899, 900, 1100, 1101].map (fun v => (after (.stackReply { reply with grid := v }) s).thread.gridTimer) =
      [none, some 7, some 7, none] := by decide +kernel
theorem witness_replyEnds_calm : (asked .off 100).thread.dcLinkFault = false ∧ (asked .off 100).thread.breakerFault = false ∧
    (asked .off 100).thread.portOut = false ∧ (asked .off 100).thread.reply = none ∧ reply.Calm ∧
    breakerMismatch (asked .off 100) reply = none ∧
    (setThr (fun u => { u with breakerFault := true }) (asked .run 100)).thread.state.gates = true := by
  simp only [StackReply.Calm]; decide +kernel

/-- A station whose thread may start at this period. -/
def startable : State :=
  setThr (fun u => { u with restartHold := some (clock - 200000000) })
    (liveController demand
      (setCool (fun c => { c with factor := 1000 })
        { ticking .joined 16000 with allotment := { AllotmentUnit.initial with capability := 1 } }))

theorem witness_expiry_start :
    let s := setThr (fun u => { u with missCount := 2, exchange := { u.exchange with outstanding := true } }) startable
    s.thread.missCount + 1 = 3 ∧ s.thread.portOut = false ∧ s.mayStart = true ∧
    s.thread.exchange.outstanding = true := by decide +kernel
theorem witness_threadStarts :
    let s := startable
    (s.isJoined && decide (s.quiet.state = .active ∧ s.cadence.timer = some (clock - 16000)) &&
      decide (clock - 16000 + s.cadence.expiry ≤ s.now) && !s.cadence.overdue && !s.thread.exchange.outstanding) = true ∧
    (s.thread.state, s.demand.mode, s.table.controller.state) = (.off, .produce, .live) ∧
    s.fault.causes = [] ∧ 0 < s.allotment.capability ∧ s.thread.portOut = false ∧
    ∀ h ∈ s.thread.restartHold, h + Config.restartHold ≤ s.now := by decide +kernel
theorem witness_stopEnds :
    let s (p : Nat) (q : Int) := { setThr (fun u => { u with state := .stopping }) startable with
      allotment := { AllotmentUnit.initial with pCommand := p, qCommand := q } }
    (s 4 (-4)).isJoined = true ∧ (s 4 (-4)).thread.state = .stopping ∧ max 1 ((s 4 (-4)).cfg.rated / 250) = 4 ∧
    (s 4 (-4)).allotment.qCommand.natAbs ≤ 4 ∧ 4 < (s 5 0).allotment.pCommand ∧
    0 < (s 5 0).cfg.rated * (s 5 0).cooling.factor / 1000 := by decide +kernel
theorem witness_startsOnlyWhenAllowed : exec (.cadenceExpiry false) startable = .next (after (.cadenceExpiry false) startable) ∧
    startable.thread.state = .off ∧ (after (.cadenceExpiry false) startable).thread.state = .precharge := by
  refine ⟨rfl, ?_⟩; decide +kernel
theorem witness_startTimeouts :
    let s (x : ThreadState) (d : Nat) := setThr (fun u => { u with stateTimer := some (clock - d) }) (inThread x)
    (s .precharge 80000000).running = true ∧ (s .precharge 80000000).takesOffers = true ∧
    (s .precharge 80000000).CanReport ∧ (s .precharge 80000000).fault.causes = [] ∧
    clock - 80000000 + Config.prechargeLimit ≤ (s .precharge 80000000).now ∧
    (s .precharge 79999999).now < clock - 79999999 + Config.prechargeLimit ∧
    clock - 40000000 + Config.syncLimit ≤ (s .sync 40000000).now ∧
    (s .sync 39999999).now < clock - 39999999 + Config.syncLimit := by
  simp only [State.CanReport]; decide +kernel
theorem witness_rideThrough :
    let s (d r : Nat) := setThr (fun u => { u with stateTimer := some (clock - d), recoveryTimer := some (clock - r) })
      (inThread .rideThrough)
    (s 1 20000000).running = true ∧ (s 1 20000000).thread.state = .rideThrough ∧
    clock - 20000000 + Config.recoveryTime ≤ (s 1 20000000).now ∧ (s 1 20000000).log.newest < Config.lastSequence ∧
    (s 1 19999999).now < clock - 19999999 + Config.recoveryTime ∧
    (s 120000000 1).now ≤ clock - 120000000 + Config.rideThroughLimit ∧
    clock - 120000001 + Config.rideThroughLimit < (s 120000001 1).now ∧ (s 120000001 1).takesOffers = true ∧
    (s 120000001 1).CanReport ∧ (s 120000001 1).thread.gridTimer.reached (s 120000001 1).now Config.gridHealthy = false := by
  simp only [State.CanReport]; decide +kernel
theorem witness_gridAndHold :
    let s (d : Nat) := setThr (fun u => { u with gridTimer := some (clock - d), restartHold := some (clock - d) })
      (inThread .tripped)
    (s 40000000).running = true ∧ clock - 40000000 + Config.gridHealthy ≤ (s 40000000).now ∧ (s 40000000).CausesKept ∧
    (s 39999999).now < clock - 39999999 + Config.gridHealthy ∧
    clock - 200000000 + Config.restartHold ≤ (s 200000000).now ∧
    (s 199999999).now < clock - 199999999 + Config.restartHold := by
  simp only [State.CausesKept]; decide +kernel

/-- TRIPPED with an acknowledgement pending at an evaluation, and one cause ended or not. -/
def tripped (ended : Bool) : State :=
  setFault (fun f => { f with pendingAck := some (clock - 1000), timer := some (clock - 4000000),
                              causes := [{ cls := 1, code := 1, kind := .latched, ended := ended }] }) (inThread .tripped)

theorem witness_trippedLeft : exec .faultEvaluation (tripped true) = .next (after .faultEvaluation (tripped true)) ∧
    (tripped true).thread.state = .tripped ∧ (after .faultEvaluation (tripped true)).thread.state = .off := by
  refine ⟨rfl, ?_⟩; decide +kernel

/-! ## Witnesses: allotment -/

theorem witness_allotment : (inThread .off).thread.state.zeroCommands = true ∧ (inThread .run).thread.state.zeroCommands = false ∧
    (inThread .run).cfg.rated * (inThread .run).cooling.factor / 1000 = 0 ∧
    (worked .stopping 850 2900 600 1000).allotment.pCommand ≤ 3400 := by decide +kernel
theorem witness_share : on.demand.mode ≠ .produce ∧ (worked .run 850 2900 600 1000).demand.mode = .produce ∧
    (worked .run 850 2900 600 1000).table.controller.state ≠ .lost ∧
    (worked .run 850 2900 600 1000).intake = (9000, 2000) := by decide +kernel
theorem witness_targets : (worked .run 850 2900 600 1000).thread.state = .run ∧
    0 < (allot (worked .run 850 2900 600 1000)).allotment.capability ∧
    (worked .rideThrough 850 2900 600 600).thread.state = .rideThrough ∧
    0 < (allot (worked .rideThrough 850 2900 600 600)).allotment.capability := by decide +kernel
theorem witness_envelope : on.EnvelopeKept ∧ startable.EnvelopeKept ∧ step on = .next on.idle := by
  refine ⟨by simp only [State.EnvelopeKept]; decide +kernel, by simp only [State.EnvelopeKept]; decide +kernel, rfl⟩

/-! ## Witnesses: the peer table -/

theorem witness_statusTaken : on.running = true ∧ on.receives = true ∧
    receive (frameLevels 4 (.threadStatus status)) = (false, .good 4 (.threadStatus status)) ∧ 4 ≠ on.own ∧
    on.table.threads.get? 4 = some Entry.initial ∧ (Entry.initial : Entry StatusRecord).record = none := by decide +kernel
theorem witness_statusTaken_repeat :
    (livePeer status on).table.threads.get? 4 =
      some { role := .thread, state := .live, age := 0, good := 3, record := some status, lastTag := some 1 } := by
  decide +kernel
theorem witness_statusTaken_heard :
    let e (age good : Nat) : Entry StatusRecord :=
      { role := .thread, state := .heard, age := age, good := good, record := some status, lastTag := some 9 }
    on.quiet.threadLimits.1 < (e 7 2).age ∧ (e 6 2).age ≤ on.quiet.threadLimits.1 ∧ 3 ≤ (e 6 2).good + 1 ∧
    (e 6 1).good + 1 < 3 ∧ (e 6 2).lastTag ≠ some status.tag := by decide +kernel
theorem witness_demandTaken : on.running = true ∧ on.receives = true ∧
    receive (frameLevels 0 (.plantDemand demand)) = (false, .good 0 (.plantDemand demand)) ∧
    on.table.controller.record = none := by decide +kernel
theorem witness_demandTaken_entry :
    let e (state : EntryState) (age good : Nat) : Entry DemandRecord :=
      { role := .turbineController, state := state, age := age, good := good, record := some demand, lastTag := some 9 }
    on.quiet.controllerLimits.1 < (e .heard 31 2).age ∧ (e .heard 30 2).age ≤ on.quiet.controllerLimits.1 ∧
    (e .heard 30 1).good + 1 < 3 ∧ 3 ≤ (e .heard 30 2).good + 1 ∧ (e .stale 31 3).state = .stale ∧
    (e .lost 201 0).state = .lost ∧ (e .heard 30 2).lastTag ≠ some demand.tag := by decide +kernel
theorem witness_views :
    (livePeer { status with pumpOwner := true, pumpHealthy := true, fanOwner := true, threadCode := 3, nacelleTrip := true }
      on).pumpOwners = [(2, true), (4, true)] ∧
    (livePeer { status with fanOwner := true } on).fanOwners = [(4, false)] ∧
    (livePeer { status with threadCode := 3 } (inThread .run)).switchingSet = [2, 4] ∧
    (livePeer { status with nacelleTrip := true } on).nacelleView = [4] := by decide +kernel
theorem witness_demandTaken_stops :
    receive (frameLevels 0 (.plantDemand { demand with tag := 2, modeCode := 0 })) =
      (false, .good 0 (.plantDemand { demand with tag := 2, modeCode := 0 })) ∧
    { demand with modeCode := 0 }.read.mode ≠ .produce ∧ (inThread .sync).thread.state = .sync ∧
    (inThread .run).thread.state = .run := by decide +kernel
theorem witness_demandTaken_ack :
    let s := liveController { demand with tag := 9, ackTag := 0 } (inThread .tripped)
    s.thread.state = .tripped ∧ s.table.controller.record = some { demand with tag := 9, ackTag := 0 } ∧
    ({ demand with tag := 9, ackTag := 0 } : DemandRecord).ackTag ≠ demand.ackTag ∧ s.table.controller.state = .live ∧
    s.table.controller.lastTag ≠ some demand.tag := by decide +kernel
theorem witness_demandTaken_wakes :
    let s (mark : Nat) : State := setQuiet (fun q => { q with lastMark := some (clock - mark) }) inQuiet
    let taken (d : DemandRecord) (s : State) := after (.frameReceived (frameLevels 0 (.plantDemand d))) s
    (s 39999).running = true ∧ (s 39999).receives = true ∧ (s 39999).quiet.state = .quiet ∧
    (s 39999).link.state ≠ .silent ∧ (s 39999).quiet.call = none ∧ clock < clock - 39999 + Config.callWindow ∧
    clock - 40000 + Config.callWindow ≤ clock ∧ demand.read.mode ≠ .park ∧ { demand with modeCode := 0 }.read.mode = .park ∧
    [s 39999, s 40000].map (fun u => (taken demand u).quiet.call.map (fun c => c.first.map (· - clock))) =
      [some (some 1), some none] ∧
    (taken { demand with modeCode := 2 } (s 40000)).quiet.call.isSome = true ∧
    (taken { demand with modeCode := 0 } (s 40000)).quiet = (s 40000).quiet ∧
    (taken demand (setQuiet (fun q => { q with state := .pending }) on)).quiet.state = .active := by decide +kernel
theorem witness_effectiveDemand : on.table.controller.state = .absent ∧
    (liveController demand on).table.controller.record = some demand ∧
    (liveController demand on).table.controller.state ≠ .absent ∧
    (liveController demand on).table.controller.state ≠ .lost := by decide +kernel
theorem witness_ageingLimits : on.quiet.state ≠ .quiet ∧ inQuiet.quiet.state = .quiet ∧
    { inQuiet.quiet with interval := 30 }.interval = 30 := by decide +kernel
theorem witness_entriesAge :
    let s (d : Nat) := { livePeer status on with table := { (livePeer status on).table with ageTimer := some (clock - d) } }
    (s 40000).running = true ∧ clock - 40000 + Config.ageing ≤ (s 40000).now ∧
    (s 39999).now < clock - 39999 + Config.ageing ∧ 4 ≠ (s 40000).own ∧
    (s 40000).table.threads.get? 4 = (livePeer status on).table.threads.get? 4 := by decide +kernel
theorem witness_entriesAge_controller :
    let s := liveController demand (inThread .run)
    let u := { s with table := { s.table with controller := { s.table.controller with state := .stale, age := 200 } } }
    u.yaw.state = .idle ∧ u.takesOffers = true ∧ u.CanReport ∧ u.table.controller.state ≠ .absent ∧
    u.table.controller.state ≠ .lost ∧ u.quiet.controllerLimits.2 < min 65535 (u.table.controller.age + 1) ∧
    u.thread.state = .run := by simp only [State.CanReport]; decide +kernel
theorem witness_statusBuilt :
    let s (d : Nat) (c : Bool) := { on with table := { on.table with statusTimer := some (clock - d), changePending := c } }
    (s 80000 false).isJoined = true ∧ (s 80000 false).table.threads.get? (s 80000 false).own = some ownEntry ∧
    clock - 80000 + 80000 ≤ (s 80000 false).now ∧ (s 79999 false).now < clock - 79999 + 80000 ∧
    clock - 20000 + 20000 ≤ (s 20000 true).now ∧ (s 19999 true).now < clock - 19999 + 20000 ∧
    (s 80000 false).link.queue.length < 8 := by decide +kernel

/-! ## Witnesses: cooling -/

/-- An evaluation of the Cooling Unit due after `d` clock steps. -/
def cooling (d : Nat) : State := setCool (fun c => { c with timer := some (clock - d) }) on

theorem witness_thermalFactor : (cooling 4000000).running = true ∧
    (cooling 4000000).cooling.timer = some (clock - 4000000) ∧ clock - 4000000 + Config.evaluation ≤ (cooling 4000000).now ∧
    (cooling 3999999).now < clock - 3999999 + Config.evaluation ∧ (-400 : Int) ≤ -400 ∧ (-400 : Int) ≤ 1500 := by
  decide +kernel
theorem witness_thermalFactor_sensors :
    (after (.coolingEvaluation (some 451) none) (cooling 4000000)).cooling.inlet.state = .valid ∧
    (after (.coolingEvaluation (some 451) none) (cooling 4000000)).cooling.factorInlet = 990 ∧
    (after (.coolingEvaluation (some 451) none) (cooling 4000000)).cooling.outlet.state = .failed ∧
    (after (.coolingEvaluation none none)
      (setCool (fun c => { c with inlet := { state := .holding, last := 450, hold := 9 } }) (cooling 4000000))).cooling.inlet =
      { state := .holding, last := 450, hold := 10 } := by decide +kernel
theorem witness_thermalFactor_quiet :
    let sensor : Sensor := { state := .valid, last := 300, hold := 0 }
    let s (q : QuietState) :=
      setQuiet (fun u => { u with state := q }) (setCool (fun c => { c with healthy := true, heatsink := sensor }) (cooling 4000000))
    let c (s : State) := (after (.coolingEvaluation (some 500) (some 300)) s).allotment.capability
    (s .quiet).quiet.state = .quiet ∧ (s .quiet).link.state = .joined ∧ (s .pending).quiet.state ≠ .quiet ∧
    (c (s .quiet), c (s .pending), c (s .active)) = (500, 0, 0) ∧ (s .active).allotment.capability = 0 ∧
    c (setLink (fun l => { l with state := .listen }) (s .active)) = 500 := by decide +kernel
theorem witness_coolingReports :
    let s := setCool (fun c => { c with tachCount := 4, command := 30, lowRun := 19, derateArmed := true })
      (cooling 4000000)
    s.running = true ∧ clock - 4000000 + Config.evaluation ≤ s.now ∧ s.LogOpen ∧ s.cooling.inlet.state = .notRead ∧
    s.cfg.role = .pump ∧ s.cooling.tachCount < s.cfg.tachMinimum ∧ 30 ≤ s.cooling.command ∧ s.cooling.healthy = true ∧
    (after (.coolingEvaluation (some 1501) none) s).cooling.factor < 1000 ∧
    (after (.coolingEvaluation (some 1501) none) s).log.records.map (fun r => (r.cls, r.code, r.detail)) =
      [(3, 3, some 1501), (3, 5, some (-32768)), (3, 4, some 0), (4, 1, some 4)] := by
  simp only [State.LogOpen, FaultLog.Consecutive]; decide +kernel
theorem witness_coolingReports_absence :
    let s := setCool (fun c => { c with absenceRun := 19 })
      { setThr (fun u => { u with state := .run }) (cooling 4000000) with
        config := { on.config with values := some { cfg with role := .fan } } }
    s.pumpOwners = [] ∧ (after (.coolingEvaluation (some 300) (some 300)) s).thread.state = .run ∧
    s.cooling.absenceLogged = false ∧
    (after (.coolingEvaluation (some 300) (some 300)) s).cooling.absenceLogged = true := by decide +kernel
theorem witness_heatLoad :
    let s := setThr (fun u => { u with reply := some { reply with active := 3000, reactive := 400 }, validity := .held })
      (cooling 4000000)
    s.thread.reply = some { reply with active := 3000, reactive := 400 } ∧ s.thread.validity = .held ∧
    3026 * 3026 ≤ 3000 * 3000 + 400 * 400 ∧ 3000 * 3000 + 400 * 400 < (3026 + 1) * (3026 + 1) ∧
    (cooling 4000000).thread.validity = .absent := by decide +kernel
theorem witness_heatsinkTrips :
    let s (v : Int) (flag : Bool) := setCool (fun c => { c with thermalFlag := flag })
      (setThr (fun u => { u with reply := some { reply with heatsink := v }, validity := .valid }) (cooling 4000000))
    (s 950 false).running = true ∧ (s 950 false).thread.validity = .valid ∧ 950 ≤ (950 : Int) ∧
    (s 950 false).cooling.thermalFlag = false ∧ (849 : Int) < 850 ∧ (s 849 true).cooling.thermalFlag = true ∧
    (s 849 true).CausesKept ∧ (850 : Int) ≤ 850 ∧ (949 : Int) < 950 := by
  simp only [State.CausesKept]; decide +kernel
theorem witness_actuator : (cooling 4000000).isJoined = true ∧ (cooling 4000000).cfg.role = .pump ∧
    (4, { status with flowDemand := 80 }) ∈ (livePeer { status with flowDemand := 80 } (cooling 4000000)).liveRecords ∧
    on.held = false ∧ (setCool (fun c => { c with pwmStart := clock - 2000 }) on).cooling.pwmStart + 2000 ≤ clock ∧
    clock < (setCool (fun c => { c with pwmStart := clock - 1999 }) on).cooling.pwmStart + 2000 := by decide +kernel
theorem witness_actuator_proof : on.cfg.role ≠ .none ∧ (4 : Nat) < on.cfg.tachMinimum ∧ on.cfg.tachMinimum ≤ 5 := by
  decide +kernel
theorem witness_pwm :
    let s (r d : Nat) := setCool (fun c => { c with pwmStart := clock - d, runningDuty := r }) on
    (s 1000 999).now = (s 1000 999).cooling.pwmStart + 999 ∧
    [s 1000 0, s 1000 999, s 1000 1000, s 0 0, s 2000 1999].map (·.pwmActive) = [true, true, false, false, true] := by
  decide +kernel

/-! ## Witnesses: wind -/

/-- A vane period opened 1000 µs ago, its high time captured after `h` µs. -/
def vane (h : Option Nat) : State :=
  setWind (fun w => { w with periodOpen := some ((clock / 40 - 1000) % 65536), openedAt := clock / 40 - 1000,
                             highCapture := h.map (fun x => (clock / 40 - 1000 + x) % 65536) }) on

theorem witness_vaneEdges_none :
    ({ on with config := { on.config with values := some { cfg with vane := false } } } : State).cfg.vane = false := by
  decide +kernel
theorem witness_vaneEdges : on.running = true ∧ on.cfg.vane = true ∧ on.wind.periodOpen = none ∧
    (vane none).wind.periodOpen.isSome = true ∧ (vane none).wind.highCapture = none ∧
    (vane (some 500)).wind.highCapture.isSome = true ∧ (vane (some 500)).wind.broken = false ∧
    (vane none).now / 40 < (vane none).wind.openedAt + 65536 := by decide +kernel
theorem witness_vaneEdges_sample : (after .vaneRisingEdge (vane (some 20))).wind.sampleCount = 1 ∧
    (after .vaneRisingEdge (vane (some 19))).wind.sampleCount = 0 := by decide +kernel
theorem witness_anemometer : on.running = true ∧ on.cfg.anemometer = true ∧ on.wind.prescalerPhase + 1 < on.cfg.prescaler ∧
    on.cfg.prescaler ≤ (setWind (fun w => { w with prescalerPhase := 3 }) on).wind.prescalerPhase + 1 := by decide +kernel

/-- An evaluation of the Wind Input Unit due after `d` clock steps. -/
def blowing (d : Nat) : State := setWind (fun w => { w with timer := some (clock - d) }) on

theorem witness_windInputs : (blowing 4000000).running = true ∧ (blowing 4000000).wind.timer = some (clock - 4000000) ∧
    clock - 4000000 + Config.evaluation ≤ (blowing 4000000).now ∧
    (blowing 3999999).now < clock - 3999999 + Config.evaluation ∧ on.cfg.encoder = true ∧
    (blowing 4000000).wind.sampleCount < 20 ∧
    20 ≤ (setWind (fun w => { w with sampleCount := 20 }) (blowing 4000000)).wind.sampleCount ∧
    (blowing 4000000).wind.windowCount + 1 < 10 ∧
    10 ≤ (setWind (fun w => { w with windowCount := 9 }) (blowing 4000000)).wind.windowCount + 1 := by decide +kernel
theorem witness_windReports :
    let s := livePeer { status with windSpeed := some 80 } (setWind (fun w => { w with
      sampleCount := 19, invalidRun := 9, vaneValid := true, runOverruns := 3, overruns := 4, windowCount := 9,
      suspectRun := 59, speedStatus := .valid }) (blowing 4000000))
    s.running = true ∧ clock - 4000000 + Config.evaluation ≤ s.now ∧ s.LogOpen ∧ s.cfg.vane = true ∧
    9 ≤ s.wind.windowCount ∧ s.wind.speedStatus ≠ .invalid ∧ s.wind.twistStatus ≠ .invalid ∧
    (after (.windEvaluation (some 14401)) s).log.records.map (fun r => (r.cls, r.code, r.detail)) =
      [(7, 1, some 7), (7, 3, some 14401), (7, 2, some 0)] := by
  simp only [State.LogOpen, FaultLog.Consecutive]; decide +kernel
theorem witness_windReports_recovery :
    let s := setWind (fun w => { w with windowCount := 9, speedStatus := .invalid, speedRecovery := 9, edgeCount := 4 })
      (blowing 4000000)
    9 ≤ s.wind.windowCount ∧ s.wind.speedStatus = .invalid ∧
    10 ≤ min 800 (s.wind.edgeCount * s.cfg.prescaler * s.cfg.speedFactor / 100) ∧
    (after (.windEvaluation none) s).wind.speedStatus = .valid := by decide +kernel
theorem witness_windReports_agreement :
    let s := livePeer { status with direction := some 151 }
      (setWind (fun w => { w with agreeing := true, vaneValid := true, direction := 0 }) (blowing 4000000))
    s.wind.agreeing = true ∧ (after (.windEvaluation none) s).wind.agreeing = false ∧
    (after (.windEvaluation none) s).log.records.map (fun r => (r.cls, r.code, r.detail)) =
      [(7, 3, some (-32768)), (7, 4, some 151)] := by decide +kernel
theorem witness_sharedValues :
    let s := livePeer { status with direction := some 300, windSpeed := some 250, twist := some 14400 } (blowing 4000000)
    (after (.windEvaluation none) s).wind.misalignment = some 300 ∧
    (after (.windEvaluation none) s).wind.sharedSpeed = some 250 ∧
    (after (.windEvaluation none) s).wind.sharedTwist = some 14400 := by decide +kernel
theorem witness_stormFlag :
    let s := livePeer { status with windSpeed := some 250 } (setWind (fun w => { w with setRun := 299 }) (blowing 4000000))
    let calm := livePeer { status with windSpeed := some 199 }
      (setWind (fun w => { w with clearRun := 5999, storm := true }) (blowing 4000000))
    s.wind.storm = false ∧ s.demand.mode ≠ .storm ∧ (after (.windEvaluation none) s).wind.storm = true ∧
    calm.wind.storm = true ∧ (after (.windEvaluation none) calm).wind.storm = false := by decide +kernel

/-! ## Witnesses: yaw -/

/-- A yaw check due, with a demand order and a twist in view. -/
def checking (order : Nat) : State :=
  setYawU (fun y => { y with checkTimer := some (clock - 4000000) })
    (setWind (fun w => { w with sharedTwist := some 0 }) (liveController { demand with orderCode := order } on))

theorem witness_yawCheck : (checking 3).isJoined = true ∧ (checking 3).yaw.checkTimer = some (clock - 4000000) ∧
    (checking 3).yaw.state = .idle ∧ (checking 3).quiet.state = .active ∧
    clock - 4000000 + Config.evaluation ≤ (checking 3).now ∧ (checking 3).takesPart = true ∧
    (checking 3).yaw.stagger = none ∧ (checking 3).yaw.hold = none ∧ (checking 3).demand.order = .turnCw ∧
    (checking 3).wind.storm = false ∧ (checking 3).inhibited ⟨.order, .cw⟩ = false := by decide +kernel
theorem witness_yawCheck_dwell :
    let s (m : Int) := setWind (fun w => { w with misalignment := some m }) (checking 0)
    (s 80).wind.misalignment = some 80 ∧ (s (-80)).wind.misalignment = some (-80) ∧ (s 40).yaw.stormPositive = true ∧
    (s 80).yaw.autoPositive = true ∧
    (setYawU (fun y => { y with hold := some (clock - 199999999) }) (checking 3)).now <
      clock - 199999999 + Config.yawHold := by decide +kernel
/-- A check due, armed for every note, with a misalignment and dwell counters one short of their ends. -/
def windward (order : Nat) (m : Int) (storm : Bool) (twist : Int) : State :=
  setYawU (fun y => { y with autoDwell := 99, stormDwell := 19, autoPositive := true, stormPositive := true,
                             noteYaw4 := true, noteYaw5 := true, noteYaw8 := true, hold := some (clock - 200000000) })
    (setWind (fun w => { w with misalignment := some m, storm := storm, sharedTwist := some twist, agreeing := true,
                                sharedSpeed := some 30 }) (checking order))

theorem witness_triggers : (windward 1 40 true 0).isJoined = true ∧ (windward 1 40 true 0).takesPart = true ∧
    (windward 1 40 true 0).yaw.stagger = none ∧ clock - 200000000 + Config.yawHold ≤ (windward 1 40 true 0).now ∧
    (windward 1 40 true 0).LogOpen ∧ (after .yawCheck (windward 1 40 true 0)).yaw.stormDwell = 20 ∧
    (windward 1 40 true 0).inhibited ⟨.storm, .cw⟩ = false ∧ (windward 2 0 false (-1801)).demand.order = .untwist ∧
    (windward 2 0 false (-1801)).inhibited ⟨.untwist, .cw⟩ = false := by
  simp only [State.LogOpen, FaultLog.Consecutive]; decide +kernel
theorem witness_triggers_signs :
    let s (storm : Bool) (m : Int) :=
      (after .yawCheck (setYawU (fun y => { y with stormPositive := storm }) (windward 0 m true 0))).yaw
    let u (auto : Bool) (m : Int) := (after .yawCheck (setYawU (fun y => { y with autoPositive := auto })
      (windward 0 m false 0))).yaw
    [u false (-80), u true (-80), u false 80, u true 79].map (fun y => (y.autoDwell, y.autoPositive)) =
      [(100, false), (1, false), (1, true), (0, true)] ∧
    [s false (-40), s true (-40), s false 40].map (fun y => (y.stormDwell, y.stormPositive)) =
      [(20, false), (1, false), (1, true)] := by decide +kernel
theorem witness_triggers_staggered :
    [windward 3 40 true 0, windward 4 0 true 0, windward 2 0 false 1801, windward 0 80 false 0, windward 0 79 false 0].map
      (fun s => (after .yawCheck s).yaw.stagger.map (fun g => (g.mode, g.direction, g.budget))) =
      [some (.storm, .cw, 28), some (.order, .ccw, 28), some (.untwist, .ccw, 28), some (.auto, .cw, 28), none] := by
  decide +kernel
theorem witness_triggers_inhibited :
    [windward 3 0 false 10800, windward 1 40 true 14400].map
      (fun s => (after .yawCheck s).log.records.map (fun r => (r.cls, r.code, r.detail))) =
      [[(5, 4, some 10800)], [(5, 5, some 14400)]] ∧
    (windward 3 0 false 10800).inhibited ⟨.order, .cw⟩ = true ∧
    twistReached .storm .cw (some 14400) = true := by decide +kernel
theorem witness_triggers_peer :
    let s := windward 3 0 false 0
    let e : Entry StatusRecord :=
      { role := .thread, state := .stale, age := 7, good := 3, record := some status, lastTag := some 1 }
    let u := { s with table := { s.table with threads := s.table.threads.set 4 e } }
    u.table.threads.get? 4 = some e ∧ 4 ≠ u.own ∧ u.yaw.noteYaw8 = true ∧
    (after .yawCheck u).log.records.map (fun r => (r.cls, r.code, r.detail)) = [(5, 8, some 4)] := by decide +kernel
theorem witness_triggers_quiet :
    let s (q : QuietState) := setQuiet (fun u => { u with state := q }) (windward 3 0 false 0)
    (s .pending).quiet.state = .pending ∧ (after .yawCheck (s .pending)).quiet.state = .active ∧
    (s .quiet).quiet.state = .quiet ∧ (after .yawCheck (s .quiet)).quiet.call.isSome = true := by decide +kernel
theorem witness_inhibits : (checking 3).inhibited ⟨.order, .cw⟩ = false ∧
    (setWind (fun w => { w with sharedTwist := some 10800 }) (checking 3)).inhibited ⟨.order, .cw⟩ = true ∧
    (setWind (fun w => { w with sharedTwist := some 10800 }) (checking 3)).inhibited ⟨.storm, .cw⟩ = false := by decide +kernel

/-- A stagger timer of station 2 running for `d` clock steps. -/
def staggered (d : Nat) : State :=
  setYawU (fun y => { y with stagger := some { since := clock - d, mode := .order, direction := .cw, budget := 5 } })
    (checking 3)

theorem witness_stagger : (staggered 160000).isJoined = true ∧ (staggered 160000).yaw.state = .idle ∧
    (staggered 160000).yaw.stagger = some { since := clock - 160000, mode := .order, direction := .cw, budget := 5 } ∧
    clock - 160000 + 80000 * (staggered 160000).own ≤ (staggered 160000).now ∧
    (staggered 160000).inhibited ⟨.order, .cw⟩ = false ∧ (staggered 159999).now < clock - 159999 + 80000 * 2 ∧
    (after .staggerExpiry (staggered 160000)).yaw.session.expected = [] ∧
    (after .staggerExpiry (livePeer status (staggered 160000))).yaw.session.expected = [4] := by decide +kernel
theorem witness_stagger_offers :
    [(after .staggerExpiry (livePeer status (staggered 160000))),
      (after .staggerExpiry (staggered 160000))].map (fun t => t.link.queue.map (·.frame)) =
    [[.yawProposal 1 SessionMode.order.code Direction.cw.code 5 (some 0)],
      [.yawStart 1 SessionMode.order.code Direction.cw.code 5 [(2, 3)],
       .yawProposal 1 SessionMode.order.code Direction.cw.code 5 (some 0)]] := by decide +kernel
theorem witness_stagger_inhibited :
    let s := setWind (fun w => { w with sharedTwist := some 10800 }) (staggered 160000)
    s.inhibited ⟨.order, .cw⟩ = true ∧ s.quiet.state = .active := by decide +kernel
theorem witness_proposal : (checking 0).isJoined = true ∧ (checking 0).receives = true ∧ (checking 0).takesPart = true ∧
    28 ≠ 0 ∧
    receive (frameLevels 4 (.yawProposal 1 SessionMode.auto.code Direction.cw.code 28 none)) =
      (false, .good 4 (.yawProposal 1 SessionMode.auto.code Direction.cw.code 28 none)) ∧
    ¬(4 = (checking 0).yaw.session.proposer ∧ 1 = (checking 0).yaw.session.tag) ∧ (checking 0).yaw.state = .idle ∧
    (inYaw .driving).yaw.state = .driving := by decide +kernel
theorem witness_proposal_ignored :
    receive (frameLevels 4 (.yawProposal 1 0 0 0 none)) = (false, .good 4 (.yawProposal 1 0 0 0 none)) ∧
    (checking 0).isJoined = true ∧ (checking 0).receives = true := by decide +kernel
theorem witness_proposal_reasons : (checking 0).motorsReady = 3 ∧ (checking 0).yawBarred = false ∧
    (checking 0).yaw.release = false ∧ (checking 0).pins.brakesReleased = false ∧
    twistReached .auto .cw (some 10800) = true ∧ twistReached .auto .cw (some 10799) = false ∧
    (checking 1).demand.order = .hold := by decide +kernel

/-- A proposer that expects station 4 alone. -/
def proposing : State :=
  setYawU (fun y => { y with session := { y.session with proposer := 2, tag := 7, expected := [4], budget := 5 },
                             answerWait := some (clock - 800000) }) (inYaw .proposing)

theorem witness_answers : proposing.isJoined = true ∧ proposing.receives = true ∧ proposing.takesPart = true ∧ proposing.yaw.state = .proposing ∧
    proposing.yaw.session.proposer = proposing.own ∧ proposing.yaw.session.expected = [4] ∧
    proposing.yaw.session.answers = [] ∧ 4 ≠ proposing.own ∧
    receive (frameLevels 4 (.yawAnswer 2 7 1 3 0)) =
      (false, .good 4 (.yawAnswer proposing.own proposing.yaw.session.tag 1 3 0)) ∧
    receive (frameLevels 4 (.yawAnswer 2 7 2 0 5)) =
      (false, .good 4 (.yawAnswer proposing.own proposing.yaw.session.tag 2 0 5)) ∧
    proposing.log.newest < Config.lastSequence ∧ proposing.quiet.state = .active := by decide +kernel
theorem witness_answers_last :
    let s := setYawU (fun y => { y with session := { y.session with
                                                     expected := [4, 5],
                                                     answers := [⟨5, true, 1, 0⟩] } }) proposing
    let t := after (.frameReceived (frameLevels 4 (.yawAnswer 2 7 1 3 0))) s
    4 ∈ s.yaw.session.expected ∧ (∀ a ∈ s.yaw.session.answers, a.station ≠ 4) ∧ s.yaw.session.expected.Nodup ∧
    s.own ∉ s.yaw.session.expected ∧ (s.yaw.session.answers.map (·.station)).Nodup ∧
    (∃ a ∈ s.yaw.session.answers, a.station = 5 ∧ a.ready = true) ∧
    t.yaw.session.allocation = allocate 5 [(2, 3), (4, 3), (5, 1)] ∧ t.yaw.state = .releasing ∧
    t.link.queue.map (·.frame) = [.yawStart 7 s.yaw.session.mode.code s.yaw.session.direction.code 5
      t.yaw.session.allocation] := by decide +kernel
theorem witness_answers_ignored :
    let s := setYawU (fun y => { y with session := { y.session with expected := [4, 5] } }) proposing
    s.receives = true ∧ s.yaw.session.proposer = s.own ∧ s.yaw.session.tag = 7 ∧ 4 ∈ s.yaw.session.expected ∧
    6 ∉ s.yaw.session.expected ∧ (∀ a ∈ s.yaw.session.answers, a.station ≠ 5) ∧
    receive (frameLevels 4 (.yawAnswer 2 7 1 3 0)) = (false, .good 4 (.yawAnswer 2 7 1 3 0)) ∧ (3 ≠ 1 ∧ 3 ≠ 2) := by
  decide +kernel
theorem witness_proposal_yields :
    receive (frameLevels 1 (.yawProposal 3 SessionMode.auto.code Direction.cw.code 28 none)) =
      (false, .good 1 (.yawProposal 3 SessionMode.auto.code Direction.cw.code 28 none)) ∧
    proposing.receives = true ∧ proposing.yaw.state = .proposing ∧ 1 < proposing.own ∧ proposing.own ≤ 2 ∧
    ¬(1 = proposing.yaw.session.proposer ∧ 3 = proposing.yaw.session.tag) := by decide +kernel

/-- In a session of station 4 with tag 7. -/
def following (x : YawState) : State :=
  setYawU (fun y => { y with session := { y.session with proposer := 4, tag := 7 } }) (inYaw x)

theorem witness_start : (following .joined).isJoined = true ∧ (following .joined).receives = true ∧
    (following .joined).takesPart = true ∧
    (following .joined).yaw.state = .joined ∧ 5 ≠ 0 ∧
    [(2, 4), (4, 0)].Pairwise (fun a b : Nat × Nat => a.1 < b.1) ∧ (∀ p ∈ [(2, 4), (4, 0)], p.2 ≤ 4) ∧
    receive (frameLevels 4 (.yawStart 7 SessionMode.storm.code Direction.ccw.code 5 [(2, 4), (4, 0)])) =
      (false, .good 4 (.yawStart 7 SessionMode.storm.code Direction.ccw.code 5 [(2, 4), (4, 0)])) ∧
    (2, 4) ∈ [(2, 4), (4, 0)] ∧ (∀ p ∈ [(4, 0)], p.1 ≠ (following .joined).own) ∧
    (following .joined).quiet.state = .active := by decide +kernel
theorem witness_start_ignored :
    let x := following .joined
    receive (frameLevels 4 (.yawStart 7 1 1 5 [(2, 4)])) = (false, .good 4 (.yawStart 7 1 1 5 [(2, 4)])) ∧
    receive (frameLevels 5 (.yawStart 7 1 1 5 [(2, 4)])) = (false, .good 5 (.yawStart 7 1 1 5 [(2, 4)])) ∧
    5 ≠ x.yaw.session.proposer ∧ 8 ≠ x.yaw.session.tag ∧ (following .releasing).yaw.state ≠ .joined ∧
    x.yaw.state = .joined ∧ x.isJoined = true ∧ x.receives = true := by decide +kernel
theorem witness_start_lists :
    [[(4, 1), (2, 1)], [(2, 1), (2, 1)], [(2, 5)]].map (fun a =>
      (receive (frameLevels 4 (.yawStart 7 1 1 5 a)) == (false, .good 4 (.yawStart 7 1 1 5 a)),
        (after (.frameReceived (frameLevels 4 (.yawStart 7 1 1 5 a))) (following .joined)).yaw.state)) =
      [(true, .joined), (true, .joined), (true, .joined)] := by decide +kernel
theorem witness_noPart :
    let s (motors : Nat) (isolated : Bool) : State :=
      { proposing with config := { on.config with values := some { cfg with motors := motors, isolated := isolated } } }
    (s 0 false).cfg.motors = 0 ∧ (s 3 true).cfg.isolated = true ∧ (s 0 false).isJoined = true ∧
    (s 0 false).receives = true ∧
    receive (frameLevels 4 (.yawAnswer 2 7 1 3 0)) = (false, .good 4 (.yawAnswer 2 7 1 3 0)) ∧
    (Frame.yawAnswer 2 7 1 3 0).kind ∈ [4, 5, 6, 7] := by decide +kernel
theorem witness_proposal_yields_joined : (following .joined).yaw.state = .joined ∧
    4 ≤ (following .joined).yaw.session.proposer ∧ (following .joined).yaw.session.proposer < 5 ∧
    ¬(4 = (following .joined).yaw.session.proposer ∧ 1 = (following .joined).yaw.session.tag) ∧
    (4 = (following .joined).yaw.session.proposer ∧ 7 = (following .joined).yaw.session.tag) := by decide +kernel
theorem witness_stops : (following .driving).isJoined = true ∧ (following .driving).receives = true ∧
    (following .driving).takesPart = true ∧
    receive (frameLevels 6 (.yawStop 4 7)) = (false, .good 6 (.yawStop 4 7)) ∧
    4 = (following .driving).yaw.session.proposer ∧ 7 = (following .driving).yaw.session.tag ∧
    (following .driving).yaw.state = .driving ∧ (following .joined).quiet.state = .active ∧
    (following .idle).yaw.state = .idle ∧ proposing.log.newest < Config.lastSequence := by decide +kernel
theorem witness_allocation : [(1, 2), (2, 4)][1]? = some (2, 4) ∧ (allocate 3 [(1, 2), (2, 4)])[1]? = some (2, 1) ∧
    (allocate 3 [(1, 2), (2, 4)])[0]? = some (1, 2) ∧ (1 : Nat) < 4 := by decide +kernel
theorem witness_sessionWaits :
    let s (x : YawState) (d : Nat) := setYawU (fun y => { y with
      answerWait := some (clock - d), startWait := some (clock - d), releaseWait := some (clock - d),
      driveTimer := some (clock - d), hold := some (clock - d), checkTimer := some (clock - d), driveReached := true }) (inYaw x)
    proposing.isJoined = true ∧ proposing.CanReport ∧ clock - 800000 + Config.answerWait ≤ proposing.now ∧
    proposing.yaw.session.lowestMissing = some 4 ∧ clock - 1600000 + Config.startWait ≤ (s .joined 1600000).now ∧
    clock - 24000000 + Config.releaseWait ≤ (s .releasing 24000000).now ∧
    clock - 4800000000 + Config.driveTime ≤ (s .driving 4800000000).now ∧
    clock - 200000000 + Config.yawHold ≤ (s .idle 200000000).now ∧
    clock - 4000000 + Config.evaluation ≤ (s .driving 4000000).now ∧ (s .driving 4000000).yaw.driveReached = true := by
  simp only [State.CanReport]; decide +kernel
theorem witness_stopConditions :
    let s (m : SessionMode) (order : Nat) (mis twist : Option Int) : State :=
      setYawU (fun y => { y with state := .driving, session := { y.session with proposer := 2, mode := m, direction := .cw } })
        (setWind (fun w => { w with misalignment := mis, sharedTwist := twist }) (checking order))
    [s .auto 0 (some 16) (some 0), s .auto 0 (some (-15)) (some 0), s .auto 0 none (some 0), s .auto 1 (some 16) (some 0),
      s .auto 0 (some 16) none, s .storm 0 (some 11) none, s .storm 0 (some 10) none, s .untwist 2 none (some (-901)),
      s .untwist 2 none (some 900), s .untwist 0 none (some 901), s .order 3 none (some 0), s .order 4 none (some 0)].map
        (fun u => (after .yawCheck u).yaw.state) =
      [.driving, .stopping, .stopping, .stopping, .stopping, .driving, .stopping, .driving, .stopping, .stopping, .driving,
        .stopping] ∧
    (after .yawCheck (following .driving)).yaw.state = .driving ∧ (following .driving).yaw.session.proposer ≠ on.own ∧
    (after .yawCheck (s .auto 0 none none)).link.queue.map (·.frame) = [.yawStop 2 0] := by decide +kernel
theorem witness_brakes :
    let s := livePeer { status with proposer := 4, sessionTag := 7, yawCode := 3, brakesReleased := true }
      (setYawU (fun y => { y with session := { y.session with allocation := [(2, 2), (4, 1)], runCount := 2 } })
        (following .releasing))
    s.isJoined = true ∧ s.quiet.state = .active ∧ s.yaw.state = .releasing ∧ s.otherParticipants = [4] ∧
    s.recordOf 4 = some { status with proposer := 4, sessionTag := 7, yawCode := 3, brakesReleased := true } ∧
    twistReached s.yaw.session.mode s.yaw.session.direction s.wind.sharedTwist = false ∧
    (after (.brakeFeedbackChange true) s).yaw.motors = ⟨.runCw, .runCw, .off, .off⟩ := by decide +kernel
theorem witness_drivingBegins :
    let r := { status with tag := 2, proposer := 4, sessionTag := 7, yawCode := 3, brakesReleased := true }
    let s (old : StatusRecord) (d : Nat) : State :=
      setWind (fun w => { w with timer := some (clock - d) }) (livePeer old
        { setYawU (fun y => { y with session := { y.session with allocation := [(2, 2), (4, 1)], runCount := 2 } })
            (following .releasing) with
          pins := { on.pins with brakesReleased := true } })
    let u := s { r with tag := 1 } 4000000
    (s status 0).isJoined = true ∧ (s status 0).receives = true ∧ (s status 0).yaw.state = .releasing ∧
    (s status 0).pins.brakesReleased = true ∧ 4 ∈ (s status 0).otherParticipants ∧ r.nacelleTrip = false ∧
    receive (frameLevels 4 (.threadStatus r)) = (false, .good 4 (.threadStatus r)) ∧
    (after (.frameReceived (frameLevels 4 (.threadStatus r))) (s status 0)).yaw.state = .driving ∧
    u.recordOf 4 = some { r with tag := 1 } ∧ u.liveRecords = [(4, { r with tag := 1 })] ∧ u.cfg.encoder = true ∧
    (after (.windEvaluation (some 10799)) u).yaw.state = .driving ∧
    (after (.windEvaluation (some 10800)) u).yaw.state = .stopping := by decide +kernel
theorem witness_drivingBegins_twist :
    let s := setWind (fun w => { w with timer := some (clock - 4000000) }) (livePeer { status with twist := some 5 } on)
    s.OwnEntryKept ∧ s.liveRecords = [(4, { status with twist := some 5 })] ∧ ¬4 < s.own ∧ s.cfg.encoder = true ∧
    (after (.windEvaluation (some 14400)) s).wind.sharedTwist = some 14400 ∧
    (after (.windEvaluation (some 14401)) s).wind.sharedTwist = some 5 := by
  refine ⟨fun _ => ⟨ownEntry, ?_⟩, ?_⟩ <;> decide +kernel
theorem witness_brakes_stopping :
    let s (d : Nat) := setYawU (fun y => { y with brakeDelay := some (clock - d), applyWait := some (clock - d) })
      (inYaw .stopping)
    clock - 8000000 + Config.brakeDelay ≤ (s 8000000).now ∧ (s 8000000).pins.brakesReleased = false ∧
    clock - 12000000 + Config.applyWait ≤ (s 12000000).now ∧ (s 12000000).CanReport ∧ (inYaw .driving).CanReport := by
  simp only [State.CanReport]; decide +kernel
theorem witness_motorFault :
    let s := setYawU (fun y => { y with motors := ⟨.runCw, .off, .off, .runCw⟩, faultMotor := some 4 }) (inYaw .driving)
    s.running = true ∧ 1 ≤ 4 ∧ 4 ≤ 4 ∧ s.yaw.state = .driving ∧ s.motorRuns 4 = true ∧ s.takesOffers = true ∧ s.CanReport ∧
    s.motorRuns 2 = false ∧ s.yaw.faultMotor = some 4 ∧ s.yaw.faultMotor ≠ some 1 := by
  simp only [State.CanReport]; decide +kernel
/-- Following station 4 with its entry LIVE and of an age. -/
def watching (age : Nat) : State :=
  let s := livePeer status (following .driving)
  let e : Entry StatusRecord :=
    { role := .thread, state := .live, age := age, good := 3, record := some status, lastTag := some 1 }
  { s with table := { s.table with ageTimer := some (clock - 40000), threads := s.table.threads.set 4 e } }

theorem witness_staleStops : (watching 6).running = true ∧ clock - 40000 + Config.ageing ≤ (watching 6).now ∧
    (watching 6).yaw.state = .driving ∧ (watching 6).LogOpen ∧ (watching 6).takesOffers = true ∧
    (watching 6).link.queue.length ≤ 5 ∧ 4 ≠ (watching 6).own ∧ (watching 6).yaw.session.proposer = 4 ∧
    (watching 6).quiet.threadLimits.1 < min 65535 (6 + 1) ∧ min 65535 (6 + 1) ≤ (watching 6).quiet.threadLimits.2 ∧
    ¬((watching 5).quiet.threadLimits.1 < min 65535 (5 + 1)) ∧ (after .ageingStep (watching 6)).yaw.state = .stopping ∧
    (after .ageingStep (watching 5)).yaw.state = .driving := by
  simp only [State.LogOpen, FaultLog.Consecutive]; decide +kernel
theorem witness_echoStops :
    let r := { status with tag := 2, proposer := 4, sessionTag := 7, yawCode := 5 }
    let s := setYawU (fun y => { y with session := { y.session with allocation := [(2, 1), (4, 1)] } }) (watching 0)
    s.isJoined = true ∧ s.receives = true ∧ receive (frameLevels 4 (.threadStatus r)) = (false, .good 4 (.threadStatus r)) ∧
    4 ≠ s.own ∧ (some 1 : Option Nat) ≠ some r.tag ∧ r.nacelleTrip = false ∧ r.proposer = s.yaw.session.proposer ∧
    r.sessionTag = s.yaw.session.tag ∧ 4 = s.yaw.session.proposer ∧ 5 ≠ s.yaw.session.proposer ∧
    s.yaw.session.proposer ≠ s.own ∧ (after (.frameReceived (frameLevels 4 (.threadStatus r))) s).yaw.state = .stopping := by
  decide +kernel
theorem witness_twistStops :
    let s := setWind (fun w => { w with timer := some (clock - 4000000) }) (following .driving)
    s.running = true ∧ clock - 4000000 + Config.evaluation ≤ s.now ∧ s.yaw.state = .driving ∧ s.LogOpen ∧
    s.yaw.session.mode = .auto ∧ s.yaw.session.direction = .cw ∧
    (after (.windEvaluation (some 10800)) s).wind.sharedTwist = some 10800 ∧
    (after (.windEvaluation (some 10799)) s).yaw.state = .driving := by
  simp only [State.LogOpen, FaultLog.Consecutive]; decide +kernel
theorem witness_barred : proposing.running = true ∧ proposing.takesOffers = true ∧ proposing.link.queue.length ≤ 6 ∧
    proposing.LogOpen ∧ proposing.fault.stopSeen = false ∧ proposing.fault.fireSeen = false ∧
    proposing.holdsCause clsPlant 1 = false ∧ proposing.holdsCause clsPlant 2 = false ∧
    proposing.holdsCause clsPlant 6 = false ∧ proposing.receives = true ∧
    (following .joined).yaw.state = .joined ∧ (following .releasing).yaw.state = .releasing := by
  simp only [State.LogOpen, FaultLog.Consecutive]; decide +kernel
theorem witness_yawDrive : on.YawKept ∧ step on = .next on.idle := by
  simp only [State.YawKept]; exact ⟨by decide +kernel, rfl⟩
theorem witness_entersDriving :
    let s := livePeer { status with proposer := 4, sessionTag := 7, yawCode := 4 }
      (setYawU (fun y => { y with session := { y.session with allocation := [(2, 2), (4, 1)], runCount := 2 } })
        (following .releasing))
    s.yaw.state = .releasing ∧ (after (.brakeFeedbackChange true) s).yaw.state = .driving ∧
    exec (.brakeFeedbackChange true) s = .next (after (.brakeFeedbackChange true) s) := by
  refine ⟨by decide +kernel, by decide +kernel, rfl⟩

/-! ## Witnesses: faults -/

theorem witness_safetyInputs : State.reset.running = false ∧ on.running = true ∧ on.CanReport ∧ on.takesOffers = true ∧
    on.yaw.state = .idle ∧ on.fault.stopSeen = false ∧ on.fault.fireSeen = false := by
  simp only [State.CanReport]; decide +kernel
theorem witness_safetyInputs_inactive :
    let held (code : Nat) : Cause := { cls := 8, code := code, kind := .latched, ended := false }
    let s (code : Nat) :=
      setFault (fun f => { f with stopSeen := true, fireSeen := true, causes := [held code] }) (inThread .tripped)
    (∀ code ∈ [1, 2], (s code).running = true ∧ (s code).fault.stopSeen = true ∧ (s code).fault.fireSeen = true ∧
      (s code).CausesKept) ∧ (s 1).holdsCause clsPlant 1 = true ∧ (s 2).holdsCause clsPlant 2 = true := by
  simp only [State.CausesKept]; decide +kernel

/-- A notice of a class, with a severity. -/
def notice (cls severity : Nat) : Notice :=
  { number := 65535, cls := cls, code := 1, severity := severity, action := 1, detail := -1, logSequence := 1 }

theorem witness_peerNotices : on.isJoined = true ∧ on.receives = true ∧
    receive (frameLevels 4 (.faultNotice (notice 3 1))) = (false, .good 4 (.faultNotice (notice 3 1))) ∧
    1 ≤ (notice 1 1).cls ∧ (notice 8 3).cls ≤ 8 ∧ on.log.newest < Config.lastSequence ∧ (notice 3 1).severity ≠ 3 ∧
    on.cfg.acceptMask.getLsbD ((notice 3 1).cls - 1) = true ∧ on.cfg.acceptMask.getLsbD ((notice 8 1).cls - 1) = false ∧
    (notice 8 3).severity = 3 ∧ on.yaw.state = .idle ∧ on.quiet.state = .active := by decide +kernel
theorem witness_nacelleStatus :
    let r := { status with tag := 2, nacelleTrip := true }
    let s := livePeer status on
    s.running = true ∧ s.receives = true ∧ receive (frameLevels 4 (.threadStatus r)) = (false, .good 4 (.threadStatus r)) ∧
    4 ≠ s.own ∧ (some status.tag : Option Nat) ≠ some r.tag ∧ r.nacelleTrip = true ∧ status.nacelleTrip = false ∧
    s.yaw.state = .idle ∧ s.quiet.state = .active ∧ s.log.newest < Config.lastSequence ∧
    s.fault.taken.get? 4 = some false ∧ 6 ≤ s.quiet.threadLimits.1 ∧ 3 ≤ 2 + 1 ∧
    (setFault (fun f => { f with taken := f.taken.set 4 true }) s).fault.taken.get? 4 = some true := by decide +kernel
theorem witness_evaluation : (tripped true).running = true ∧ (tripped true).fault.timer = some (clock - 4000000) ∧
    clock - 4000000 + Config.evaluation ≤ (tripped true).now ∧ (tripped true).thread.state = .tripped ∧
    (tripped true).fault.pendingAck.isSome = true ∧
    (∀ c ∈ (tripped true).fault.causes, c.kind = .latched ∧ c.ended = true ∧ (c.cls, c.code) ≠ (clsPlant, 6)) ∧
    (tripped true).log.newest < Config.lastSequence ∧
    (∃ c ∈ (tripped false).fault.causes, c.ended = false ∧ (c.cls, c.code) ≠ (clsPlant, 6)) := by decide +kernel
theorem witness_evaluation_view :
    let s := livePeer { status with nacelleTrip := true } (setFault (fun f => { f with pendingAck := none }) (tripped false))
    s.fault.pendingAck = none ∧ s.nacelleView = [4] ∧ (tripped false).nacelleView = [] ∧ s.CausesKept := by
  simp only [State.CausesKept]; decide +kernel
theorem witness_ackLapse :
    let s (d : Nat) := setFault (fun f => { f with pendingAck := some (clock - d) }) (tripped false)
    (s 200000000).running = true ∧ clock - 200000000 + Config.ackLapse ≤ (s 200000000).now ∧
    (s 199999999).now < clock - 199999999 + Config.ackLapse ∧ (s 200000000).log.newest < Config.lastSequence := by
  decide +kernel
theorem witness_causes : on.CausesKept ∧ step on = .next on.idle := by
  simp only [State.CausesKept]; exact ⟨by decide +kernel, rfl⟩
theorem witness_causes_table :
    let c (ended : Bool) : State := tripped ended
    (c false).CausesKept ∧ (clsYaw, 3, CauseKind.latched) ∈ causeTable ∧ (clsPlant, 6, CauseKind.condition) ∈ causeTable := by
  simp only [State.CausesKept]; decide +kernel

/-! ## Witnesses: the fault log -/

/-- A log that holds records 11 to 13. -/
def logged : State :=
  let r (n : Nat) : LogRecord := { sequence := n, stamp := 0, origin := 2, cls := 1, code := 1, severity := 1, action := 1,
                                   detail := some 0, noticeNumber := none }
  { on with log := { FaultLog.initial with records := [r 11, r 12, r 13], newest := 13, overwritten := 10 } }

theorem witness_logRequest : logged.isJoined = true ∧ logged.receives = true ∧
    receive (frameLevels 0 (.logRequest 2 14 255)) = (false, .good 0 (.logRequest logged.own 14 255)) ∧
    logged.log.newest < 14 ∧ logged.log.overwritten + 1 ≤ 11 ∧ 13 ≤ logged.log.newest ∧ 10 < logged.log.overwritten + 1 ∧
    3 ≠ logged.own := by decide +kernel
theorem witness_logEntries :
    let s (c : CursorState) (n : Nat) := { logged with log := { logged.log with cursor := c, next := n, remaining := 1 } }
    logged.isJoined = true ∧ logged.link.queue = [] ∧ logged.log.Consecutive ∧ (s .emptyDue 1).log.cursor = .emptyDue ∧
    (s .answering 14).log.newest < (s .answering 14).log.next ∧ (s .answering 13).log.next ≤ (s .answering 13).log.newest ∧
    logged.log.records ≠ [] ∧ 5 < (List.replicate 6 (⟨.yawStop 1 1, false⟩ : Slot)).length ∧
    (let q : List Slot := List.replicate 4 ⟨.yawStop 1 1, false⟩ ++ [⟨.logEntry (emptyEntry 1), false⟩]
     q.length ≤ 5 ∧ (q.filter (fun x => x.frame.kind == 28)).length < 2) := by
  simp only [FaultLog.Consecutive]; decide +kernel
theorem witness_logStays : logged.log.Consecutive ∧ step logged = .next logged.idle := by
  simp only [FaultLog.Consecutive]; exact ⟨by decide +kernel, rfl⟩

/-! ## Witnesses: quiet -/

theorem witness_quietOrder : on.isJoined = true ∧ on.receives = true ∧
    receive (frameLevels 0 (.quietOrder 61 0)) = (false, .good 0 (.quietOrder 61 0)) ∧
    (inThread .run).thread.state.quietable = false ∧ on.thread.state.quietable = true ∧ on.quiet.state = .active ∧
    on.yaw.state = .idle ∧ on.link.queue = [] ∧ queued.link.queue ≠ [] ∧ inQuiet.quiet.state = .quiet ∧
    (setQuiet (fun q => { q with state := .pending }) on).quiet.state = .pending := by decide +kernel
theorem witness_quietExchange :
    let s (d : Nat) := setThr (fun u => { u with quietTimer := some (clock - d) }) inQuiet
    (s 4000000).isJoined = true ∧ (s 4000000).quiet.state = .quiet ∧ clock - 4000000 + Config.quietExchange ≤ (s 4000000).now ∧
    (s 3999999).now < clock - 3999999 + Config.quietExchange ∧ (s 4000000).thread.exchange.outstanding = false ∧
    (s 4000000).thread.state.quietable = true ∧ (s 4000000).thread.exchange.sent.breakerClosed = false := by decide +kernel
theorem witness_quietExchange_missed :
    let s (n : Nat) (out : Bool) :=
      setThr (fun u => { u with portOut := out, quietTimer := some (clock - 4000000), missCount := n,
                                exchange := { u.exchange with outstanding := true } }) inQuiet
    let t (n : Nat) (out : Bool) := after .quietExchangeTimer (s n out)
    (s 2 false).isJoined = true ∧ (s 2 false).quiet.state = .quiet ∧ (s 2 false).thread.quietTimer = some (clock - 4000000) ∧
    clock - 4000000 + Config.quietExchange ≤ (s 2 false).now ∧ (s 2 false).thread.exchange.outstanding = true ∧
    (s 2 false).thread.missCount + 1 = 3 ∧ (s 1 false).thread.missCount + 1 ≠ 3 ∧ (s 2 true).thread.portOut = true ∧
    (s 2 false).thread.state.quietable = true ∧ (s 2 false).log.newest < Config.lastSequence ∧
    (s 2 false).link.queue.length < 8 ∧
    [t 1 false, t 2 false, t 2 true].map (fun u =>
      ((u.quiet.call.isSome, u.thread.missCount, u.thread.portOut), u.log.records.map (fun r => (r.cls, r.code)))) =
      [((false, 2, false), []), ((true, 3, true), [(clsStack, 3)]), ((false, 3, true), [])] := by decide +kernel
theorem witness_nacelleWakes :
    let f : Notice := { number := 1, cls := 8, code := 1, severity := 3, action := 3, detail := 0, logSequence := 1 }
    inQuiet.isJoined = true ∧ inQuiet.receives = true ∧
    receive (frameLevels 4 (.faultNotice f)) = (false, .good 4 (.faultNotice f)) ∧ 1 ≤ f.cls ∧ f.cls ≤ 8 ∧ f.severity = 3 ∧
    (after (.frameReceived (frameLevels 4 (.faultNotice f))) inQuiet).quiet.call.isSome = true ∧ Severity.warn ≠ .note := by
  decide +kernel
theorem witness_wakeTimer :
    let s := setQuiet (fun q => { q with wakePeriod := 1, wakeTimer := some (clock - 2400000000),
                                         lastMark := some (clock - 40000) }) inQuiet
    s.isJoined = true ∧ s.quiet.state = .quiet ∧ clock - 2400000000 + s.quiet.wakePeriod * Config.minute ≤ s.now ∧
    s.quiet.call = none ∧ clock - 40000 + Config.callWindow ≤ s.now := by decide +kernel

/-- A call with its first mark `d` clock steps ago. -/
def calling (done d : Nat) (waiting : Bool) : State :=
  setQuiet (fun q => { q with call := some { done := done, first := some (clock - d), since := clock - d, waiting := waiting,
                                             markEnd := none } }) inQuiet

theorem witness_wakeCall : (calling 1 4000 false).isJoined = true ∧ (calling 1 4000 false).quiet.state = .quiet ∧ 2 < 3 ∧
    clock - 4000 + 4000 * 1 ≤ (calling 1 4000 false).now ∧ (calling 1 3999 false).now < clock - 3999 + 4000 * 1 ∧
    (calling 1 4000 false).link.ownMark = none ∧ (calling 1 4000 false).receiver.recessiveSince = some (clock - 48) ∧
    clock - 48 + 48 ≤ (calling 1 4000 false).now ∧ (rx .idle 47 (calling 1 4000 false)).now < clock - 47 + 48 ∧
    clock - 44000 + 4000 * 1 + Config.callWindow ≤ (calling 1 44000 true).now ∧
    (calling 1 43999 true).now < clock - 43999 + 4000 * 1 + Config.callWindow := by decide +kernel
theorem witness_wakeCall_stands :
    let s (done : Nat) := setQuiet (fun q => { q with call := q.call.map (fun c => { c with markEnd := some (clock - 47) }) })
      (calling done (4000 * done) false)
    (s 1).quiet.call.bind (·.markEnd) = some (clock - 47) ∧ (s 1).now < clock - 47 + 48 ∧ clock - 48 + 48 ≤ (s 1).now ∧
    (after (.wakeCallMark true) (s 2)).quiet.state = .active := by decide +kernel
theorem witness_wakeCall_runs :
    let s (done : Nat) (waiting own : Bool) : State :=
      rx .idle 128 (setLink (fun l => { l with ownMark := if own then some (clock - 80) else none }) (calling done 80 waiting))
    let t (done : Nat) (waiting own : Bool) := after (.dominantRunEnd 20 0) (s done waiting own)
    (s 3 false true).isJoined = true ∧ (s 3 false true).quiet.state = .quiet ∧
    (s 3 false true).phaseAt (clock - (4 * 20 + 0)) ≠ .receiving ∧
    (t 3 false true).quiet.state = .active ∧ (t 2 false true).quiet.state = .quiet ∧
    (t 2 true false).quiet.state = .active ∧ (t 1 true false).quiet.call.map (·.done) = some 2 ∧
    (t 1 false false).quiet.call.map (·.markEnd) = some (some clock) := by decide +kernel
theorem witness_wakeCall_fixed :
    let s (d : Nat) := setQuiet (fun q => { q with wakePeriod := 1, wakeTimer := some (clock - 2400000000),
                                                   lastMark := some (clock - d) }) inQuiet
    clock - 2400000000 + (s 9).quiet.wakePeriod * Config.minute ≤ (s 9).now ∧ (s 9).quiet.call = none ∧
    [39999, 8000, 8001, 40000].map (fun d => (after .wakeTimerExpiry (s d)).quiet.call.map
      (fun c => c.first.map (· - clock))) = [some (some 1), some (some 0), some (some 15999), some none] := by
  decide +kernel
theorem witness_wakeCall_stuck :
    let s (d : Nat) := setLink (fun l => { l with ownMark := some (clock - d) }) (calling 3 48000 false)
    1 ≤ 3 ∧ (s 40000).link.ownMark = some (clock - 40000) ∧ clock - 40000 + Config.callWindow ≤ (s 40000).now ∧
    (s 39999).now < clock - 39999 + Config.callWindow := by decide +kernel
/-- A call whose first mark waits for the next idle, since `d` clock steps, a mark heard just before. -/
def idling (d : Nat) : State :=
  setQuiet (fun q => { q with call := some { done := 0, first := none, since := clock - d, waiting := false,
                                             markEnd := some (clock - 47) } }) inQuiet

theorem witness_wakeCall_idle :
    (rx .abandoned 47 (idling 0)).isJoined = true ∧ (rx .abandoned 47 (idling 0)).quiet.state = .quiet ∧
    clock < clock - 47 + 48 ∧ (idling 0).receiver.recessiveSince = some (clock - 48) ∧ (idling 0).link.ownMark = none ∧
    clock - 40000 + Config.callWindow ≤ (idling 40000).now ∧ (idling 39999).now < clock - 39999 + Config.callWindow ∧
    (after (.wakeCallMark false) (rx .abandoned 47 (idling 0))).quiet.call.map (·.done) = some 0 ∧
    (after (.wakeCallMark true) (idling 0)).quiet.call.map (·.done) = some 0 ∧
    (after (.wakeCallMark false) (idling 0)).quiet.call.bind (·.first) = some clock ∧
    (after .wakeCallGiveUp (idling 40000)).quiet.state = .active ∧
    (after .wakeCallGiveUp (idling 39999)).quiet.state = .quiet := by decide +kernel
theorem witness_thirdMark : 1000 ≤ 40999 ∧ 40999 < 1000 + Config.callWindow ∧ thirdMark 9001 1000 = 33000 ∧
    thirdMark 9000 1000 = 17000 := by decide +kernel
theorem witness_heardCall :
    let s (d n : Nat) := setQuiet (fun q => { q with callMark := some (clock - 64 - d), callCount := n }) inQuiet
    (s 6000 2).isJoined = true ∧ (s 6000 2).quiet.state = .quiet ∧ (s 6000 2).quiet.call = none ∧
    (s 6000 2).link.ownMark = none ∧ (rx .abandoned 48 (s 6000 2)).phaseAt (clock - (4 * 16 + 0)) ≠ .receiving ∧
    (s 6000 2).now - (4 * 16 + 0) ≤ clock - 64 - 6000 + 6000 ∧
    clock - 64 - 6001 + 6000 < (s 6001 1).now - (4 * 16 + 0) := by decide +kernel
theorem witness_heardCall_breaks :
    let s (n : Nat) := rx .receiving 111 (setLink (fun l => { l with windowDiscards := 49 })
      (setQuiet (fun q => { q with callMark := some (clock - 64 - 6000), callCount := n }) inQuiet))
    let own (c : State) := rx .receiving 111 (setLink (fun l => { l with windowDiscards := 49 }) c)
    (s 2).phaseAt (clock - (4 * 16 + 0)) = .receiving ∧ (s 2).link.windowDiscards ≠ 50 ∧ (s 2).quiet.call = none ∧
    (own (idling 0)).phaseAt (clock - (4 * 16 + 0)) = .receiving ∧
    [s 2, s 1, own (calling 1 4000 true), own (idling 0)].map (fun u => let t := after (.dominantRunEnd 16 0) u
      ((t.link.windowDiscards, t.quiet.state, t.quiet.callCount), t.quiet.call.map (fun c => (c.done, c.markEnd)))) =
      [((50, .active, 0), none), ((50, .quiet, 2), none), ((50, .quiet, 0), some (2, none)),
        ((50, .quiet, 0), some (0, some clock))] := by decide +kernel
theorem witness_heardCall_report :
    let s := rx .receiving 111 (setLink (fun l => { l with windowDiscards := 50 }) inQuiet)
    let t := after (.dominantRunEnd 16 0) s
    s.isJoined = true ∧ s.quiet.state = .quiet ∧ s.quiet.call = none ∧ s.link.ownMark = none ∧
    s.phaseAt (clock - (4 * 16 + 0)) = .receiving ∧ s.link.windowDiscards = 50 ∧ t.link.windowDiscards = 51 ∧
    t.quiet.call.bind (·.markEnd) = some clock := by decide +kernel
theorem witness_quietRules : on.QuietKept ∧ inQuiet.QuietKept ∧ step on = .next on.idle := by
  refine ⟨by simp only [State.QuietKept]; decide +kernel, by simp only [State.QuietKept]; decide +kernel, rfl⟩

end Sys2Proof.Tests
end

section
/-!
The Peer Table: the ageing limits by quiet state (R42, R46, R48), what one ageing step makes of an entry (R45),
and the statement on the ageing limits.
-/
namespace Sys2Proof.Machine

/-! ## The limits -/

theorem QuietControl.threadLimits_of_ne_quiet {q : QuietControl} (h : q.state ≠ .quiet) :
    q.threadLimits = (Config.threadStale, Config.threadLost) := by
  unfold QuietControl.threadLimits
  cases hq : q.state with
  | quiet => exact absurd hq h
  | active => rfl
  | pending => rfl

theorem QuietControl.controllerLimits_of_ne_quiet {q : QuietControl} (h : q.state ≠ .quiet) :
    q.controllerLimits = (Config.controllerStale, Config.controllerLost) := by
  unfold QuietControl.controllerLimits
  cases hq : q.state with
  | quiet => exact absurd hq h
  | active => rfl
  | pending => rfl

theorem QuietControl.threadLimits_of_quiet {q : QuietControl} (h : q.state = .quiet) :
    q.threadLimits = (min Config.scaledCap (2500 * q.interval), min Config.scaledCap (5000 * q.interval)) := by
  simp only [QuietControl.threadLimits, h]

/-- R46: while QUIET entry 0 has the scaled limits of the thread entries. -/
theorem QuietControl.controllerLimits_of_quiet {q : QuietControl} (h : q.state = .quiet) :
    q.controllerLimits = q.threadLimits := by
  simp only [QuietControl.controllerLimits, QuietControl.threadLimits, h]

/-! ## One ageing step of an entry -/

theorem countHeld_of_lt {limit n : Nat} (h : n < limit) : countHeld limit n = n + 1 := Nat.min_eq_right h

section ageStep
variable {ρ : Type} {e : Entry ρ} {limits : Nat × Nat}

/-- R45: an entry that was heard is judged by its new age. -/
theorem Entry.ageStep_of_ne_absent (heard : e.state ≠ .absent) :
    e.ageStep limits =
      if limits.2 < countHeld 65535 e.age then { e with age := countHeld 65535 e.age, state := .lost, good := 0 }
      else if limits.1 < countHeld 65535 e.age ∧ e.state = .live then
        { e with age := countHeld 65535 e.age, state := .stale }
      else { e with age := countHeld 65535 e.age } := by
  unfold Entry.ageStep
  split
  · contradiction
  all_goals rfl

theorem Entry.ageStep_age (heard : e.state ≠ .absent) : (e.ageStep limits).age = countHeld 65535 e.age := by
  rw [ageStep_of_ne_absent heard]
  split_ifs <;> rfl

theorem Entry.ageStep_lost_iff (live : e.state = .live) :
    (e.ageStep limits).state = .lost ↔ limits.2 < countHeld 65535 e.age := by
  rw [ageStep_of_ne_absent (by simp [live])]
  split_ifs with lost stale
  · simp [lost]
  · simp [lost]
  · simp [lost, live]

theorem Entry.ageStep_stale_iff (live : e.state = .live) :
    (e.ageStep limits).state = .stale ↔ limits.1 < countHeld 65535 e.age ∧ countHeld 65535 e.age ≤ limits.2 := by
  rw [ageStep_of_ne_absent (by simp [live])]
  split_ifs with lost stale
  · simp [lost]
  · simp [stale.1, Nat.not_lt.mp lost]
  · have within : ¬ limits.1 < countHeld 65535 e.age := fun h => stale ⟨h, live⟩
    simp [within, live]

end ageStep

/-! ## The statement -/

/-- Settles O31: the limits are read off by the quiet state, and a LIVE entry's step is judged by its new age. -/
theorem ageingLimits : Obligations.AgeingLimits := by
  intro q
  have scaled (h : q.state = .quiet) {i : Nat} (hi : q.interval = i) :
      q.threadLimits = (min 65534 (2500 * i), min 65534 (5000 * i)) :=
    hi ▸ QuietControl.threadLimits_of_quiet h
  refine ⟨?active, ?quiet, fun h => scaled h, fun h => scaled h, ?longest, ?passing⟩
  case active =>
    exact fun h => ⟨QuietControl.threadLimits_of_ne_quiet h, QuietControl.controllerLimits_of_ne_quiet h⟩
  case quiet =>
    exact fun h => ⟨QuietControl.threadLimits_of_quiet h, QuietControl.controllerLimits_of_quiet h⟩
  case longest =>
    intro h hi
    refine ⟨scaled h hi, fun e live oldest => ?_⟩
    have risen : countHeld 65535 e.age = 65535 := by rw [oldest, countHeld_of_lt (by decide)]
    rw [Entry.ageStep_lost_iff live, Entry.ageStep_age (by simp [live]), risen, scaled h hi]
    exact ⟨by decide, rfl⟩
  case passing =>
    intro limits e live young
    rw [Entry.ageStep_lost_iff live, Entry.ageStep_stale_iff live, Entry.ageStep_age (by simp [live]),
      countHeld_of_lt young]
    exact ⟨rfl, Iff.rfl, Iff.rfl⟩

end Sys2Proof.Machine
end

section
/-!
The Allotment Unit: the law of the integer square root (spec 00), clipping, the targets of RUN (R66) and of
RIDE_THROUGH (R67) and the circle of C_own that both keep, and the statement on the targets.
-/
namespace Sys2Proof.Machine

/-! ## The integer square root -/

/-- The rest of the search narrows the bracket of the root, `2 ^ b` wide, to width 1. -/
theorem isqrtFrom_bounds (b n : Nat) : ∀ r : Nat, r * r ≤ n → n < (r + 2 ^ b) * (r + 2 ^ b) →
    isqrtFrom b n r * isqrtFrom b n r ≤ n ∧ n < (isqrtFrom b n r + 1) * (isqrtFrom b n r + 1) := by
  induction b with
  | zero => exact fun r low high => ⟨low, high⟩
  | succ b ih =>
    intro r low high
    rw [pow_succ] at high
    unfold isqrtFrom
    split_ifs with fits
    · exact ih _ fits (by rwa [show r + 2 ^ b + 2 ^ b = r + 2 ^ b * 2 by omega])
    · exact ih r low (Nat.not_le.mp fits)

/-- The bits the search tries reach past the root, so it starts with the root bracketed. -/
theorem lt_searchWidth_sq (n : Nat) : n < 2 ^ (Nat.log2 n / 2 + 1) * 2 ^ (Nat.log2 n / 2 + 1) := by
  calc n < 2 ^ (Nat.log2 n + 1) := Nat.lt_log2_self
    _ ≤ 2 ^ (Nat.log2 n / 2 + 1 + (Nat.log2 n / 2 + 1)) := Nat.pow_le_pow_right (by decide) (by omega)
    _ = _ := pow_add _ _ _

theorem isqrt_bounds (n : Nat) : isqrt n * isqrt n ≤ n ∧ n < (isqrt n + 1) * (isqrt n + 1) :=
  isqrtFrom_bounds _ n 0 (Nat.zero_le n) (by simpa only [Nat.zero_add] using lt_searchWidth_sq n)

@[simp] theorem isqrt_zero : isqrt 0 = 0 := rfl

/-- What fits beside `a` in the circle of `c`: a magnitude up to the root of the rest. -/
theorem sq_add_sq_le_of_le_isqrt {a b c : Nat} (ha : a ≤ c) (hb : b ≤ isqrt (c * c - a * a)) :
    a * a + b * b ≤ c * c := by
  have beside : b * b ≤ c * c - a * a := (Nat.mul_self_le_mul_self hb).trans (isqrt_bounds _).1
  have within : a * a ≤ c * c := Nat.mul_self_le_mul_self ha
  omega

/-! ## Clipping -/

theorem clip_of_natAbs_le {x : Int} {limit : Nat} (h : x.natAbs ≤ limit) : clip x limit = x := by
  unfold clip
  rw [if_neg (by omega), if_neg (by omega)]

theorem clip_of_lt_natAbs {x : Int} {limit : Nat} (h : limit < x.natAbs) :
    clip x limit = if 0 ≤ x then (limit : Int) else -(limit : Int) := by
  unfold clip
  split_ifs <;> omega

theorem natAbs_clip_le (x : Int) (limit : Nat) : (clip x limit).natAbs ≤ limit := by
  unfold clip
  split_ifs <;> omega

@[simp] theorem clip_zero (x : Int) : clip x 0 = 0 := Int.natAbs_eq_zero.mp (Nat.le_zero.mp (natAbs_clip_le x 0))

/-! ## The targets -/

/-- R66: no reactive current is left at an active target of C_own. -/
theorem targetsRun_reactive_of_le {c pRaw : Nat} (h : c ≤ pRaw) (qRaw : Int) : (targetsRun c pRaw qRaw).2 = 0 := by
  simp [targetsRun, Nat.min_eq_right h]

/-- An active and a reactive current whose magnitude is at most `c`: the circle that R66 and R67 keep. -/
def InCircle (c : Nat) (pq : Nat × Int) : Prop := (pq.1 : Int) * pq.1 + pq.2 * pq.2 ≤ (c : Int) * c

theorem inCircle_iff (c p : Nat) (q : Int) : InCircle c (p, q) ↔ p * p + q.natAbs * q.natAbs ≤ c * c := by
  unfold InCircle
  rw [← Int.natAbs_mul_self (a := q)]
  exact_mod_cast Iff.rfl

theorem targetsRun_inCircle (c pRaw : Nat) (qRaw : Int) : InCircle c (targetsRun c pRaw qRaw) :=
  (inCircle_iff ..).mpr (sq_add_sq_le_of_le_isqrt (Nat.min_le_right pRaw c) (natAbs_clip_le qRaw _))

theorem targetsRideThrough_inCircle (c pRaw support : Nat) : InCircle c (targetsRideThrough c pRaw support) := by
  refine (inCircle_iff ..).mpr ?_
  rw [add_comm]
  exact sq_add_sq_le_of_le_isqrt (Nat.min_le_right support c) (Nat.min_le_right pRaw _)

theorem State.targets_of_run {s : State} (run : s.thread.state = .run) (able : 0 < s.allotment.capability) :
    s.targets = targetsRun s.allotment.capability s.rawShare.1 s.rawShare.2 := by
  simp [State.targets, run, able.ne']

theorem State.targets_of_rideThrough {s : State} (ride : s.thread.state = .rideThrough)
    (able : 0 < s.allotment.capability) :
    s.targets = targetsRideThrough s.allotment.capability s.rawShare.1 (supportCurrent s.cfg.rated s.gridVoltage) := by
  simp [State.targets, ride, able.ne']

/-! A period's allotment forms its targets at the capability it has just set (R62). -/

theorem allot_targets (s : State) :
    ((allot s).allotment.pTarget, (allot s).allotment.qTarget) = (setCapability s).targets := rfl

/-! ## The statement -/

/-- Settles O27: the targets are those of R66 and R67 at the capability just set; the law of the integer square root
keeps them in the circle. -/
theorem targetsFitTheCircle : Obligations.TargetsFitTheCircle := by
  refine ⟨?run, ?rideThrough, isqrt_bounds⟩
  case run =>
    intro s run t raw room able
    have formed : (t.pTarget, t.qTarget) = targetsRun t.capability raw.1 raw.2 :=
      (allot_targets s).trans (State.targets_of_run run able)
    have active : t.pTarget = min raw.1 t.capability := congrArg Prod.fst formed
    have reactive : t.qTarget = clip raw.2 room := by
      simp only [room, active]
      exact congrArg Prod.snd formed
    refine ⟨active, fun fits => ?fits, fun exceeds => ?exceeds, ?circle, fun atCapability => ?noneLeft⟩
    case fits => rw [reactive, clip_of_natAbs_le fits]
    case exceeds => rw [reactive, clip_of_lt_natAbs exceeds]
    case circle =>
      have inCircle : InCircle t.capability (t.pTarget, t.qTarget) := formed ▸ targetsRun_inCircle ..
      exact inCircle
    case noneLeft => exact (congrArg Prod.snd formed).trans (targetsRun_reactive_of_le atCapability raw.2)
  case rideThrough =>
    intro s ride t raw support able
    have supportEq : supportCurrent s.cfg.rated s.gridVoltage = support := by
      simp only [support, State.gridVoltage]
      cases s.thread.reply <;> rfl
    have formed : (t.pTarget, t.qTarget) = targetsRideThrough t.capability raw.1 support :=
      supportEq ▸ (allot_targets s).trans (State.targets_of_rideThrough ride able)
    have inCircle : InCircle t.capability (t.pTarget, t.qTarget) := formed ▸ targetsRideThrough_inCircle ..
    exact ⟨congrArg Prod.snd formed, congrArg Prod.fst formed, inCircle⟩

end Sys2Proof.Machine
end

section
/-!
The Cooling Unit: what its stages leave of the reply record and of the thread state, the heat load (R105) and the
demands (R106, R107) that an evaluation leaves, and the statement on both.
-/
namespace Sys2Proof.Machine

/-! ## The reply record (R82)

Reports, trips and the moves of a session and of the quiet state that follow them keep the reply record and its
validity, and so the measured currents. -/

@[simp] theorem setThread_record (s : State) (t : ThreadState) :
    (setThread s t).thread.reply = s.thread.reply ∧ (setThread s t).thread.validity = s.thread.validity := by
  unfold setThread
  split <;> simp

@[simp] theorem tripThread_record (s : State) :
    (tripThread s).thread.reply = s.thread.reply ∧ (tripThread s).thread.validity = s.thread.validity := by
  unfold tripThread
  split <;> simp

/-- A wake cause may stop the quiet timer of the thread, and nothing else of it. -/
@[simp] theorem wakeCause_record (s : State) :
    (wakeCause s).thread.reply = s.thread.reply ∧ (wakeCause s).thread.validity = s.thread.validity ∧
    (wakeCause s).thread.state = s.thread.state := by
  unfold wakeCause
  (repeat' split) <;> simp [returnToActive]

@[simp] theorem quietTest_record (s : State) :
    (quietTest s).thread.reply = s.thread.reply ∧ (quietTest s).thread.validity = s.thread.validity := by
  unfold quietTest
  split <;> simp [enterQuiet]

@[simp] theorem enterIdle_record (s : State) :
    (enterIdle s).thread.reply = s.thread.reply ∧ (enterIdle s).thread.validity = s.thread.validity := by
  simp [enterIdle]

@[simp] theorem barSession_record (s : State) :
    (barSession s).thread.reply = s.thread.reply ∧ (barSession s).thread.validity = s.thread.validity := by
  unfold barSession
  split <;> simp [abandon]

@[simp] theorem takeReport_record (s : State) (cls code : Nat) (severity : Severity) (detail : Int) :
    (takeReport s cls code severity detail).thread.reply = s.thread.reply ∧
    (takeReport s cls code severity detail).thread.validity = s.thread.validity := by
  unfold takeReport
  (repeat' split) <;> simp

@[simp] theorem reportFault_record (s : State) (cls code : Nat) (severity : Severity) (detail : Int) :
    (reportFault s cls code severity detail).thread.reply = s.thread.reply ∧
    (reportFault s cls code severity detail).thread.validity = s.thread.validity := by
  unfold reportFault
  split <;> simp

/-- R151: a WARN orders no trip. -/
@[simp] theorem reportFault_warn_threadState (s : State) (cls code : Nat) (detail : Int) :
    (reportFault s cls code .warn detail).thread.state = s.thread.state := by
  simp [reportFault, takeReport, Severity.trips]

/-! ## The stages before the heat load (R99 to R104) -/

@[simp] theorem reportSensor_record (before : Sensor) (reading : Option Int) (code : Nat) (s : State) :
    (reportSensor before reading code s).thread.reply = s.thread.reply ∧
    (reportSensor before reading code s).thread.validity = s.thread.validity := by
  unfold reportSensor
  split <;> simp

@[simp] theorem senseHeatsink_record (s : State) :
    (senseHeatsink s).thread.reply = s.thread.reply ∧ (senseHeatsink s).thread.validity = s.thread.validity := by
  unfold senseHeatsink
  split <;> simp

@[simp] theorem senseInlet_record (reading : Option Int) (s : State) :
    (senseInlet reading s).thread.reply = s.thread.reply ∧
    (senseInlet reading s).thread.validity = s.thread.validity := by
  simp [senseInlet]

@[simp] theorem senseOutlet_record (reading : Option Int) (s : State) :
    (senseOutlet reading s).thread.reply = s.thread.reply ∧
    (senseOutlet reading s).thread.validity = s.thread.validity := by
  simp [senseOutlet]

@[simp] theorem heatsinkTrip_record (s : State) :
    (heatsinkTrip s).thread.reply = s.thread.reply ∧ (heatsinkTrip s).thread.validity = s.thread.validity := by
  unfold heatsinkTrip
  (repeat' split) <;> simp

/-- R99 to R104: the stages of an evaluation before the heat load. -/
def thermalStages (s : State) (inlet outlet : Option Int) : State :=
  heatsinkTrip (derateNote (formFactor (senseOutlet outlet (senseInlet inlet (senseHeatsink s)))))

theorem coolingStages_eq (s : State) (inlet outlet : Option Int) :
    coolingStages s inlet outlet = capabilityAtEvaluation (pumpAbsence (judgeProof s.cooling.command
      (mergeCommand (formDemands (thermalStages s inlet outlet))))) := rfl

theorem measured_congr {s t : State} (reply : t.thread.reply = s.thread.reply)
    (validity : t.thread.validity = s.thread.validity) : t.measured = s.measured := by
  unfold State.measured
  rw [reply, validity]

/-- The heatsink trip may move the thread, but the currents of R105 are those measured before the evaluation. -/
theorem thermalStages_measured (s : State) (inlet outlet : Option Int) :
    (thermalStages s inlet outlet).measured = s.measured :=
  measured_congr (by simp [thermalStages]) (by simp [thermalStages])

/-! ## The stages after the demands (R108 to R111) -/

/-- `t` has the heat load and the demands of `s`, and what they were formed from. -/
structure State.SameDemands (s t : State) : Prop where
  threadState : t.thread.state = s.thread.state
  inlet : t.cooling.inlet = s.cooling.inlet
  outlet : t.cooling.outlet = s.cooling.outlet
  heatWatts : t.cooling.heatWatts = s.cooling.heatWatts
  heatKilowatts : t.cooling.heatKilowatts = s.cooling.heatKilowatts
  flowDemand : t.cooling.flowDemand = s.cooling.flowDemand
  fanDemand : t.cooling.fanDemand = s.cooling.fanDemand

theorem State.SameDemands.trans {s t u : State} (st : s.SameDemands t) (tu : t.SameDemands u) : s.SameDemands u where
  threadState := tu.threadState.trans st.threadState
  inlet := tu.inlet.trans st.inlet
  outlet := tu.outlet.trans st.outlet
  heatWatts := tu.heatWatts.trans st.heatWatts
  heatKilowatts := tu.heatKilowatts.trans st.heatKilowatts
  flowDemand := tu.flowDemand.trans st.flowDemand
  fanDemand := tu.fanDemand.trans st.fanDemand

theorem mergeCommand_sameDemands (s : State) : s.SameDemands (mergeCommand s) := by
  unfold mergeCommand
  split <;> constructor <;> rfl

theorem State.SameDemands.report {s t : State} (same : s.SameDemands t) (cls code : Nat) (detail : Int) :
    s.SameDemands (reportFault t cls code .warn detail) :=
  same.trans (by constructor <;> simp)

theorem judgeProof_sameDemands (command : Nat) (s : State) : s.SameDemands (judgeProof command s) := by
  unfold judgeProof
  dsimp only
  split
  · constructor <;> rfl
  · split
    · exact .report (by constructor <;> rfl) ..
    · split <;> constructor <;> rfl

theorem pumpAbsence_sameDemands (s : State) : s.SameDemands (pumpAbsence s) := by
  unfold pumpAbsence
  dsimp only
  split
  · split
    · exact .report (by constructor <;> rfl) ..
    · constructor <;> rfl
  · constructor <;> rfl

theorem capabilityAtEvaluation_sameDemands (s : State) : s.SameDemands (capabilityAtEvaluation s) := by
  constructor <;> simp

theorem coolingStages_sameDemands (s : State) (inlet outlet : Option Int) :
    (formDemands (thermalStages s inlet outlet)).SameDemands (coolingStages s inlet outlet) :=
  coolingStages_eq s inlet outlet ▸
    (mergeCommand_sameDemands _).trans ((judgeProof_sameDemands _ _).trans
      ((pumpAbsence_sameDemands _).trans (capabilityAtEvaluation_sameDemands _)))

/-! ## The heat load and the demands of an evaluation -/

/-- R105: the heat load is that of the currents measured before the evaluation. -/
theorem coolingStages_heatLoad (s : State) (inlet outlet : Option Int) {t : State}
    (done : coolingStages s inlet outlet = t) :
    t.cooling.heatWatts = heatWatts s.measured.1 s.measured.2 ∧
    t.cooling.heatKilowatts = min 255 (t.cooling.heatWatts / 1000) := by
  have same := coolingStages_sameDemands s inlet outlet
  rw [done] at same
  refine ⟨?watts, ?kilowatts⟩
  case watts => rw [same.heatWatts, ← thermalStages_measured s inlet outlet]; rfl
  case kilowatts => rw [same.heatKilowatts, same.heatWatts]; rfl

/-- R106, R107: the demands an evaluation leaves answer to the sensor records, the thread state and the heat load it
leaves. -/
theorem coolingStages_demands (s : State) (inlet outlet : Option Int) {t : State}
    (done : coolingStages s inlet outlet = t) :
    t.cooling.flowDemand =
      flowDemandOf t.thread.state.switching t.cooling.outlet.value t.cooling.heatKilowatts ∧
    t.cooling.fanDemand = fanDemandOf t.cooling.inlet.value := by
  have same := coolingStages_sameDemands s inlet outlet
  rw [done] at same
  refine ⟨?flow, ?fan⟩
  case flow => rw [same.flowDemand, same.threadState, same.outlet, same.heatKilowatts]; rfl
  case fan => rw [same.fanDemand, same.inlet]; rfl

/-- R98: a due evaluation sets its timer again and runs its stages. -/
theorem coolingEvaluation_due {s : State} {t0 : Nat} (inlet outlet : Option Int) (on : s.running = true)
    (timer : s.cooling.timer = some t0) (due : t0 + Config.evaluation ≤ s.now) :
    coolingEvaluation s inlet outlet = coolingStages
      { s with cooling := { s.cooling with timer := s.cooling.timer.again Config.evaluation } } inlet outlet :=
  if_pos ⟨on, (Timer.reached_iff ..).mpr ⟨t0, timer, due⟩⟩

theorem exec_coolingEvaluation (inlet outlet : Option Int) (s : State) :
    exec (.coolingEvaluation inlet outlet) s = .next (coolingEvaluation s inlet outlet) := rfl

/-! ## What the terms are formed from, and their values -/

theorem State.measured_of_recorded {s : State} {r : StackReply} (reply : s.thread.reply = some r)
    (recorded : s.thread.validity = .valid ∨ s.thread.validity = .held) : s.measured = (r.active, r.reactive) := by
  rcases recorded with h | h <;> simp [State.measured, reply, h]

theorem State.measured_of_unrecorded {s : State}
    (unrecorded : s.thread.validity = .absent ∨ s.thread.validity = .expired) : s.measured = (0, 0) := by
  rcases unrecorded with h | h <;> simp [State.measured, h]

theorem Sensor.value_of_read {x : Sensor} (read : x.state = .valid ∨ x.state = .holding) : x.value = some x.last := by
  rcases read with h | h <;> simp [Sensor.value, h]

theorem Sensor.value_of_unread {x : Sensor} (unread : x.state = .notRead ∨ x.state = .failed) : x.value = none := by
  rcases unread with h | h <;> simp [Sensor.value, h]

/-- The law of the integer square root has one solution. -/
theorem isqrt_eq_of_bounds {n i : Nat} (low : i * i ≤ n) (high : n < (i + 1) * (i + 1)) : isqrt n = i :=
  (Nat.eq_sqrt.mpr (isqrt_bounds n)).trans (Nat.eq_sqrt.mpr ⟨low, high⟩).symm

theorem heatWatts_of_magnitude {p q : Int} {i : Nat} (low : i * i ≤ p.natAbs * p.natAbs + q.natAbs * q.natAbs)
    (high : p.natAbs * p.natAbs + q.natAbs * q.natAbs < (i + 1) * (i + 1)) : heatWatts p q = 2 * i + i * i / 400 := by
  simp only [heatWatts, isqrt_eq_of_bounds low high]

@[simp] theorem heatWatts_zero : heatWatts 0 0 = 0 := by simp [heatWatts]

theorem fanDemandOf_of_le {v : Int} (cool : v ≤ 300) : fanDemandOf (some v) = 0 := if_pos cool

theorem fanDemandOf_of_ge {v : Int} (hot : 450 ≤ v) : fanDemandOf (some v) = 100 := by
  simp only [fanDemandOf]
  rw [if_neg (by omega), if_pos hot]

/-- R107: between its bounds the fan demand rises with the inlet, floored. -/
theorem fanDemandOf_of_between {v : Int} (above : 300 < v) (below : v < 450) :
    (fanDemandOf (some v) : Int) = 100 * (v - 300) / 150 := by
  simp only [fanDemandOf]
  rw [if_neg (by omega), if_neg (by omega), Int.toNat_of_nonneg (by omega)]

theorem outletTerm_some (v : Int) :
    (outletTerm (some v) : Int) = if v ≤ 350 then 0 else min 100 (20 + 80 * (v - 350) / 150) := by
  simp only [outletTerm]
  split_ifs with cool
  · rfl
  · rw [Nat.cast_min, Nat.cast_add, Int.toNat_of_nonneg (by omega)]
    rfl

theorem ThreadState.switching_iff (t : ThreadState) :
    t.switching = true ↔ t = .sync ∨ t = .run ∨ t = .rideThrough := by
  cases t <;> simp [ThreadState.switching]

/-- R106: the flow demand with an outlet value, over the integers of that value. -/
theorem flowDemandOf_some (t : ThreadState) (v : Int) (kilowatts : Nat) :
    (flowDemandOf t.switching (some v) kilowatts : Int) =
      max (if t = .sync ∨ t = .run ∨ t = .rideThrough then 20 else 0)
        (max (if v ≤ 350 then 0 else min 100 (20 + 80 * (v - 350) / 150)) (min 100 (2 * (kilowatts : Int)))) := by
  simp only [flowDemandOf, ThreadState.switching_iff, Nat.cast_max, outletTerm_some, Nat.cast_min, Nat.cast_mul,
    Nat.cast_ite, Nat.cast_ofNat, Nat.cast_zero]

/-- R106: with no outlet value the temperature term of 100 outweighs the others. -/
theorem flowDemandOf_none (switching : Bool) (kilowatts : Nat) : flowDemandOf switching none kilowatts = 100 := by
  simp only [flowDemandOf, outletTerm]
  split <;> omega

/-! ## The statement -/

/-- Settles O37: no stage before the heat load moves the reply record, and none after the demands moves what they were
formed from, so each is read off at the state the evaluation leaves. -/
theorem heatLoadAndDemands : Obligations.HeatLoadAndDemands := by
  intro s t0 inlet outlet on timer due
  refine ⟨_, exec_coolingEvaluation inlet outlet s, ?_⟩
  rw [coolingEvaluation_due inlet outlet on timer due]
  generalize begun : { s with cooling := { s.cooling with timer := s.cooling.timer.again Config.evaluation } } = u
  have measured : u.measured = s.measured := begun ▸ rfl
  generalize done : coolingStages u inlet outlet = t
  obtain ⟨watts, kilowatts⟩ := coolingStages_heatLoad u inlet outlet done
  obtain ⟨flow, fan⟩ := coolingStages_demands u inlet outlet done
  rw [measured] at watts
  refine ⟨?recorded, ?unrecorded, kilowatts, ?fanRead, ?fanUnread, ?flowRead, ?flowUnread⟩
  case recorded =>
    intro r reply recorded i low high
    rw [watts, State.measured_of_recorded reply recorded]
    exact heatWatts_of_magnitude low high
  case unrecorded =>
    intro unrecorded
    rw [watts, State.measured_of_unrecorded unrecorded, heatWatts_zero]
  case fanRead =>
    intro read
    rw [fan, Sensor.value_of_read read]
    exact ⟨fanDemandOf_of_le, fanDemandOf_of_ge, fanDemandOf_of_between⟩
  case fanUnread =>
    intro unread
    rw [fan, Sensor.value_of_unread unread]
    rfl
  case flowRead =>
    intro read
    rw [flow, Sensor.value_of_read read]
    exact flowDemandOf_some ..
  case flowUnread =>
    intro unread
    rw [flow, Sensor.value_of_unread unread]
    exact flowDemandOf_none ..

end Sys2Proof.Machine
end

section
/-!
The Wind Input Unit: what the stages of an evaluation leave of the Peer Table's entries and of the storm's runs (R114),
the shared values that stage 4 forms (R122, R123), the storm flag and its runs at stage 5 (R124), and the statement on
both.
-/
namespace Sys2Proof.Machine

/-! ## The entries of the Peer Table

A WARN and the moves of a session mark a change in the Peer Table, but leave the entry of the turbine controller and
those of the threads. -/

@[simp] theorem wakeCause_entries (s : State) :
    (wakeCause s).table.controller = s.table.controller ∧ (wakeCause s).table.threads = s.table.threads := by
  unfold wakeCause
  (repeat' split) <;> simp [returnToActive]

@[simp] theorem reportFault_warn_entries (s : State) (cls code : Nat) (detail : Int) :
    (reportFault s cls code .warn detail).table.controller = s.table.controller ∧
    (reportFault s cls code .warn detail).table.threads = s.table.threads := by
  simp [reportFault, takeReport, Severity.trips]

@[simp] theorem setYaw_entries (s : State) (y : YawState) :
    (setYaw s y).table.controller = s.table.controller ∧ (setYaw s y).table.threads = s.table.threads := by
  unfold setYaw
  split <;> simp [markChange]

@[simp] theorem judgeTwist_entries (s : State) :
    (judgeTwist s).table.controller = s.table.controller ∧ (judgeTwist s).table.threads = s.table.threads := by
  unfold judgeTwist judgeDriving
  (repeat' split) <;> simp [stopSession, enterStopping, enterDriving]

/-! ## Stages 1 to 3 keep the storm's part -/

/-- `t` has the effective demand, the storm flag and the storm's runs of `s`: what R124 judges beside the shared
speed. -/
structure State.SameStorm (s t : State) : Prop where
  demand : t.demand = s.demand
  storm : t.wind.storm = s.wind.storm
  setRun : t.wind.setRun = s.wind.setRun
  clearRun : t.wind.clearRun = s.wind.clearRun

theorem State.SameStorm.trans {s t u : State} (st : s.SameStorm t) (tu : t.SameStorm u) : s.SameStorm u where
  demand := tu.demand.trans st.demand
  storm := tu.storm.trans st.storm
  setRun := tu.setRun.trans st.setRun
  clearRun := tu.clearRun.trans st.clearRun

theorem State.SameStorm.report {s t : State} (same : s.SameStorm t) (cls code : Nat) (detail : Int) :
    s.SameStorm (reportFault t cls code .warn detail) :=
  same.trans (by constructor <;> simp [State.demand])

theorem closeVaneInterval_sameStorm (s : State) : s.SameStorm (closeVaneInterval s) := by
  unfold closeVaneInterval
  dsimp only
  split
  · constructor <;> rfl
  · split
    · constructor <;> rfl
    · split
      · exact .report (by constructor <;> rfl) ..
      · constructor <;> rfl

theorem readTwist_sameStorm (encoder : Option Int) (s : State) : s.SameStorm (readTwist encoder s) := by
  unfold readTwist
  dsimp only
  split
  · constructor <;> rfl
  · split
    · constructor <;> rfl
    · split
      · constructor <;> rfl
      · exact .report (by constructor <;> rfl) ..

theorem judgeSpeed_sameStorm (own : Nat) (s : State) : s.SameStorm (judgeSpeed own s) := by
  unfold judgeSpeed
  split
  case h_1 => constructor <;> rfl
  case h_2 =>
    split
    · split
      · exact .report (by constructor <;> rfl) ..
      · constructor <;> rfl
    · constructor <;> rfl
  case h_3 => (repeat' split) <;> constructor <;> rfl

theorem closeAnemometerWindow_sameStorm (s : State) : s.SameStorm (closeAnemometerWindow s) := by
  unfold closeAnemometerWindow
  dsimp only
  split
  · constructor <;> rfl
  · split
    · exact .trans (by constructor <;> rfl) (judgeSpeed_sameStorm ..)
    · constructor <;> rfl

/-- R114: the stages of an evaluation before the shared values. -/
def ownStages (s : State) (encoder : Option Int) : State :=
  closeAnemometerWindow (readTwist encoder (closeVaneInterval s))

theorem windStages_eq (s : State) (encoder : Option Int) :
    windStages s encoder = updateStorm (formShared (ownStages s encoder)) := rfl

theorem ownStages_sameStorm (s : State) (encoder : Option Int) : s.SameStorm (ownStages s encoder) :=
  (closeVaneInterval_sameStorm s).trans ((readTwist_sameStorm ..).trans (closeAnemometerWindow_sameStorm _))

/-! ## Stage 4: the shared values (R122, R123) -/

/-- R122, R123: what stage 4 makes of the unit, with the sources it is given. -/
def WindUnit.sharing (w : WindUnit) (sources : List WindSource) : WindUnit :=
  { w with misalignment := meanDirection (sources.filterMap (·.direction)),
           agreeing := sourcesAgree (sources.filterMap (·.direction)),
           sharedSpeed := largest (sources.filterMap (·.speed)),
           sharedTwist := (sources.filterMap (·.twist)).head? }

theorem formShared_wind (s : State) : (formShared s).wind = s.wind.sharing s.windSources := by
  unfold formShared
  dsimp only
  split <;> simp [reportNote, WindUnit.sharing]

@[simp] theorem formShared_config (s : State) : (formShared s).config = s.config := by
  unfold formShared
  dsimp only
  split <;> simp [reportNote]

@[simp] theorem formShared_entries (s : State) :
    (formShared s).table.controller = s.table.controller ∧ (formShared s).table.threads = s.table.threads := by
  unfold formShared
  dsimp only
  split <;> simp [reportNote]

/-- R58: the sources follow from the entries, the configuration and the station's own values. -/
theorem State.windSources_congr {s t : State} (threads : t.table.threads = s.table.threads)
    (config : t.config = s.config) (own : t.ownWind = s.ownWind) : t.windSources = s.windSources := by
  unfold State.windSources State.own State.cfg
  rw [threads, config, own]

theorem formShared_windSources (s : State) : (formShared s).windSources = s.windSources :=
  State.windSources_congr (by simp) (by simp)
    (by simp [State.ownWind, State.own, State.cfg, formShared_wind, WindUnit.sharing])

/-! ## The values of stage 4 -/

theorem meanDirection_of_ne_nil {fs : List Int} (sourced : fs ≠ []) :
    meanDirection fs = some (fs.sum.tdiv fs.length) := by
  cases fs with
  | nil => exact absurd rfl sourced
  | cons f rest => rfl

theorem largest_eq_max? (vs : List Nat) : largest vs = vs.max? := by
  induction vs with
  | nil => rfl
  | cons v rest ih =>
    rw [largest, List.max?_cons, ih]
    cases rest.max? <;> rfl

/-- The spread stands between the largest and the smallest direction, so it bounds every difference. -/
theorem sourcesAgree_iff (fs : List Int) : sourcesAgree fs = true ↔ ∀ a ∈ fs, ∀ b ∈ fs, a - b ≤ 150 := by
  cases fs with
  | nil => simp [sourcesAgree, spread]
  | cons f rest =>
    obtain ⟨highest, below⟩ := List.max?_eq_some_iff.mp (List.max?_cons' (x := f) (xs := rest))
    obtain ⟨lowest, above⟩ := List.min?_eq_some_iff.mp (List.min?_cons' (x := f) (xs := rest))
    rw [sourcesAgree, decide_eq_true_iff, spread]
    constructor
    · intro agree a ha b hb
      have := below a ha
      have := above b hb
      omega
    · exact fun agree => agree _ highest _ lowest

theorem WindUnit.sharing_sharedTwist_iff (w : WindUnit) (sources : List WindSource) (v : Int) :
    (w.sharing sources).sharedTwist = some v ↔
      ∃ a x b, sources = a ++ x :: b ∧ x.twist = some v ∧ ∀ y ∈ a, y.twist = none := by
  simp only [WindUnit.sharing, List.head?_filterMap, List.findSome?_eq_some_iff]

/-! ## Stage 5: the storm flag and its runs (R124) -/

/-- R124: the set run as the shared speed moves it. -/
def WindUnit.movedSetRun (w : WindUnit) : Nat :=
  match w.sharedSpeed with | some v => if 250 ≤ v then countHeld 300 w.setRun else 0 | none => 0

/-- R124: the clear run as the shared speed moves it. -/
def WindUnit.movedClearRun (w : WindUnit) : Nat :=
  match w.sharedSpeed with | some v => if v < 200 then countHeld 6000 w.clearRun else 0 | none => 0

section movedRuns
variable {w : WindUnit}

theorem WindUnit.movedRuns_of_none (absent : w.sharedSpeed = none) : w.movedSetRun = 0 ∧ w.movedClearRun = 0 := by
  simp [movedSetRun, movedClearRun, absent]

theorem WindUnit.movedSetRun_of_some {v : Nat} (present : w.sharedSpeed = some v) :
    w.movedSetRun = if 250 ≤ v then min 300 (w.setRun + 1) else 0 := by
  simp only [movedSetRun, present, countHeld]

theorem WindUnit.movedClearRun_of_some {v : Nat} (present : w.sharedSpeed = some v) :
    w.movedClearRun = if v < 200 then min 6000 (w.clearRun + 1) else 0 := by
  simp only [movedClearRun, present, countHeld]

theorem WindUnit.movedSetRun_full_iff :
    w.movedSetRun = 300 ↔ ∃ v, w.sharedSpeed = some v ∧ 250 ≤ v ∧ 299 ≤ w.setRun := by
  cases speed : w.sharedSpeed with
  | none => simp [movedRuns_of_none speed]
  | some v =>
    rw [movedSetRun_of_some speed]
    simp only [Option.some.injEq, exists_eq_left']
    split_ifs with windy
    · omega
    · simp [windy]

theorem WindUnit.movedClearRun_full_iff :
    w.movedClearRun = 6000 ↔ ∃ v, w.sharedSpeed = some v ∧ v < 200 ∧ 5999 ≤ w.clearRun := by
  cases speed : w.sharedSpeed with
  | none => simp [movedRuns_of_none speed]
  | some v =>
    rw [movedClearRun_of_some speed]
    simp only [Option.some.injEq, exists_eq_left']
    split_ifs with calm
    · omega
    · simp [calm]

end movedRuns

section stormStep
variable {w : WindUnit} {mode : PlantMode}

/-- R124: the flag is set, is cleared, or stands. -/
theorem WindUnit.stormStep_eq : w.stormStep mode =
    if w.storm = true then
      if w.movedClearRun = 6000 ∧ mode ≠ .storm then
        { w with storm := false, setRun := 0, clearRun := w.movedClearRun }
      else { w with setRun := w.movedSetRun, clearRun := w.movedClearRun }
    else if mode = .storm ∨ w.movedSetRun = 300 then
      { w with storm := true, setRun := w.movedSetRun, clearRun := 0 }
    else { w with setRun := w.movedSetRun, clearRun := w.movedClearRun } := rfl

theorem WindUnit.stormStep_storm_iff (clear : w.storm = false) :
    (w.stormStep mode).storm = true ↔ mode = .storm ∨ w.movedSetRun = 300 := by
  rw [stormStep_eq, if_neg (by simp [clear])]
  split_ifs with sets <;> simp [sets, clear]

theorem WindUnit.stormStep_clear_iff (storm : w.storm = true) :
    (w.stormStep mode).storm = false ↔ w.movedClearRun = 6000 ∧ mode ≠ .storm := by
  rw [stormStep_eq, if_pos storm]
  split_ifs with clears
  · simp [clears]
  · simp [clears, storm]

/-- R124: while the mode is STORM the flag is set, or stays set. -/
theorem WindUnit.stormStep_storm_of_ordered (ordered : mode = .storm) : (w.stormStep mode).storm = true := by
  cases was : w.storm with
  | false => exact (stormStep_storm_iff was).mpr (.inl ordered)
  | true => exact eq_true_of_ne_false fun cleared => ((stormStep_clear_iff was).mp cleared).2 ordered

theorem WindUnit.stormStep_sets_iff (was : w.storm = false) (free : mode ≠ .storm) :
    (w.stormStep mode).storm = true ↔ ∃ v, w.sharedSpeed = some v ∧ 250 ≤ v ∧ 299 ≤ w.setRun := by
  rw [stormStep_storm_iff was, or_iff_right free, movedSetRun_full_iff]

theorem WindUnit.stormStep_clears_iff (was : w.storm = true) (free : mode ≠ .storm) :
    (w.stormStep mode).storm = false ↔ ∃ v, w.sharedSpeed = some v ∧ v < 200 ∧ 5999 ≤ w.clearRun := by
  rw [stormStep_clear_iff was, and_iff_left free, movedClearRun_full_iff]

/-- R124: the set run moves with the shared speed, but returns to 0 where the flag is cleared. -/
theorem WindUnit.stormStep_setRun :
    (w.stormStep mode).setRun =
      if w.storm = true ∧ (w.stormStep mode).storm = false then 0 else w.movedSetRun := by
  rw [stormStep_eq]
  split_ifs <;> simp_all

/-- R124: the clear run moves with the shared speed, but returns to 0 where the flag is set. -/
theorem WindUnit.stormStep_clearRun :
    (w.stormStep mode).clearRun =
      if w.storm = false ∧ (w.stormStep mode).storm = true then 0 else w.movedClearRun := by
  rw [stormStep_eq]
  split_ifs <;> simp_all

theorem WindUnit.stormStep_runs_of_none (absent : w.sharedSpeed = none) :
    (w.stormStep mode).setRun = 0 ∧ (w.stormStep mode).clearRun = 0 := by
  obtain ⟨set, clear⟩ := movedRuns_of_none absent
  rw [stormStep_setRun, stormStep_clearRun, set, clear, ite_self, ite_self]
  exact ⟨rfl, rfl⟩

section present
variable {v : Nat} (present : w.sharedSpeed = some v)
include present

theorem WindUnit.stormStep_setRun_of_lt (below : v < 250) : (w.stormStep mode).setRun = 0 := by
  rw [stormStep_setRun, movedSetRun_of_some present, if_neg (Nat.not_le.mpr below), ite_self]

theorem WindUnit.stormStep_clearRun_of_ge (above : 200 ≤ v) : (w.stormStep mode).clearRun = 0 := by
  rw [stormStep_clearRun, movedClearRun_of_some present, if_neg (Nat.not_lt.mpr above), ite_self]

/-- A speed that raises the set run holds the clear run at 0, so the flag is not cleared there. -/
theorem WindUnit.stormStep_setRun_of_ge (windy : 250 ≤ v) :
    (w.stormStep mode).setRun = min 300 (w.setRun + 1) := by
  have kept : ¬(w.storm = true ∧ (w.stormStep mode).storm = false) := by
    rintro ⟨was, cleared⟩
    have full := ((stormStep_clear_iff was).mp cleared).1
    rw [movedClearRun_of_some present, if_neg (by omega)] at full
    contradiction
  rw [stormStep_setRun, if_neg kept, movedSetRun_of_some present, if_pos windy]

theorem WindUnit.stormStep_clearRun_of_lt (calm : v < 200)
    (unset : w.storm = true ∨ (w.stormStep mode).storm = false) :
    (w.stormStep mode).clearRun = min 6000 (w.clearRun + 1) := by
  have kept : ¬(w.storm = false ∧ (w.stormStep mode).storm = true) := by
    rintro ⟨was, set⟩
    simp [was, set] at unset
  rw [stormStep_clearRun, if_neg kept, movedClearRun_of_some present, if_pos calm]

end present

/-- Stage 5 leaves the shared values it reads. -/
@[simp] theorem WindUnit.stormStep_shared (w : WindUnit) (mode : PlantMode) :
    (w.stormStep mode).misalignment = w.misalignment ∧ (w.stormStep mode).agreeing = w.agreeing ∧
    (w.stormStep mode).sharedSpeed = w.sharedSpeed ∧ (w.stormStep mode).sharedTwist = w.sharedTwist := by
  rw [stormStep_eq]
  split_ifs <;> simp

@[simp] theorem WindUnit.stormStep_own (w : WindUnit) (mode : PlantMode) :
    (w.stormStep mode).vaneValid = w.vaneValid ∧ (w.stormStep mode).direction = w.direction ∧
    (w.stormStep mode).speedStatus = w.speedStatus ∧ (w.stormStep mode).ownSpeed = w.ownSpeed ∧
    (w.stormStep mode).twistStatus = w.twistStatus ∧ (w.stormStep mode).ownTwist = w.ownTwist := by
  rw [stormStep_eq]
  split_ifs <;> simp

end stormStep

theorem updateStorm_wind (s : State) : (updateStorm s).wind = s.wind.stormStep s.demand.mode := rfl

theorem updateStorm_windSources (s : State) : (updateStorm s).windSources = s.windSources :=
  State.windSources_congr rfl rfl (by simp [State.ownWind, State.own, State.cfg, updateStorm_wind])

/-! ## The evaluation (R114) -/

/-- Stage 5 judges the unit that stage 4 leaves, over the sources and the demand as the evaluation leaves them. -/
theorem windStages_wind (s : State) (encoder : Option Int) :
    (windStages s encoder).wind =
      ((ownStages s encoder).wind.sharing (windStages s encoder).windSources).stormStep s.demand.mode := by
  have sources : (windStages s encoder).windSources = (ownStages s encoder).windSources := by
    rw [windStages_eq, updateStorm_windSources, formShared_windSources]
  have demand : (formShared (ownStages s encoder)).demand = s.demand := by
    rw [← (ownStages_sameStorm s encoder).demand]
    simp [State.demand]
  rw [sources, windStages_eq, updateStorm_wind, formShared_wind, demand]

/-- R114: a due evaluation sets its timer again and runs its stages. -/
theorem windEvaluation_due {s : State} {t0 : Nat} (encoder : Option Int) (on : s.running = true)
    (timer : s.wind.timer = some t0) (due : t0 + Config.evaluation ≤ s.now) :
    windEvaluation s encoder = windStages
      { s with wind := { s.wind with timer := s.wind.timer.again Config.evaluation } } encoder :=
  if_pos ⟨on, (Timer.reached_iff ..).mpr ⟨t0, timer, due⟩⟩

theorem exec_windEvaluation (encoder : Option Int) (s : State) :
    exec (.windEvaluation encoder) s = .next (windEvaluation s encoder) := rfl

/-- A due evaluation is stage 5 on a unit `w` that shares the values of the sources the evaluation leaves, with the
storm flag and the runs that stood before it. -/
theorem exec_windEvaluation_due {s : State} {t0 : Nat} (encoder : Option Int) (on : s.running = true)
    (timer : s.wind.timer = some t0) (due : t0 + Config.evaluation ≤ s.now) :
    ∃ (t : State) (own w : WindUnit), exec (.windEvaluation encoder) s = .next t ∧
      w = own.sharing t.windSources ∧ t.wind = w.stormStep s.demand.mode ∧
      w.storm = s.wind.storm ∧ w.setRun = s.wind.setRun ∧ w.clearRun = s.wind.clearRun := by
  rw [exec_windEvaluation, windEvaluation_due encoder on timer due]
  generalize begun : { s with wind := { s.wind with timer := s.wind.timer.again Config.evaluation } } = u
  have same : s.SameStorm (ownStages u encoder) := .trans (by subst begun; constructor <;> rfl)
    (ownStages_sameStorm u encoder)
  have demand : u.demand = s.demand := begun ▸ rfl
  exact ⟨_, _, _, rfl, rfl, demand ▸ windStages_wind u encoder, same.storm, same.setRun, same.clearRun⟩

/-! ## The statement -/

/-- Settles O43: the shared values are read off the unit that stage 4 leaves, which stage 5 does not move; the storm
flag and its runs are those of stage 5 on the flag and the runs that stood before the evaluation. -/
theorem sharedValuesAndStormFlag : Obligations.SharedValuesAndStormFlag := by
  refine ⟨?shared, ?flag⟩
  case shared =>
    intro s t0 encoder on timer due
    obtain ⟨t, own, _, done, rfl, wind, -⟩ := exec_windEvaluation_due encoder on timer due
    obtain ⟨misalignment, agreeing, speed, twist⟩ :=
      WindUnit.stormStep_shared (own.sharing t.windSources) s.demand.mode
    refine ⟨t, done, ⟨?noSource, ?mean, ?agree⟩, ⟨?noSpeed, ?largest⟩, ?twist⟩
    case noSource =>
      intro unsourced
      rw [wind, misalignment, agreeing]
      simp only [WindUnit.sharing, unsourced]
      exact ⟨rfl, rfl⟩
    case mean =>
      intro sourced
      rw [wind, misalignment]
      exact meanDirection_of_ne_nil sourced
    case agree =>
      rw [wind, agreeing]
      exact sourcesAgree_iff _
    case noSpeed =>
      intro unsourced
      rw [wind, speed]
      simp only [WindUnit.sharing, unsourced]
      rfl
    case largest =>
      intro v
      rw [wind, speed, WindUnit.sharing, largest_eq_max?]
      exact List.max?_eq_some_iff
    case twist =>
      intro v
      rw [wind, twist]
      exact WindUnit.sharing_sharedTwist_iff ..
  case flag =>
    intro s t0 encoder on timer due
    obtain ⟨t, _, w, done, -, wind, storm, setRun, clearRun⟩ := exec_windEvaluation_due encoder on timer due
    obtain ⟨-, -, speed, -⟩ := WindUnit.stormStep_shared w s.demand.mode
    refine ⟨t, done, ?_⟩
    rw [wind, speed, ← storm, ← setRun, ← clearRun]
    refine ⟨WindUnit.stormStep_storm_of_ordered, WindUnit.stormStep_sets_iff, WindUnit.stormStep_clears_iff,
      WindUnit.stormStep_runs_of_none, fun v present => ⟨?below, ?above, ?windy, ?calm⟩,
      fun was set => ?restarted, fun was cleared => ?returned⟩
    case below => exact WindUnit.stormStep_setRun_of_lt present
    case above => exact WindUnit.stormStep_clearRun_of_ge present
    case windy => exact WindUnit.stormStep_setRun_of_ge present
    case calm => exact fun calm unset _ => WindUnit.stormStep_clearRun_of_lt present calm unset
    case restarted => rw [WindUnit.stormStep_clearRun, if_pos ⟨was, set⟩]
    case returned => rw [WindUnit.stormStep_setRun, if_pos ⟨was, cleared⟩]

end Sys2Proof.Machine
end

section
/-!
What one command can do to the state, said once: every command but a reset is a sequence of moves, each a write of one
block under the guard its rule gives.  An invariant holds of every step when each move keeps it, and a part of the
state that a command has no leave to write stands as it stood.
-/
namespace Sys2Proof.Machine

/-! ## The parts that only some commands write -/

inductive Part where
  /-- the motor fault and safety inputs -/
  | pins
  /-- the brake feedback -/
  | brakes
  /-- the configuration, and with it the entry into LISTEN -/
  | image
  | cooling
  /-- the Wind Input Unit but for the shared twist -/
  | wind
  | twist
  | receiver
  /-- entry 0 and the entries of the peers -/
  | entries
  /-- the record of the own entry -/
  | ownRecord
  /-- the reply record -/
  | reply
  /-- the carrier offsets -/
  | offsets
  /-- the log answer cursor -/
  | cursor
  /-- the entry into Y_DRIVING -/
  | driving
  /-- the release of a TRIPPED thread -/
  | release
  /-- the start of a thread -/
  | start
  /-- the order into QUIET_PENDING -/
  | order
  /-- the cadence begun at joining -/
  | joining

/-- R148: a fault that can enter the cause set. -/
def IsCause (cls code : Nat) : Prop := ∃ kind, (cls, code, kind) ∈ causeTable

/-! ## The moves, block by block -/

/-- A write of nothing that an invariant or a part reads: counters, timers, marks and records of work in hand. -/
def State.Plain (s t : State) : Prop :=
  t = { s with
    link := { t.link with state := s.link.state, queue := s.link.queue, ownMark := s.link.ownMark },
    table := { t.table with controller := s.table.controller, threads := s.table.threads },
    thread := { t.thread with state := s.thread.state, reply := s.thread.reply, quietTimer := s.thread.quietTimer },
    fault := { t.fault with causes := s.fault.causes },
    yaw := { t.yaw with state := s.yaw.state, session := s.yaw.session, motors := s.yaw.motors,
                        release := s.yaw.release, applyWait := s.yaw.applyWait } }

/-- R13 to R17, R11, R12, R26: the transmit queue and the own mark. -/
inductive LinkMove (may : Part → Prop) : State → State → Prop
  | offerYaw (s : State) (f : Frame) (yaw : f.kind < 16) : LinkMove may s (offerYaw s f)
  | offerStatus (s : State) (r : StatusRecord) : LinkMove may s (offerStatus s r)
  | offerNotice (s : State) (cls code severity action : Nat) (detail : Int) :
      LinkMove may s (offerNotice s cls code severity action detail)
  | offerLogEntry (s : State) : may .cursor → LinkMove may s (offerLogEntry s)
  | startHead (s : State) (free : s.sending = false) :
      LinkMove may s { s with link := { s.link with queue := startHead s.link.queue } }
  | removeOnLine (s : State) : LinkMove may s { s with link := { s.link with queue := removeOnLine s.link.queue } }
  | keepOnLine (s : State) (f : Frame) (head : onLineFrame s.link.queue = some f)
      (newest : supersededOnLine s.link.queue f = false) :
      LinkMove may s { s with link := { s.link with queue := keepOnLine s.link.queue } }
  | mark (s : State) (joined : s.isJoined = true) :
      LinkMove may s { s with link := { s.link with ownMark := some s.now } }
  | unmark (s : State) : LinkMove may s { s with link := { s.link with ownMark := none } }

/-- R85 to R89: the states a thread passes in order without a trip, a stop completed or a start. -/
inductive ThreadState.Advances : ThreadState → ThreadState → Prop
  | sync : Advances .precharge .sync
  | run : Advances .sync .run
  | rideThrough : Advances .run .rideThrough
  | recover : Advances .rideThrough .run
  | stop : Advances .run .stopping
  | stopRiding : Advances .rideThrough .stopping

/-- R84 to R95, R152, R153, R161: the thread state, the cause set, and the allotment. -/
inductive ThreadMove (may : Part → Prop) : State → State → Prop
  | trip (s : State) (cls code : Nat) (cause : IsCause cls code) : ThreadMove may s (tripThread (addCause s cls code))
  | endCondition (s : State) (cls code : Nat) (stays : cls ≠ clsLink) : ThreadMove may s (endCondition s cls code)
  | removeEnded (s : State) : ThreadMove may s (removeEnded s)
  | release (s : State) : may .release → s.fault.pendingAck.isSome = true → s.thread.state = .tripped →
      s.fault.causes = [] →
      ThreadMove may s { enterOff s with fault := { (enterOff s).fault with pendingAck := none } }
  | off (s : State) (idle : s.thread.state = .precharge ∨ s.thread.state = .sync ∨
      (s.thread.state = .stopping ∧ s.allotment.pCommand = 0 ∧ s.allotment.qCommand = 0)) :
        ThreadMove may s (enterOff s)
  | advance (s : State) (next : ThreadState) (order : s.thread.state.Advances next) : ThreadMove may s
    (setThread s next)
  | start (s : State) : may .start → s.mayStart = true → ThreadMove may s (startTest s)
  | allot (s : State) : ThreadMove may s (allot s)
  | setCapability (s : State) (resting : s.resting = true) : ThreadMove may s (setCapability s)

/-- R173 to R181: the quiet state and its timers. -/
inductive QuietMove (may : Part → Prop) : State → State → Prop
  | wakeCause (s : State) : QuietMove may s (wakeCause s)
  | quietTest (s : State) : QuietMove may s (quietTest s)
  | returnToActive (s : State) (calling : s.quiet.state = .quiet ∨ s.quiet.call.isSome = true) :
      QuietMove may s (returnToActive s)
  | control (s : State) (q : QuietControl) (same : q.state = s.quiet.state)
      (calling : (q.call = s.quiet.call ∧ q.wakeTimer = s.quiet.wakeTimer) ∨ s.quiet.state = .quiet ∨
        s.quiet.call.isSome = true) : QuietMove may s { s with quiet := q }
  | order (s : State) : may .order → s.link.state = .joined → s.thread.state.quietable = true →
      s.quiet.state = .active → QuietMove may s { s with quiet := { s.quiet with state := .pending } }
  | timer (s : State) (t : Timer) (quiet : s.quiet.state = .quiet) :
      QuietMove may s { s with thread := { s.thread with quietTimer := t } }

/-- R24, R30, R31, R34: the ranges of the Cadence Unit. -/
def CadenceUnit.Ranged (c : CadenceUnit) : Prop :=
  c.latchedOffset < Config.carrierCounts ∧ c.pendingOffset < Config.carrierCounts ∧ c.count < 65536 ∧
  c.seekCount ≤ Config.seekLimit ∧ (c.reference = .seeking → c.seekCount < Config.seekLimit)

/-- R24 to R34: the Cadence Unit. -/
inductive CadenceMove (may : Part → Prop) : State → State → Prop
  | unit (s : State) (c : CadenceUnit) (ranged : s.cadence.Ranged → c.Ranged)
      (latched : c.latchedOffset = s.cadence.latchedOffset) (pending : c.pendingOffset = s.cadence.pendingOffset)
      (runs : c.timer = s.cadence.timer ∨ s.quiet.state ≠ .quiet ∨ s.link.state ≠ .joined ∨ may .joining) :
      CadenceMove may s { s with cadence := c }
  | latchOffset (s : State) : may .offsets → CadenceMove may s (latchOffset s)

/-- R126 to R147: the yaw state, the session and its outputs. -/
inductive YawMove (may : Part → Prop) : State → State → Prop
  | session (s : State) (x : Session) (undriven : s.yaw.state ≠ .driving) :
      YawMove may s { s with yaw := { s.yaw with session := x } }
  | motorsOff (s : State) : YawMove may s { s with yaw := s.yaw.motorsOff }
  | applyBrakes (s : State) : YawMove may s
      { s with yaw := { s.yaw with release := false, brakeDelay := none, applyWait := some s.now } }
  | idle (s : State) (braked : s.yaw.state = .proposing ∨ s.yaw.state = .joined ∨ s.yaw.release = false ∨
      s.yaw.applyWait.isSome = true) : YawMove may s (setYaw { s with yaw := s.yaw.noTimers.motorsOff } .idle)
  | propose (s : State) (joined : s.isJoined = true) (idle : s.yaw.state = .idle) : YawMove may s (setYaw s .proposing)
  | join (s : State) (joined : s.isJoined = true) (idle : s.yaw.state = .idle) : YawMove may s (setYaw s .joined)
  | releasing (s : State) (ready : s.yaw.state = .proposing ∨ s.yaw.state = .joined) :
      YawMove may s (enterReleasing s)
  | driving (s : State) : may .driving → s.yaw.state = .releasing → s.mayDrive = true →
      YawMove may s (enterDriving s)
  | stopping (s : State) (inSession : s.inSession = true) : YawMove may s (enterStopping s)

/-- The blocks that only the commands of their own rules write. -/
inductive BlockMove (may : Part → Prop) : State → State → Prop
  | pins (s : State) (p : Pins) (brakes : p.brakesReleased = s.pins.brakesReleased) : may .pins →
      BlockMove may s { s with pins := p }
  | brakes (s : State) (p : Pins) : may .brakes → BlockMove may s { s with pins := p }
  | cooling (s : State) (c : CoolingUnit) : may .cooling → BlockMove may s { s with cooling := c }
  | wind (s : State) (w : WindUnit) (twist : w.sharedTwist = s.wind.sharedTwist) : may .wind →
      BlockMove may s { s with wind := w }
  | sharedTwist (s : State) (w : WindUnit) : may .wind → may .twist → BlockMove may s { s with wind := w }
  | receiver (s : State) (r : Receiver) : may .receiver → BlockMove may s { s with receiver := r }
  | reply (s : State) (r : Option StackReply) : may .reply →
      BlockMove may s { s with thread := { s.thread with reply := r } }
  | controller (s : State) (e : Entry DemandRecord) : may .entries →
      BlockMove may s { s with table := { s.table with controller := e } }
  | threads (s : State) (p : PerThread (Entry StatusRecord)) (own : p.get? s.own = s.table.threads.get? s.own) :
      may .entries → BlockMove may s { s with table := { s.table with threads := p } }
  | ownRecord (s : State) (e : Entry StatusRecord) (record : Option StatusRecord) (tag : Option Nat)
      (own : s.table.threads.get? s.own = some e) : may .ownRecord →
      BlockMove may s { s with table := { s.table with
        threads := s.table.threads.set s.own { e with record := record, lastTag := tag } } }
  | cursor (s : State) (l : FaultLog) (records : l.records = s.log.records) (newest : l.newest = s.log.newest)
      (overwritten : l.overwritten = s.log.overwritten) : may .cursor → BlockMove may s { s with log := l }

/-- R183, R185, R186: the link state. -/
inductive StateMove (may : Part → Prop) : State → State → Prop
  | join (s : State) (listening : s.link.state = .listen) : may .cooling → StateMove may s (enterJoined s)
  | reject (s : State) (image : List Byte) (unread : s.link.state = .configRead) : may .image →
      StateMove may s (rejectImage s image)
  | accept (s : State) (image : List Byte) (unread : s.link.state = .configRead)
      (accepted : imageAccepted image = true) : may .image →
      StateMove may s (enterListen { s with
        config := { image := image, values := some (ConfigValues.ofImage image), faultOutput := false } })

/-- One move of a command that has leave to write the parts `may`. -/
inductive Move (may : Part → Prop) : State → State → Prop
  | plain {s t : State} (same : s.Plain t) : Move may s t
  | record (s : State) (origin cls code severity action : Nat) (detail : Option Int) (noticeNumber : Option Nat) :
      Move may s (enterRecord s origin cls code severity action detail noticeNumber)
  | link {s t : State} (move : LinkMove may s t) : Move may s t
  | thread {s t : State} (move : ThreadMove may s t) : Move may s t
  | quiet {s t : State} (move : QuietMove may s t) : Move may s t
  | cadence {s t : State} (move : CadenceMove may s t) : Move may s t
  | yaw {s t : State} (move : YawMove may s t) : Move may s t
  | block {s t : State} (move : BlockMove may s t) : Move may s t
  | state {s t : State} (move : StateMove may s t) : Move may s t

/-- The moves of a command one after the other. -/
def Moves (may : Part → Prop) : State → State → Prop := Relation.ReflTransGen (Move may)

/-- What a command does: its moves, and last, where it takes a status that bears the own number, the clash (R22). -/
inductive Does (may : Part → Prop) (s : State) : State → Prop
  | moves {t : State} : Moves may s t → Does may s t
  | clash {u : State} : Moves may s u → u.link.state = .listen ∨ u.link.state = .joined → may .cursor →
      Does may s (addressClash u)

section
variable {may : Part → Prop} {s t u : State}

theorem Moves.refl (s : State) : Moves may s s := Relation.ReflTransGen.refl

theorem Moves.trans (st : Moves may s t) (tu : Moves may t u) : Moves may s u := Relation.ReflTransGen.trans st tu

theorem Moves.then (st : Moves may s t) (tu : Move may t u) : Moves may s u := Relation.ReflTransGen.tail st tu

theorem Moves.plain (st : Moves may s t) (tu : t.Plain u) : Moves may s u := st.then (.plain tu)

/-- What every move keeps, the moves of a command keep. -/
theorem Moves.keep {P : State → Prop} (moves : Moves may s t) (keep : ∀ {s t}, Move may s t → P s → P t) (h : P s) :
    P t := by
  induction moves with
  | refl => exact h
  | tail _ move ih => exact keep move ih

end

end Sys2Proof.Machine
end

section
/-!
Each shared operation and each command as a sequence of moves, in the order of the model's files.  A lemma extends the
moves that led to the state the operation finds.
-/
namespace Sys2Proof.Machine
variable {may : Part → Prop} {s t : State}

/-! ## What an offer leaves of the Link Controller -/

@[simp] theorem offerYaw_link (s : State) (f : Frame) :
    (offerYaw s f).link.state = s.link.state ∧ (offerYaw s f).link.ownMark = s.link.ownMark ∧
    (offerYaw s f).link.windowDiscards = s.link.windowDiscards ∧
    (offerYaw s f).link.listenTimer = s.link.listenTimer ∧ (offerYaw s f).link.errorWindow = s.link.errorWindow ∧
    (offerYaw s f).link.lastStuckReport = s.link.lastStuckReport ∧
    (offerYaw s f).link.noticeCounter = s.link.noticeCounter := by
  unfold offerYaw
  (repeat' split) <;> simp [LinkControl.lose]

@[simp] theorem offerStatus_link (s : State) (r : StatusRecord) :
    (offerStatus s r).link.state = s.link.state ∧ (offerStatus s r).link.ownMark = s.link.ownMark ∧
    (offerStatus s r).link.windowDiscards = s.link.windowDiscards ∧
    (offerStatus s r).link.listenTimer = s.link.listenTimer ∧
    (offerStatus s r).link.errorWindow = s.link.errorWindow ∧
    (offerStatus s r).link.lastStuckReport = s.link.lastStuckReport ∧
    (offerStatus s r).link.noticeCounter = s.link.noticeCounter := by
  unfold offerStatus
  (repeat' split) <;> simp [LinkControl.lose]

@[simp] theorem offerNotice_link (s : State) (cls code severity action : Nat) (detail : Int) :
    (offerNotice s cls code severity action detail).link.state = s.link.state ∧
    (offerNotice s cls code severity action detail).link.ownMark = s.link.ownMark ∧
    (offerNotice s cls code severity action detail).link.windowDiscards = s.link.windowDiscards ∧
    (offerNotice s cls code severity action detail).link.listenTimer = s.link.listenTimer ∧
    (offerNotice s cls code severity action detail).link.errorWindow = s.link.errorWindow ∧
    (offerNotice s cls code severity action detail).link.lastStuckReport = s.link.lastStuckReport := by
  unfold offerNotice
  (repeat' split) <;> simp [LinkControl.lose]

@[simp] theorem offerYaw_isJoined (s : State) (f : Frame) : (offerYaw s f).isJoined = s.isJoined := by
  simp [State.isJoined, State.held]

/-! ## Reports, sessions and trips -/

theorem enterRecord_moves {origin cls code severity action : Nat} {detail : Option Int} {noticeNumber : Option Nat}
    (m : Moves may s t) : Moves may s (enterRecord t origin cls code severity action detail noticeNumber) :=
  m.then (.record ..)

theorem reportNote_moves {cls code : Nat} {detail : Int} (m : Moves may s t) :
    Moves may s (reportNote t cls code detail) := enterRecord_moves m

theorem wakeCause_moves (m : Moves may s t) : Moves may s (wakeCause t) := m.then (.quiet (.wakeCause t))

theorem quietTest_moves (m : Moves may s t) : Moves may s (quietTest t) := m.then (.quiet (.quietTest t))

theorem offerYaw_moves (m : Moves may s t) {f : Frame} (yaw : f.kind < 16) : Moves may s (offerYaw t f) :=
  m.then (.link (.offerYaw t f yaw))

theorem offerStop_moves (m : Moves may s t) : Moves may s (offerStop t) := offerYaw_moves m (Nat.lt_of_sub_eq_succ rfl)

/-- R131, R136: a session not yet released, or one whose brakes are applied, has its brakes commanded to apply. -/
def State.Braked (s : State) : Prop :=
  s.yaw.state = .proposing ∨ s.yaw.state = .joined ∨ s.yaw.release = false ∨ s.yaw.applyWait.isSome = true

theorem enterIdle_moves (m : Moves may s t) (braked : t.Braked) : Moves may s (enterIdle t) :=
  quietTest_moves (m.then (.yaw (.idle t braked)))

theorem startHold_moves (m : Moves may s t) : Moves may s (startHold t) := m.plain rfl

theorem enterStopping_moves (m : Moves may s t) (inSession : t.inSession = true) : Moves may s (enterStopping t) :=
  m.then (.yaw (.stopping t inSession))

@[simp] theorem offerStop_inSession (s : State) : (offerStop s).inSession = s.inSession := by simp [State.inSession]

theorem stopSession_moves (m : Moves may s t) (inSession : t.inSession = true) : Moves may s (stopSession t) :=
  enterStopping_moves (offerStop_moves m) (by simpa using inSession)

theorem abandon_moves (m : Moves may s t) (reason station : Nat) (proposing : t.yaw.state = .proposing) :
    Moves may s (abandon t reason station) :=
  enterIdle_moves (startHold_moves (offerStop_moves (reportNote_moves m)))
    (.inl (by simpa [startHold] using proposing))

theorem barSession_moves (m : Moves may s t) : Moves may s (barSession t) := by
  unfold barSession
  split
  case h_1 proposing => exact abandon_moves m _ _ proposing
  case h_2 joined => exact enterIdle_moves (offerStop_moves m) (.inr (.inl (by simpa using joined)))
  case h_3 releasing => exact stopSession_moves m (by simp [State.inSession, releasing])
  case h_4 driving => exact stopSession_moves m (by simp [State.inSession, driving])
  all_goals exact m

theorem trip_moves (m : Moves may s t) {cls code : Nat} (cause : IsCause cls code) :
    Moves may s (tripThread (addCause t cls code)) := m.then (.thread (.trip t cls code cause))

/-- R151: a report of a severity that trips names a fault that can enter the cause set. -/
def Severity.Names (severity : Severity) (cls code : Nat) : Prop := severity.trips = true → IsCause cls code

theorem Severity.names_warn (cls code : Nat) : Severity.warn.Names cls code := by simp [Severity.Names, Severity.trips]

theorem takeReport_moves {cls code : Nat} {severity : Severity} {detail : Int} (m : Moves may s t)
    (named : severity.Names cls code) : Moves may s (takeReport t cls code severity detail) := by
  have tripped : Moves may s (if severity.trips then tripThread (addCause t cls code) else t) := by
    split
    case isTrue trips => exact trip_moves m (named trips)
    case isFalse => exact m
  unfold takeReport
  dsimp only
  split
  · exact enterRecord_moves tripped
  · exact wakeCause_moves ((enterRecord_moves tripped).then (.link (.offerNotice ..)))

theorem reportFault_moves {cls code : Nat} {severity : Severity} {detail : Int} (m : Moves may s t)
    (named : severity.Names cls code) : Moves may s (reportFault t cls code severity detail) := by
  unfold reportFault
  dsimp only
  split
  · exact barSession_moves (takeReport_moves m named)
  · exact takeReport_moves m named

theorem reportWarn_moves {cls code : Nat} {detail : Int} (m : Moves may s t) :
    Moves may s (reportFault t cls code .warn detail) := reportFault_moves m (Severity.names_warn cls code)

/-- R148: the faults that the thread's own rules and its neighbours trip by. -/
theorem isCause_of_mem {cls code : Nat} (h : (cls, code) ∈ causeTable.map fun row => (row.1, row.2.1)) :
    IsCause cls code := by
  obtain ⟨⟨c, d, kind⟩, mem, eq⟩ := List.mem_map.mp h
  obtain ⟨rfl, rfl⟩ := Prod.mk.inj eq
  exact ⟨kind, mem⟩

theorem reportTrip_moves {cls code : Nat} {severity : Severity} {detail : Int} (m : Moves may s t)
    (h : (cls, code) ∈ causeTable.map fun row => (row.1, row.2.1)) :
    Moves may s (reportFault t cls code severity detail) := reportFault_moves m (fun _ => isCause_of_mem h)

theorem endCondition_moves {cls code : Nat} (m : Moves may s t) (stays : cls ≠ clsLink) :
    Moves may s (endCondition t cls code) := m.then (.thread (.endCondition t cls code stays))

theorem markTaken_moves (m : Moves may s t) (n : Nat) : Moves may s (markTaken t n) := m.plain rfl

theorem takeNacelleTrip_moves (m : Moves may s t) {record : State → State}
    (records : ∀ {u}, Moves may s u → Moves may s (record u)) : Moves may s (takeNacelleTrip t record) := by
  have taken := wakeCause_moves (records (trip_moves m (isCause_of_mem (cls := clsPlant) (code := 6) (by decide))))
  unfold takeNacelleTrip
  dsimp only
  split
  · exact barSession_moves taken
  · exact taken

theorem takeNacelleNotice_moves (m : Moves may s t) (sender : Nat) (n : Notice) :
    Moves may s (takeNacelleNotice t sender n) :=
  takeNacelleTrip_moves m fun u => markTaken_moves (enterRecord_moves u) _

theorem takeNacelleStatus_moves (m : Moves may s t) (sender : Nat) : Moves may s (takeNacelleStatus t sender) := by
  refine takeNacelleTrip_moves m fun {u} mu => ?_
  split
  · exact mu
  · exact markTaken_moves (enterRecord_moves mu) _

theorem countDiscard_moves (m : Moves may s t) : Moves may s (countDiscard t) := by
  unfold countDiscard
  dsimp only
  split
  · exact reportWarn_moves (m.plain rfl)
  · exact m.plain rfl

theorem stopForStale_moves (m : Moves may s t) (n : Nat) (inSession : t.inSession = true) :
    Moves may s (stopForStale t n) := by
  refine stopSession_moves (reportWarn_moves m) ?_
  simpa [State.inSession, reportFault, Severity.trips] using inSession

/-! ## Yaw: release and driving -/

theorem enterReleasing_moves (m : Moves may s t) (ready : t.yaw.state = .proposing ∨ t.yaw.state = .joined) :
    Moves may s (enterReleasing t) := m.then (.yaw (.releasing t ready))

theorem session_moves (m : Moves may s t) (x : Session) (undriven : t.yaw.state ≠ .driving) :
    Moves may s { t with yaw := { t.yaw with session := x } } := m.then (.yaw (.session t x undriven))

theorem allocateAndStart_moves (m : Moves may s t) (proposing : t.yaw.state = .proposing) :
    Moves may s (allocateAndStart t) :=
  enterReleasing_moves
    (offerYaw_moves (session_moves m _ (by simp [proposing])) (by simp [Frame.kind]))
    (.inl (by simpa using proposing))

theorem judgeDriving_moves (m : Moves may s t) (drives : may .driving) : Moves may s (judgeDriving t) := by
  unfold judgeDriving
  split
  case isTrue h => exact m.then (.yaw (.driving t drives h.1 h.2))
  case isFalse => exact m

theorem judgeTwist_moves (m : Moves may s t) (drives : may .driving) : Moves may s (judgeTwist t) := by
  unfold judgeTwist
  split
  case isTrue h => exact stopSession_moves m h.1
  case isFalse => exact judgeDriving_moves m drives

theorem judgeStatus_moves (m : Moves may s t) (drives : may .driving) (n : Nat) : Moves may s (judgeStatus t n) := by
  unfold judgeStatus
  split
  · exact m
  split
  case isTrue h => exact stopSession_moves m h.1
  case isFalse =>
    split
    · exact judgeDriving_moves m drives
    · exact m

/-! ## The stack port and the thread -/

theorem missReply_moves (m : Moves may s t) : Moves may s (missReply t) := by
  unfold missReply
  dsimp only
  split
  · exact reportTrip_moves (m.plain rfl) (by decide)
  · exact m.plain rfl

theorem sendCommand_moves (m : Moves may s t) (offset : Nat) : Moves may s (sendCommand t offset) := m.plain rfl

theorem beginExchange_moves (m : Moves may s t) (offset : Nat) : Moves may s (beginExchange t offset) := by
  unfold beginExchange
  refine sendCommand_moves ?_ _
  split
  · exact missReply_moves m
  · exact m

theorem startTest_moves (m : Moves may s t) (starts : may .start) : Moves may s (startTest t) := by
  by_cases able : t.mayStart = true
  · exact m.then (.thread (.start t starts able))
  · simpa [startTest, able] using m

theorem completeStop_moves (m : Moves may s t) : Moves may s (completeStop t) := by
  unfold completeStop
  split
  case isTrue h => exact m.then (.thread (.off t (.inr (.inr h))))
  case isFalse => exact m

theorem setThread_moves (m : Moves may s t) {next : ThreadState} (order : t.thread.state.Advances next) :
    Moves may s (setThread t next) := m.then (.thread (.advance t next order))

theorem judgeDemand_moves (m : Moves may s t) : Moves may s (judgeDemand t) := by
  unfold judgeDemand
  split
  · exact m
  split
  case h_1 precharge => exact m.then (.thread (.off t (.inl precharge)))
  case h_2 sync => exact m.then (.thread (.off t (.inr (.inl sync))))
  case h_3 run => exact (setThread_moves m (run ▸ .stop)).plain rfl
  case h_4 ride => exact (setThread_moves m (ride ▸ .stopRiding)).plain rfl
  all_goals exact m

theorem allot_moves (m : Moves may s t) : Moves may s (allot t) := m.then (.thread (.allot t))

/-! ## The cadence -/

/-- R25: the cadence timer is left by a station in QUIET. -/
def State.Runs (s : State) (may : Part → Prop) : Prop :=
  s.quiet.state ≠ .quiet ∨ s.link.state ≠ .joined ∨ may .joining

theorem latchOffset_moves (m : Moves may s t) (latches : may .offsets) : Moves may s (latchOffset t) :=
  m.then (.cadence (.latchOffset t latches))

theorem periodWork_moves (m : Moves may s t) (latches : may .offsets) (starts : may .start) :
    Moves may s (periodWork t) :=
  completeStop_moves (allot_moves (beginExchange_moves (startTest_moves (latchOffset_moves m latches) starts) _))

theorem cadence_moves (m : Moves may s t) (c : CadenceUnit) (ranged : t.cadence.Ranged → c.Ranged)
    (latched : c.latchedOffset = t.cadence.latchedOffset) (pending : c.pendingOffset = t.cadence.pendingOffset)
    (runs : c.timer = t.cadence.timer ∨ t.Runs may) : Moves may s { t with cadence := c } :=
  m.then (.cadence (.unit t c ranged latched pending runs))

/-- A write of the Cadence Unit that stops at the timers and marks it counts by. -/
theorem beginPeriod_moves (m : Moves may s t) (restart : Nat) (runs : t.Runs may) (latches : may .offsets)
    (starts : may .start) : Moves may s (beginPeriod t restart) := by
  have begun : Moves may s { t with cadence := { t.cadence with timer := some restart, overdue := false,
                                                                expiry := Config.cadence,
                                                                count := (t.cadence.count + 1) % 65536 } } :=
    cadence_moves m _ (fun ⟨l, p, _, k⟩ => ⟨l, p, Nat.mod_lt _ (by decide), k⟩) rfl rfl (.inr runs)
  unfold beginPeriod
  dsimp only
  split
  · exact periodWork_moves begun latches starts
  · exact begun

theorem CadenceUnit.Ranged.ownPeriod {c : CadenceUnit} (h : c.Ranged) : c.ownPeriod.Ranged := by
  obtain ⟨latched, pending, count, seek, seeking⟩ := h
  unfold CadenceUnit.ownPeriod
  cases reference : c.reference with
  | locked => exact ⟨latched, pending, count, seek, seeking⟩
  | seeking =>
    have := seeking reference
    refine ⟨latched, pending, count, by simp; omega, fun still => ?_⟩
    dsimp only at still ⊢
    split at still
    · contradiction
    · omega

theorem CadenceUnit.ownPeriod_kept (c : CadenceUnit) :
    c.ownPeriod.latchedOffset = c.latchedOffset ∧ c.ownPeriod.pendingOffset = c.pendingOffset ∧
    c.ownPeriod.timer = c.timer ∧ c.ownPeriod.count = c.count ∧ c.ownPeriod.expiry = c.expiry ∧
    c.ownPeriod.overdue = c.overdue ∧ c.ownPeriod.earlyMarks = c.earlyMarks ∧
    c.ownPeriod.earlyWindow = c.earlyWindow := by
  unfold CadenceUnit.ownPeriod
  split <;> exact ⟨rfl, rfl, rfl, rfl, rfl, rfl, rfl, rfl⟩

theorem CadenceUnit.Ranged.seek {c : CadenceUnit} (h : c.Ranged) : c.seek.Ranged := by
  obtain ⟨latched, pending, count, -, -⟩ := h
  exact ⟨latched, pending, count, Nat.zero_le _, fun _ => Nat.zero_lt_succ _⟩

theorem CadenceUnit.Ranged.lock {c : CadenceUnit} (h : c.Ranged) : { c with reference := .locked }.Ranged := by
  obtain ⟨latched, pending, count, seek, -⟩ := h
  exact ⟨latched, pending, count, seek, fun locked => by cases locked⟩

theorem sendMark_moves (m : Moves may s t) (joined : t.isJoined = true) (runs : t.Runs may) (latches : may .offsets)
    (starts : may .start) : Moves may s (sendMark t) := by
  have kept := t.cadence.ownPeriod_kept
  exact beginPeriod_moves
    (cadence_moves (m.then (.link (.mark t joined))) t.cadence.ownPeriod .ownPeriod kept.1 kept.2.1 (.inl kept.2.2.1))
    t.now runs latches starts

theorem takeExpiry_moves (m : Moves may s t) (lineDominant : Bool) (joined : t.isJoined = true) (runs : t.Runs may)
    (latches : may .offsets) (starts : may .start) : Moves may s (takeExpiry t lineDominant) := by
  unfold takeExpiry
  split
  · exact m
  split
  · exact cadence_moves m _ (fun ranged => ranged) rfl rfl (.inl rfl)
  · exact sendMark_moves m joined runs latches starts

theorem State.runs_of_keepsCadence (keeps : t.keepsCadence = true) : t.Runs may :=
  .inl (by simpa [State.keepsCadence] using keeps)

theorem cadenceExpiry_moves (m : Moves may s t) (lineDominant : Bool) (latches : may .offsets) (starts : may .start) :
    Moves may s (cadenceExpiry t lineDominant) := by
  unfold cadenceExpiry
  split
  case isFalse => exact m
  case isTrue h =>
    split
    case isTrue joined => exact takeExpiry_moves m _ joined (State.runs_of_keepsCadence h.2) latches starts
    case isFalse =>
      split
      · exact beginPeriod_moves m _ (State.runs_of_keepsCadence h.2) latches starts
      · exact m

theorem overdueMark_moves (m : Moves may s t) (lineDominant : Bool) (latches : may .offsets) (starts : may .start) :
    Moves may s (overdueMark t lineDominant) := by
  unfold overdueMark
  split
  case isFalse => exact m
  case isTrue h =>
    obtain ⟨-, joined, keeps, -⟩ := h
    exact sendMark_moves m joined (State.runs_of_keepsCadence keeps) latches starts

theorem standInPeriod_moves (m : Moves may s t) (latches : may .offsets) (starts : may .start) :
    Moves may s (standInPeriod t) := by
  unfold standInPeriod
  split
  case isFalse => exact m
  case isTrue h =>
    obtain ⟨-, -, keeps, -⟩ := h
    exact beginPeriod_moves (cadence_moves m t.cadence.seek .seek rfl rfl (.inl rfl)) _
      (State.runs_of_keepsCadence (t := t) keeps) latches starts

theorem countEarly_moves (m : Moves may s t) : Moves may s (countEarly t) := by
  have counted (c : CadenceUnit) (h : t.cadence.Ranged → c.Ranged) (l) (p) (r : c.timer = t.cadence.timer) :=
    cadence_moves m c h l p (.inl r)
  unfold countEarly
  dsimp only
  split
  · exact reportWarn_moves (counted _ (fun ranged => CadenceUnit.Ranged.seek (c := { t.cadence with
      earlyMarks := countHeld 255 t.cadence.earlyMarks }) ranged) rfl rfl rfl) ..
  · exact counted _ (fun ranged => ranged) rfl rfl rfl

theorem hearMark_moves (m : Moves may s t) (firstBit : Nat) (runs : t.Runs may) (latches : may .offsets)
    (starts : may .start) : Moves may s (hearMark t firstBit) := by
  unfold hearMark
  split
  · exact beginPeriod_moves (cadence_moves m _ .lock rfl rfl (.inl rfl)) _ runs latches starts
  · split
    · exact beginPeriod_moves m _ runs latches starts
    · exact countEarly_moves m

theorem earlyMarkWindowEnd_moves (m : Moves may s t) : Moves may s (earlyMarkWindowEnd t) := by
  unfold earlyMarkWindowEnd
  split
  · exact cadence_moves m _ (fun ranged => ranged) rfl rfl (.inl rfl)
  · exact m

/-! ## Thread Control's own commands -/

theorem quietExchange_moves (m : Moves may s t) : Moves may s (quietExchange t) := by
  unfold quietExchange
  split
  case isFalse => exact m
  case isTrue h => exact beginExchange_moves (m.then (.quiet (.timer t _ h.2.1))) _

theorem recordReply_moves (m : Moves may s t) (r : StackReply) (replies : may .reply) :
    Moves may s (recordReply t r) := by
  have recorded : Moves may s { t with thread := { t.thread with reply := some r } } :=
    m.then (.block (.reply t (some r) replies))
  unfold recordReply
  dsimp only
  split
  · exact endCondition_moves (recorded.plain rfl) (by decide)
  · exact recorded.plain rfl

theorem reportIf_moves {cls code : Nat} {detail : Int} (m : Moves may s t) (c : Bool)
    (h : (cls, code) ∈ causeTable.map fun row => (row.1, row.2.1)) :
    Moves may s (reportIf c cls code detail t) := by
  unfold reportIf
  split
  · exact reportTrip_moves m h
  · exact m

theorem endIf_moves {cls code : Nat} (m : Moves may s t) (c : Bool) (stays : cls ≠ clsLink) :
    Moves may s (endIf c cls code t) := by
  unfold endIf
  split
  · exact endCondition_moves m stays
  · exact m

theorem judgeReplyFaults_moves (m : Moves may s t) (s0 : State) (r : StackReply) :
    Moves may s (judgeReplyFaults s0 r t) := by
  unfold judgeReplyFaults
  dsimp only
  refine reportIf_moves (reportIf_moves (reportIf_moves (reportIf_moves (reportIf_moves (endIf_moves (endIf_moves
    (endIf_moves (endIf_moves ?_ _ ?_) _ ?_) _ ?_) _ ?_) _ ?_) _ ?_) _ ?_) _ ?_) _ ?_
  case refine_1 => exact m.plain rfl
  all_goals decide

theorem replyTransition_moves (m : Moves may s t) (r : StackReply) : Moves may s (replyTransition t r) := by
  unfold replyTransition
  dsimp only
  split
  case h_1 precharge =>
    split
    · split
      · exact m.plain rfl
      · exact m
    · split
      · exact (setThread_moves m (precharge ▸ .sync)).plain rfl
      · exact m
  case h_2 sync =>
    have locked : Moves may s { t with thread := { t.thread with lockCount := t.thread.lockCount + 1 } } := m.plain rfl
    split
    · split
      · exact (setThread_moves locked (next := .run) (sync ▸ .run)).plain rfl
      · exact locked
    · exact m.plain rfl
  case h_3 run =>
    split
    · exact reportNote_moves ((setThread_moves m (run ▸ .rideThrough)).plain rfl)
    · exact m
  case h_4 => exact m.plain rfl
  all_goals exact m

theorem stackReply_moves (m : Moves may s t) (r : StackReply) (replies : may .reply) :
    Moves may s (stackReply t r) := by
  have judged := judgeReplyFaults_moves (recordReply_moves m r replies) t r
  unfold stackReply
  split
  case isFalse => exact m
  case isTrue =>
    unfold takeReply
    dsimp only
    split
    · exact judged
    · exact replyTransition_moves judged r

theorem stackReplyTimeout_moves (m : Moves may s t) : Moves may s (stackReplyTimeout t) := by
  unfold stackReplyTimeout
  split
  · exact missReply_moves m
  · exact m

theorem prechargeTimeout_moves (m : Moves may s t) : Moves may s (prechargeTimeout t) := by
  unfold prechargeTimeout
  split
  · exact endCondition_moves (reportTrip_moves m (by decide)) (by decide)
  · exact m

theorem syncTimeout_moves (m : Moves may s t) : Moves may s (syncTimeout t) := by
  unfold syncTimeout
  split
  · exact endCondition_moves (reportTrip_moves m (by decide)) (by decide)
  · exact m

theorem rideThroughRecovery_moves (m : Moves may s t) : Moves may s (rideThroughRecovery t) := by
  unfold rideThroughRecovery
  split
  case isFalse => exact m
  case isTrue h => exact reportNote_moves ((setThread_moves m (h.1 ▸ .recover)).plain rfl)

theorem rideThroughTooLong_moves (m : Moves may s t) : Moves may s (rideThroughTooLong t) := by
  unfold rideThroughTooLong
  split
  · exact endIf_moves (reportTrip_moves m (by decide)) _ (by decide)
  · exact m

theorem gridHealthyTimer_moves (m : Moves may s t) : Moves may s (gridHealthyTimer t) := by
  unfold gridHealthyTimer
  split
  · exact endCondition_moves (endCondition_moves m (by decide)) (by decide)
  · exact m

theorem restartHoldExpiry_moves (m : Moves may s t) : Moves may s (restartHoldExpiry t) := by
  unfold restartHoldExpiry
  split
  · exact m.plain rfl
  · exact m

end Sys2Proof.Machine
end

section
namespace Sys2Proof.Machine
variable {may : Part → Prop} {s t : State}

/-! ## The items of the stations -/

theorem PerThread.get?_set_ne {α : Type} (p : PerThread α) {n m : Nat} (a : α) (apart : n ≠ m) :
    (p.set n a).get? m = p.get? m := by
  unfold PerThread.set
  split <;> unfold PerThread.get? <;> split <;> simp_all

theorem PerThread.get?_set_self {α : Type} (p : PerThread α) (n : Nat) (a : α) :
    (p.set n a).get? n = (p.get? n).map fun _ => a := by
  unfold PerThread.set PerThread.get?
  split <;> rfl

theorem PerThread.get?_map {α β : Type} (p : PerThread α) (f : Nat → α → β) (n : Nat) :
    (p.map f).get? n = (p.get? n).map (f n) := by
  unfold PerThread.map PerThread.get?
  split <;> rfl

theorem PerThread.get?_eq_none_iff {α : Type} (p : PerThread α) (n : Nat) : p.get? n = none ↔ n = 0 ∨ 7 < n := by
  unfold PerThread.get?
  split <;> simp_all
  omega

/-! ## Frames taken into the table, and ageing -/

theorem block_moves {u : State} (m : Moves may s t) (b : BlockMove may t u) : Moves may s u := m.then (.block b)

theorem takeStatus_moves (m : Moves may s t) (r : StatusRecord) {n : Nat} (other : n ≠ t.own) (enters : may .entries)
    (drives : may .driving) : Moves may s (takeStatus t n r) := by
  unfold takeStatus
  split
  · exact m
  rename_i e _
  have taken : Moves may s { t with table := { t.table with
      threads := t.table.threads.set n (e.take .thread r.tag r t.quiet.threadLimits.1) } } :=
    block_moves m (.threads t _ (PerThread.get?_set_ne _ _ other) enters)
  dsimp only
  split
  · exact taken
  · refine judgeStatus_moves ?_ drives n
    split
    · exact takeNacelleStatus_moves taken n
    · exact taken

theorem takeAcknowledge_moves (m : Moves may s t) : Moves may s (takeAcknowledge t) := by
  unfold takeAcknowledge
  split
  · exact m.plain rfl
  · exact m

theorem takeDemand_moves (m : Moves may s t) (d : DemandRecord) (enters : may .entries) :
    Moves may s (takeDemand t d) := by
  have taken := block_moves m (.controller t
    (t.table.controller.take .turbineController d.tag d t.quiet.controllerLimits.1) enters)
  have judged {c : Bool} {u : State} (mu : Moves may s u) :
      Moves may s (judgeDemand (if c then takeAcknowledge u else u)) := by
    refine judgeDemand_moves ?_
    split
    · exact takeAcknowledge_moves mu
    · exact mu
  unfold takeDemand
  dsimp only
  split
  · exact taken
  split
  · exact wakeCause_moves (judged taken)
  · exact judged taken

theorem reportWarn_eq (s : State) (cls code : Nat) (detail : Int) :
    reportFault s cls code .warn detail = takeReport s cls code .warn detail := by
  simp [reportFault, Severity.trips]

@[simp] theorem reportWarn_yaw (s : State) (cls code : Nat) (detail : Int) :
    (reportFault s cls code .warn detail).yaw = s.yaw := by simp [reportWarn_eq]

@[simp] theorem judgeDemand_yaw (s : State) : (judgeDemand s).yaw = s.yaw := by
  unfold judgeDemand
  split
  · rfl
  split <;> simp

theorem inSession_of_staleStops {n : Nat} (stops : s.staleStops n = true) : s.inSession = true := by
  simp only [State.staleStops, Bool.and_eq_true] at stops
  exact stops.1

theorem age_moves (m : Moves may s t) (enters : may .entries) : Moves may s (age t) := by
  have threads := block_moves m (.threads t
    (t.table.threads.map fun n e => if n = t.own then e else e.ageStep t.quiet.threadLimits)
    (by rw [PerThread.get?_map]; cases t.table.threads.get? t.own <;> simp) enters)
  have aged := block_moves threads (.controller _ (t.table.controller.ageStep t.quiet.controllerLimits) enters)
  unfold age
  dsimp only
  set lost := t.table.controller.state != .lost && _ with hlost
  set told := if lost = true then _ else _ with htold
  have toldMoves : Moves may s told ∧ told.yaw = t.yaw := by
    rw [htold]
    split
    · exact ⟨judgeDemand_moves (reportWarn_moves aged), by simp⟩
    · exact ⟨aged, rfl⟩
  obtain ⟨moves, yaw⟩ := toldMoves
  split
  · exact moves
  case h_2 n rest stale =>
    have stops : t.staleStops n = true := (List.mem_filter.mp (stale ▸ List.mem_cons_self)).2
    refine stopForStale_moves moves n ?_
    have := inSession_of_staleStops stops
    rwa [State.inSession, yaw]

theorem ageingStep_moves (m : Moves may s t) (enters : may .entries) : Moves may s (ageingStep t) := by
  unfold ageingStep
  split
  · exact age_moves (m.plain rfl) enters
  · exact m

theorem statusBuild_moves (m : Moves may s t) (records : may .ownRecord) : Moves may s (statusBuild t) := by
  unfold statusBuild
  split
  case isFalse => exact m
  unfold buildStatus
  dsimp only
  refine Moves.then (t := { t with table := { t.table with
      threads := _, statusTag := _, statusTimer := _, changePending := _ } }) ?_ (.link (.offerStatus _ _))
  split
  case h_1 e own => exact (block_moves m (.ownRecord t e _ _ own records)).plain rfl
  case h_2 => exact m.plain rfl

/-! ## The Cooling Unit -/

theorem cooling_moves {c : CoolingUnit} (m : Moves may s t) (cools : may .cooling) :
    Moves may s { t with cooling := c } := block_moves m (.cooling t c cools)

theorem reportSensor_moves {before : Sensor} {reading : Option Int} {code : Nat} (m : Moves may s t) :
    Moves may s (reportSensor before reading code t) := by
  unfold reportSensor
  split
  · exact reportWarn_moves m
  · exact m

theorem senseHeatsink_moves (m : Moves may s t) (cools : may .cooling) : Moves may s (senseHeatsink t) := by
  unfold senseHeatsink
  split
  · exact m
  · exact reportSensor_moves (cooling_moves m cools)

theorem senseInlet_moves (m : Moves may s t) (reading : Option Int) (cools : may .cooling) :
    Moves may s (senseInlet reading t) := reportSensor_moves (cooling_moves m cools)

theorem senseOutlet_moves (m : Moves may s t) (reading : Option Int) (cools : may .cooling) :
    Moves may s (senseOutlet reading t) := reportSensor_moves (cooling_moves m cools)

theorem formFactor_moves (m : Moves may s t) (cools : may .cooling) : Moves may s (formFactor t) :=
  cooling_moves m cools

theorem derateNote_moves (m : Moves may s t) (cools : may .cooling) : Moves may s (derateNote t) := by
  unfold derateNote
  split
  · split
    · exact reportNote_moves (cooling_moves m cools)
    · exact m
  · (repeat' split) <;> exact cooling_moves m cools

theorem heatsinkTrip_moves (m : Moves may s t) (cools : may .cooling) : Moves may s (heatsinkTrip t) := by
  unfold heatsinkTrip
  split
  · split
    · exact reportTrip_moves (cooling_moves m cools) (by decide)
    · split
      · exact endCondition_moves (cooling_moves m cools) (by decide)
      · exact m
  · exact m

theorem formDemands_moves (m : Moves may s t) (cools : may .cooling) : Moves may s (formDemands t) :=
  cooling_moves m cools

theorem mergeCommand_moves (m : Moves may s t) (cools : may .cooling) : Moves may s (mergeCommand t) := by
  unfold mergeCommand
  split
  · exact cooling_moves m cools
  · exact m

theorem judgeProof_moves (m : Moves may s t) (command : Nat) (cools : may .cooling) :
    Moves may s (judgeProof command t) := by
  unfold judgeProof
  dsimp only
  split
  · exact m
  split
  · exact reportWarn_moves (cooling_moves m cools)
  · split <;> exact cooling_moves m cools

theorem pumpAbsence_moves (m : Moves may s t) (cools : may .cooling) : Moves may s (pumpAbsence t) := by
  unfold pumpAbsence
  dsimp only
  split
  · split
    · exact reportWarn_moves (cooling_moves m cools)
    · exact cooling_moves m cools
  · exact cooling_moves m cools

theorem capabilityAtEvaluation_moves (m : Moves may s t) : Moves may s (capabilityAtEvaluation t) := by
  unfold capabilityAtEvaluation
  split
  case isTrue h => exact m.then (.thread (.setCapability t (by rcases h with h | h <;> simp [State.resting, h])))
  case isFalse => exact m

theorem coolingStages_moves (m : Moves may s t) (inlet outlet : Option Int) (cools : may .cooling) :
    Moves may s (coolingStages t inlet outlet) :=
  capabilityAtEvaluation_moves <| (pumpAbsence_moves · cools) <| (judgeProof_moves · _ cools) <|
    (mergeCommand_moves · cools) <| (formDemands_moves · cools) <| (heatsinkTrip_moves · cools) <|
    (derateNote_moves · cools) <| (formFactor_moves · cools) <| (senseOutlet_moves · _ cools) <|
    (senseInlet_moves · _ cools) <| senseHeatsink_moves m cools

theorem coolingEvaluation_moves (m : Moves may s t) (inlet outlet : Option Int) (cools : may .cooling) :
    Moves may s (coolingEvaluation t inlet outlet) := by
  unfold coolingEvaluation
  split
  · exact coolingStages_moves (cooling_moves m cools) _ _ cools
  · exact m

theorem tachPulse_moves (m : Moves may s t) (cools : may .cooling) : Moves may s (tachPulse t) := by
  unfold tachPulse
  split
  · exact cooling_moves m cools
  · exact m

theorem pwmPeriodEnd_moves (m : Moves may s t) (cools : may .cooling) : Moves may s (pwmPeriodEnd t) := by
  unfold pwmPeriodEnd
  split
  · exact cooling_moves m cools
  · exact m

/-! ## The Wind Input Unit -/

theorem wind_moves {w : WindUnit} (m : Moves may s t) (winds : may .wind) (twist : w.sharedTwist = t.wind.sharedTwist) :
    Moves may s { t with wind := w } := block_moves m (.wind t w twist winds)

/-! The edges and the stages on the own inputs leave the shared twist. -/

@[simp] theorem WindUnit.closePeriod_sharedTwist (w : WindUnit) (capture : Nat) :
    (w.closePeriod capture).sharedTwist = w.sharedTwist := by
  unfold WindUnit.closePeriod WindUnit.sample
  (repeat' split) <;> rfl

@[simp] theorem WindUnit.fall_sharedTwist (w : WindUnit) (capture : Nat) :
    (w.fall capture).sharedTwist = w.sharedTwist := by
  unfold WindUnit.fall
  split <;> rfl

@[simp] theorem WindUnit.edge_sharedTwist (w : WindUnit) (prescaler : Nat) :
    (w.edge prescaler).sharedTwist = w.sharedTwist := by
  unfold WindUnit.edge
  split <;> rfl

theorem vaneRising_moves (m : Moves may s t) (winds : may .wind) : Moves may s (vaneRising t) := by
  unfold vaneRising
  split
  · exact wind_moves m winds (by simp [WindUnit.openPeriod])
  · exact m

theorem vaneFalling_moves (m : Moves may s t) (winds : may .wind) : Moves may s (vaneFalling t) := by
  unfold vaneFalling
  split
  · exact wind_moves m winds (by simp)
  · exact m

theorem vaneWrap_moves (m : Moves may s t) (winds : may .wind) : Moves may s (vaneWrap t) := by
  unfold vaneWrap
  split
  · exact wind_moves m winds rfl
  · exact m

theorem anemometerEdge_moves (m : Moves may s t) (winds : may .wind) : Moves may s (anemometerEdge t) := by
  unfold anemometerEdge
  split
  · exact wind_moves m winds (by simp)
  · exact m

theorem closeVaneInterval_moves (m : Moves may s t) (winds : may .wind) : Moves may s (closeVaneInterval t) := by
  unfold closeVaneInterval
  dsimp only
  split
  · exact m
  split
  · exact wind_moves m winds rfl
  split
  · exact reportWarn_moves (wind_moves m winds rfl)
  · exact wind_moves m winds rfl

theorem readTwist_moves (m : Moves may s t) (encoder : Option Int) (winds : may .wind) :
    Moves may s (readTwist encoder t) := by
  unfold readTwist
  dsimp only
  split
  · exact m
  split
  · exact wind_moves m winds rfl
  split
  · exact wind_moves m winds rfl
  · exact reportWarn_moves (wind_moves m winds rfl)

theorem judgeSpeed_moves (m : Moves may s t) (own : Nat) (winds : may .wind) : Moves may s (judgeSpeed own t) := by
  unfold judgeSpeed
  split
  · exact m
  · split
    · split
      · exact reportWarn_moves (wind_moves m winds rfl)
      · exact wind_moves m winds rfl
    · exact wind_moves m winds rfl
  · (repeat' split) <;> exact wind_moves m winds rfl

theorem closeAnemometerWindow_moves (m : Moves may s t) (winds : may .wind) :
    Moves may s (closeAnemometerWindow t) := by
  unfold closeAnemometerWindow
  dsimp only
  split
  · exact m
  split
  · have closed : Moves may s { t with wind := t.wind.closeWindow t.cfg.prescaler t.cfg.speedFactor } :=
      wind_moves m winds rfl
    exact judgeSpeed_moves closed _ winds
  · exact wind_moves m winds rfl

theorem ownStages_moves (m : Moves may s t) (encoder : Option Int) (winds : may .wind) :
    Moves may s (ownStages t encoder) :=
  closeAnemometerWindow_moves (readTwist_moves (closeVaneInterval_moves m winds) _ winds) winds

/-- Stage 4 before the new shared twist is judged: the values shared, and SENSE 4 where the sources cease to agree. -/
def shareValues (s : State) : State :=
  let t := { s with wind := s.wind.sharing s.windSources }
  if s.wind.agreeing = true ∧ sourcesAgree (s.windSources.filterMap (·.direction)) = false then
    reportNote t clsSense 4 (spread (s.windSources.filterMap (·.direction)))
  else t

theorem formShared_eq (s : State) : formShared s = judgeTwist (shareValues s) := rfl

theorem shareValues_moves (m : Moves may s t) (winds : may .wind) (twists : may .twist) :
    Moves may s (shareValues t) := by
  have shared := block_moves m (.sharedTwist t (t.wind.sharing t.windSources) winds twists)
  unfold shareValues
  dsimp only
  split
  · exact reportNote_moves shared
  · exact shared

theorem updateStorm_moves (m : Moves may s t) (winds : may .wind) : Moves may s (updateStorm t) :=
  wind_moves m winds (by simp)

theorem windEvaluation_moves (m : Moves may s t) (encoder : Option Int) (winds : may .wind) (twists : may .twist)
    (drives : may .driving) : Moves may s (windEvaluation t encoder) := by
  unfold windEvaluation
  split
  · have begun : Moves may s { t with wind := { t.wind with timer := t.wind.timer.again Config.evaluation } } :=
      wind_moves m winds rfl
    rw [windStages_eq, formShared_eq]
    exact updateStorm_moves (judgeTwist_moves (shareValues_moves (ownStages_moves begun _ winds) winds twists)
      drives) winds
  · exact m

/-! ## Yaw Control's own commands -/

theorem logLimit_moves (m : Moves may s t) (g : Trigger) : Moves may s (logLimit g t) := by
  unfold logLimit
  dsimp only
  split
  · split
    · split
      · exact reportWarn_moves (m.plain rfl)
      · exact m
    · split
      · exact reportNote_moves (m.plain rfl)
      · exact m
  · exact m

theorem logPeer_moves (m : Moves may s t) : Moves may s (logPeer t) := by
  unfold logPeer
  split
  · split
    · exact reportNote_moves (m.plain rfl)
    · exact m
  · exact m

theorem logInhibits_moves (m : Moves may s t) (g : Trigger) : Moves may s (logInhibits g t) :=
  logPeer_moves (logLimit_moves m g)

theorem forwardTrigger_moves (m : Moves may s t) (g : Trigger) : Moves may s (forwardTrigger t g) := by
  have logged := logInhibits_moves (m.plain (u := rearmNotes t g) rfl) g
  unfold forwardTrigger
  dsimp only
  split
  · exact logged
  · exact logged.plain rfl

theorem judgeTriggers_moves (m : Moves may s t) : Moves may s (judgeTriggers t) := by
  unfold judgeTriggers
  split
  · split
    · exact m
    split
    · exact forwardTrigger_moves m _
    · exact wakeCause_moves m
  · exact m

theorem judgeProposer_moves (m : Moves may s t) : Moves may s (judgeProposer t) := by
  unfold judgeProposer
  split
  case isTrue h => exact stopSession_moves m h.1
  case isFalse => exact m

theorem yawCheck_moves (m : Moves may s t) : Moves may s (yawCheck t) := by
  unfold yawCheck
  dsimp only
  split
  · exact judgeProposer_moves (judgeTriggers_moves (m.plain rfl))
  · exact m

@[simp] theorem setYaw_state (s : State) (y : YawState) : (setYaw s y).yaw.state = y := by
  unfold setYaw
  split
  case isTrue h => exact h
  case isFalse => rfl

@[simp] theorem allocateAndStart_state (s : State) : (allocateAndStart s).yaw.state = .releasing := by
  simp [allocateAndStart, enterReleasing]

theorem propose_moves (m : Moves may s t) (g : Stagger) (joined : t.isJoined = true) (idle : t.yaw.state = .idle) :
    Moves may s (propose t g) := by
  have begun : Moves may s { t with yaw := { t.yaw with proposalCounter := (t.newSession g).tag,
                                                        session := t.newSession g } } :=
    (session_moves m (t.newSession g) (by simp [idle])).plain rfl
  have offered := offerYaw_moves (f := .yawProposal (t.newSession g).tag (t.newSession g).mode.code
    (t.newSession g).direction.code (t.newSession g).budget (t.newSession g).twist) begun (by simp [Frame.kind])
  have proposed {u : State} (mu : Moves may s u) (joined : u.isJoined = true) (idle : u.yaw.state = .idle) :
      Moves may s (setYaw { u with yaw := { u.yaw with answerWait := some u.now } } .proposing) :=
    (mu.plain (u := { u with yaw := { u.yaw with answerWait := some u.now } }) rfl).then (.yaw (.propose _ joined idle))
  have made := proposed offered ((offerYaw_isJoined _ _).trans joined)
    (by simpa using idle)
  unfold propose
  dsimp only
  split
  · exact allocateAndStart_moves made (by simp)
  · exact made

theorem staggerExpiry_moves (m : Moves may s t) : Moves may s (staggerExpiry t) := by
  unfold staggerExpiry
  split
  · exact m
  split
  case isFalse => exact m
  case isTrue h =>
    have dropped : Moves may s { t with yaw := { t.yaw with stagger := none } } := m.plain rfl
    dsimp only
    split
    · exact logInhibits_moves dropped _
    · exact propose_moves dropped _ h.1 h.2.1

theorem answerWaitExpiry_moves (m : Moves may s t) : Moves may s (answerWaitExpiry t) := by
  unfold answerWaitExpiry
  split
  case isFalse => exact m
  case isTrue h =>
    split
    · exact abandon_moves m _ _ h.2.1
    · exact m

theorem startWaitExpiry_moves (m : Moves may s t) : Moves may s (startWaitExpiry t) := by
  unfold startWaitExpiry
  split
  case isFalse => exact m
  case isTrue h => exact enterIdle_moves m (.inr (.inl h.2.1))

theorem releaseWaitExpiry_moves (m : Moves may s t) : Moves may s (releaseWaitExpiry t) := by
  unfold releaseWaitExpiry
  split
  case isFalse => exact m
  case isTrue h => exact stopSession_moves (reportWarn_moves m) (by simp [State.inSession, h.2.1])

theorem driveTimeExpiry_moves (m : Moves may s t) : Moves may s (driveTimeExpiry t) := by
  unfold driveTimeExpiry
  split
  · exact m.plain rfl
  · exact m

theorem finishStopping_moves (m : Moves may s t) (braked : t.Braked) : Moves may s (finishStopping t) :=
  enterIdle_moves (startHold_moves m) braked

theorem judgeBrakes_moves (m : Moves may s t) (drives : t.pins.brakesReleased = true → may .driving) :
    Moves may s (judgeBrakes t) := by
  unfold judgeBrakes
  split
  · by_cases released : t.pins.brakesReleased = true
    · exact judgeDriving_moves m (drives released)
    · simpa [judgeDriving, State.mayDrive, released] using m
  case h_2 driving =>
    split
    · exact m
    · exact stopSession_moves (reportWarn_moves (m.then (.yaw (.motorsOff t))))
        (by simp [State.inSession, YawControl.motorsOff, driving])
  · split
    case isTrue h => exact finishStopping_moves m (.inr (.inr (.inr h.2)))
    case isFalse => exact m
  all_goals exact m

theorem brakeFeedback_moves (m : Moves may s t) (released : Bool) (feeds : may .brakes)
    (drives : released = true → may .driving) : Moves may s (brakeFeedback t released) := by
  have fed := block_moves m (.brakes t { t.pins with brakesReleased := released } feeds)
  unfold brakeFeedback
  dsimp only
  split
  · exact judgeBrakes_moves fed drives
  · exact fed

theorem motorFaultInput_moves (m : Moves may s t) (motor : Nat) (active : Bool) (pins : may .pins) :
    Moves may s (motorFaultInput t motor active) := by
  have seen := block_moves m (.pins t { t.pins with motorFault := t.pins.motorFault.set motor active } rfl pins)
  unfold motorFaultInput
  dsimp only
  split
  · exact seen
  split
  · split
    case isTrue h =>
      exact stopSession_moves (reportTrip_moves (seen.plain rfl) (by decide))
        (by simpa [State.inSession, reportFault, barsSession] using h.1)
    case isFalse => exact seen
  · split
    · exact endCondition_moves (seen.plain rfl) (by decide)
    · exact seen

theorem applyBrakes_moves (m : Moves may s t) : Moves may s
    { t with yaw := { t.yaw with release := false, brakeDelay := none, applyWait := some t.now } } :=
  m.then (.yaw (.applyBrakes t))

theorem brakeDelayExpiry_moves (m : Moves may s t) : Moves may s (brakeDelayExpiry t) := by
  unfold brakeDelayExpiry
  dsimp only
  split
  · split
    · exact applyBrakes_moves m
    · exact finishStopping_moves (applyBrakes_moves m) (.inr (.inr (.inl rfl)))
  · exact m

theorem applyWaitExpiry_moves (m : Moves may s t) : Moves may s (applyWaitExpiry t) := by
  unfold applyWaitExpiry
  split
  case isFalse => exact m
  case isTrue h =>
    obtain ⟨t0, waits, -⟩ := (Timer.reached_iff ..).mp h.2.2
    exact finishStopping_moves (reportWarn_moves m) (.inr (.inr (.inr (by simp [waits]))))

theorem holdTimerExpiry_moves (m : Moves may s t) : Moves may s (holdTimerExpiry t) := by
  unfold holdTimerExpiry
  split
  · exact m.plain rfl
  · exact m

/-! ## The YAW frames -/

theorem offerAnswer_moves {p : Proposal} {reason : Nat} (m : Moves may s t) : Moves may s (offerAnswer t p reason) :=
  offerYaw_moves m (by simp [Frame.kind])

theorem isJoined_congr {s t : State} (resets : t.resets = s.resets) (link : t.link.state = s.link.state) :
    t.isJoined = s.isJoined := by
  simp only [State.isJoined, State.held, resets, link]

theorem joinSession_moves {x : Session} {a : Timer} (m : Moves may s t) (joined : t.isJoined = true)
    (idle : t.yaw.state = .idle) :
    Moves may s (setYaw { t with yaw := { t.yaw with session := x, startWait := a } } .joined) := by
  have begun : Moves may s { t with yaw := { t.yaw with session := x, startWait := a } } :=
    (session_moves m x (by simp [idle])).plain rfl
  exact begun.then (.yaw (.join _ joined idle))

theorem answerProposal_moves (m : Moves may s t) (p : Proposal) (joined : t.isJoined = true)
    (idle : t.yaw.state = .idle) : Moves may s (answerProposal t p) := by
  unfold answerProposal
  dsimp only
  split
  · exact joinSession_moves (offerAnswer_moves m) ((offerYaw_isJoined _ _).trans joined) (by simpa using idle)
  · exact offerAnswer_moves m

theorem yieldTo_moves (m : Moves may s t) (p : Proposal) (joined : t.isJoined = true)
    (inHand : t.yaw.state = .proposing ∨ t.yaw.state = .joined) : Moves may s (yieldTo t p) := by
  have emptied := session_moves m { t.yaw.session with answers := [] } (by rcases inHand with h | h <;> simp [h])
  have left := emptied.then (.yaw (.idle _ (by rcases inHand with h | h <;> simp [h])))
  exact quietTest_moves (answerProposal_moves left p ((isJoined_congr (by simp) (by simp)).trans joined) (by simp))

theorem judgeProposal_moves (m : Moves may s t) (p : Proposal) (joined : t.isJoined = true) :
    Moves may s (judgeProposal t p) := by
  unfold judgeProposal
  split
  case h_1 idle => exact answerProposal_moves m p joined idle
  case h_2 proposing =>
    split
    · exact yieldTo_moves m p joined (.inl proposing)
    · exact m
  case h_3 following =>
    split
    · exact yieldTo_moves m p joined (.inr following)
    · exact m
  all_goals exact offerAnswer_moves m

theorem takeProposal_moves (m : Moves may s t) (sender tag modeCode directionCode budget : Nat) (twist : Option Int)
    (joined : t.isJoined = true) : Moves may s (takeProposal t sender tag modeCode directionCode budget twist) := by
  unfold takeProposal
  split
  case h_2 => exact m
  split
  case isFalse => exact m
  have dropped : Moves may s (dropStagger t) := m.plain rfl
  unfold hearProposal
  dsimp only
  split
  · exact judgeProposal_moves dropped _ joined
  · exact dropped

theorem takeAnswer_moves (m : Moves may s t) (sender proposer tag verdict offered reason : Nat) :
    Moves may s (takeAnswer t sender proposer tag verdict offered reason) := by
  unfold takeAnswer
  split
  case isFalse => exact m
  case isTrue h =>
    have proposing : t.yaw.state = .proposing := by
      have taken := h.2
      simp only [State.takesAnswer, Bool.and_eq_true, beq_iff_eq] at taken
      exact taken.1.1.1.1.2
    have added {a : Answer} : Moves may s (addAnswer t a) := session_moves m _ (by simp [proposing])
    dsimp only
    split
    · exact abandon_moves added _ _ proposing
    · split
      · exact allocateAndStart_moves added proposing
      · exact added

theorem takeStart_moves (m : Moves may s t) (sender tag modeCode directionCode budget : Nat)
    (allocation : List (Nat × Nat)) :
    Moves may s (takeStart t sender tag modeCode directionCode budget allocation) := by
  unfold takeStart
  split
  case isFalse => exact m
  case isTrue h =>
    obtain ⟨-, -, -, -, -, following, -⟩ := h
    split
    · exact enterReleasing_moves (session_moves m _ (by simp [following])) (.inr following)
    · exact enterIdle_moves m (.inr (.inl following))

theorem takeStop_moves (m : Moves may s t) (sender proposer tag : Nat) :
    Moves may s (takeStop t sender proposer tag) := by
  unfold takeStop
  split
  case isFalse => exact m
  split
  case h_1 proposing => exact abandon_moves m _ _ proposing
  case h_2 following => exact enterIdle_moves m (.inr (.inl following))
  case h_3 releasing => exact enterStopping_moves m (by simp [State.inSession, releasing])
  case h_4 driving => exact enterStopping_moves m (by simp [State.inSession, driving])
  all_goals exact m

/-! ## The Fault Unit and the log service -/

theorem seeSafety_moves (m : Moves may s t) (input : SafetyInput) (active : Bool) :
    Moves may s (seeSafety t input active) := by
  have seen : Moves may s { t with fault := t.fault.see input active } := m.plain (by cases input <;> rfl)
  unfold seeSafety
  dsimp only
  split
  · exact reportTrip_moves seen (by cases input <;> decide)
  split
  · exact endCondition_moves seen (by decide)
  · exact seen

theorem safetyInputChange_moves (m : Moves may s t) (input : SafetyInput) (active : Bool) (pins : may .pins) :
    Moves may s (safetyInputChange t input active) := by
  have changed := block_moves m (.pins t (t.pins.setSafety input active) (by cases input <;> rfl) pins)
  unfold safetyInputChange
  dsimp only
  split
  · exact seeSafety_moves changed _ _
  · exact changed

theorem takeNotice_moves (m : Moves may s t) (sender : Nat) (n : Notice) : Moves may s (takeNotice t sender n) := by
  unfold takeNotice
  split
  · exact m
  split
  · exact takeNacelleNotice_moves m sender n
  split
  · exact enterRecord_moves m
  · exact m

theorem faultEvaluation_moves (m : Moves may s t) (releases : may .release) : Moves may s (faultEvaluation t) := by
  have cleared {u : State} (mu : Moves may s u) : Moves may s (clearTaken u) := by
    unfold clearTaken
    dsimp only
    split
    · exact endCondition_moves (mu.plain rfl) (by decide)
    · exact mu.plain rfl
  have released {u : State} (mu : Moves may s u) : Moves may s (releaseThread u) := by
    unfold releaseThread
    split
    case isTrue h => exact reportNote_moves (mu.then (.thread (.release u releases h.1 h.2.1 h.2.2)))
    case isFalse => exact mu
  have begun : Moves may s { t with fault := { t.fault with timer := t.fault.timer.again Config.evaluation } } :=
    m.plain rfl
  unfold faultEvaluation
  split
  · exact released ((cleared begun).then (.thread (.removeEnded _)))
  · exact m

theorem ackLapse_moves (m : Moves may s t) : Moves may s (ackLapse t) := by
  unfold ackLapse
  split
  · exact reportNote_moves (m.plain rfl)
  · exact m

theorem FaultLog.request_records (l : FaultLog) (fromSequence count : Nat) :
    (l.request fromSequence count).records = l.records ∧ (l.request fromSequence count).newest = l.newest ∧
    (l.request fromSequence count).overwritten = l.overwritten := by
  unfold FaultLog.request
  dsimp only
  (repeat' split) <;> exact ⟨rfl, rfl, rfl⟩

theorem takeLogRequest_moves (m : Moves may s t) (target fromSequence count : Nat) (cursors : may .cursor) :
    Moves may s (takeLogRequest t target fromSequence count) := by
  obtain ⟨records, newest, overwritten⟩ := t.log.request_records fromSequence count
  unfold takeLogRequest
  split
  · exact block_moves m (.cursor t _ records newest overwritten cursors)
  · exact m

theorem offerLogEntry_moves (m : Moves may s t) (cursors : may .cursor) : Moves may s (offerLogEntry t) :=
  m.then (.link (.offerLogEntry t cursors))

/-! ## Quiet control -/

theorem quietControl_moves {q : QuietControl} (m : Moves may s t) (same : q.state = t.quiet.state)
    (calling : (q.call = t.quiet.call ∧ q.wakeTimer = t.quiet.wakeTimer) ∨ t.quiet.state = .quiet ∨
      t.quiet.call.isSome = true) : Moves may s { t with quiet := q } := m.then (.quiet (.control t q same calling))

theorem takeQuietOrder_moves (m : Moves may s t) (interval wakePeriod : Nat) (joined : t.link.state = .joined)
    (orders : may .order) : Moves may s (takeQuietOrder t interval wakePeriod) := by
  unfold takeQuietOrder
  split
  case isFalse => exact m
  case isTrue quietable =>
    have taken : Moves may s { t with quiet := t.quiet.order interval wakePeriod } :=
      quietControl_moves m rfl (.inl ⟨rfl, rfl⟩)
    dsimp only
    split
    case h_1 active => exact quietTest_moves (taken.then (.quiet (.order _ orders joined quietable active)))
    case h_2 => exact taken
    case h_3 quiet => exact quietControl_moves m rfl (.inr (.inl quiet))

theorem entryIntoQuiet_moves (m : Moves may s t) : Moves may s (entryIntoQuiet t) := by
  unfold entryIntoQuiet
  split
  · exact quietTest_moves m
  · exact m

theorem returnToActive_moves (m : Moves may s t) (calling : t.quiet.state = .quiet ∨ t.quiet.call.isSome = true) :
    Moves may s (returnToActive t) := m.then (.quiet (.returnToActive t calling))

theorem standForMark_moves (m : Moves may s t) (c : WakeCall) (calling : t.quiet.call.isSome = true) :
    Moves may s (standForMark t c) := by
  unfold standForMark
  split
  · exact returnToActive_moves m (.inr calling)
  · exact quietControl_moves m rfl (.inr (.inr calling))

theorem wakeCallMark_moves (m : Moves may s t) (lineDominant : Bool) : Moves may s (wakeCallMark t lineDominant) := by
  unfold wakeCallMark
  split
  · exact m
  case h_2 c call =>
    have calling : t.quiet.call.isSome = true := by simp [call]
    split
    case isFalse => exact m
    case isTrue h =>
      unfold callMarkDue
      split
      · exact quietControl_moves (m.then (.link (.mark t h.1))) rfl (.inr (.inr calling))
      split
      · exact m
      split
      · exact standForMark_moves m c calling
      · exact quietControl_moves m rfl (.inr (.inr calling))

theorem wakeCallGiveUp_moves (m : Moves may s t) : Moves may s (wakeCallGiveUp t) := by
  unfold wakeCallGiveUp
  split
  · exact m
  case h_2 c call =>
    split
    · exact returnToActive_moves m (.inr (by simp [call]))
    · exact m

theorem quietHearsMark_moves (m : Moves may s t) (firstBit : Nat) (quiet : t.quiet.state = .quiet) :
    Moves may s (quietHearsMark t firstBit) := by
  unfold quietHearsMark
  split
  · unfold hearCallMark
    dsimp only
    split
    · exact returnToActive_moves m (.inl quiet)
    · exact quietControl_moves m rfl (.inr (.inl quiet))
  case h_2 c call =>
    unfold callHearsMark
    split
    · exact standForMark_moves m c (by simp [call])
    · exact quietControl_moves m rfl (.inr (.inl quiet))

theorem wakeTimerExpiry_moves (m : Moves may s t) : Moves may s (wakeTimerExpiry t) := by
  unfold wakeTimerExpiry
  split
  case isFalse => exact m
  case isTrue h => exact wakeCause_moves (quietControl_moves m rfl (.inr (.inl h.2.1)))

/-! ## The link -/

theorem receiver_moves {r : Receiver} (m : Moves may s t) (receives : may .receiver) :
    Moves may s { t with receiver := r } := block_moves m (.receiver t r receives)

theorem receiveRun_moves (m : Moves may s t) (c : RunClass) (start : Nat) (receives : may .receiver) :
    Moves may s (receiveRun t c start) := by
  unfold receiveRun
  dsimp only
  split
  · exact countDiscard_moves (receiver_moves m receives)
  · exact receiver_moves m receives

theorem handMark_moves (m : Moves may s t) (firstBit : Nat) (latches : may .offsets) (starts : may .start) :
    Moves may s (handMark t firstBit) := by
  unfold handMark
  split
  case h_1 listen => exact hearMark_moves m _ (.inr (.inl (by simp [listen]))) latches starts
  case h_2 =>
    split
    case isTrue keeps => exact hearMark_moves m _ (State.runs_of_keepsCadence keeps) latches starts
    case isFalse keeps => exact quietHearsMark_moves m _ (by simpa [State.keepsCadence] using keeps)
  all_goals exact m

theorem endOwnMark_moves (m : Moves may s t) : Moves may s (endOwnMark t) := by
  have ended := m.then (.link (.unmark t))
  unfold endOwnMark ownMarkEnds
  split
  · exact ended
  case h_2 c call =>
    split
    · exact returnToActive_moves ended (.inr (by simpa using congrArg Option.isSome call))
    · exact ended

theorem dominantRunEnd_moves (m : Moves may s t) (length : Nat) (early : Fin 4) (receives : may .receiver)
    (latches : may .offsets) (starts : may .start) : Moves may s (dominantRunEnd t length early) := by
  have ended {c : RunClass} {start : Nat} : Moves may s (endRun (receiveRun t c start)) :=
    receiver_moves (receiveRun_moves m _ _ receives) receives
  unfold dominantRunEnd
  dsimp only
  split
  · split
    · exact endOwnMark_moves ended
    split
    · exact handMark_moves ended _ latches starts
    · exact ended
  · exact m

theorem reportStuck_moves (m : Moves may s t) : Moves may s (reportStuck t) := by
  unfold reportStuck
  extract_lets due
  split
  · exact reportWarn_moves (m.plain rfl)
  · exact m

theorem stuckDominant_moves (m : Moves may s t) (early : Fin 4) (receives : may .receiver) :
    Moves may s (stuckDominant t early) := by
  unfold stuckDominant
  split
  case isFalse => exact m
  have held : Moves may s (holdRun (receiveRun t .stuck (runStart t.now 24 early))) :=
    receiver_moves (receiveRun_moves m _ _ receives) receives
  exact reportStuck_moves held

theorem dispatchStatus_does (m : Moves may s t) (sender : Nat) (r : StatusRecord) (on : t.running = true)
    (enters : may .entries) (drives : may .driving) (cursors : may .cursor) :
    Does may s (dispatchStatus t sender r) := by
  unfold dispatchStatus
  split
  · split
    · exact .moves m
    case isFalse loud =>
      have taking : t.link.state = .listen ∨ t.link.state = .joined := by
        simp only [State.running, Bool.and_eq_true, Bool.or_eq_true, beq_iff_eq] at on
        tauto
      exact .clash m taking cursors
  case isFalse other => exact .moves (takeStatus_moves m r other enters drives)

/-- R18: a frame that is no status is taken in the link states of its kind. -/
theorem dispatch_moves (m : Moves may s t) (sender : Nat) {f : Frame} (other : ∀ r, f ≠ .threadStatus r)
    (on : t.running = true) (enters : may .entries) (cursors : may .cursor) (orders : may .order) :
    Moves may s (dispatch t sender f) := by
  have whenJoined {u : State} (mu : t.link.state = .joined → t.isJoined = true → Moves may s u) :
      Moves may s (if (t.link.state == .joined) = true then u else t) := by
    split
    case isFalse => exact m
    case isTrue joined =>
      rw [beq_iff_eq] at joined
      simp only [State.running, Bool.and_eq_true] at on
      exact mu joined (by simpa [State.isJoined, joined] using on.1)
  unfold dispatch
  dsimp only
  cases f with
  | threadStatus r => exact absurd rfl (other r)
  | plantDemand d => exact takeDemand_moves m d enters
  | faultNotice n =>
    dsimp only
    split
    · exact m
    · exact takeNotice_moves m _ n
  | yawProposal => exact whenJoined fun _ joined => takeProposal_moves m _ _ _ _ _ _ joined
  | yawAnswer => exact whenJoined fun _ _ => takeAnswer_moves m _ _ _ _ _ _
  | yawStart => exact whenJoined fun _ _ => takeStart_moves m _ _ _ _ _ _
  | yawStop => exact whenJoined fun _ _ => takeStop_moves m _ _ _
  | quietOrder => exact whenJoined fun joined _ => takeQuietOrder_moves m _ _ joined orders
  | logRequest => exact whenJoined fun _ _ => takeLogRequest_moves m _ _ _ cursors
  | logEntry => exact m

theorem countCorrection_moves (m : Moves may s t) (corrected : Bool) :
    Moves may s (countCorrection corrected t) := by
  unfold countCorrection
  split
  · exact m.plain rfl
  · exact m

@[simp] theorem countCorrection_linkState (corrected : Bool) (s : State) :
    (countCorrection corrected s).link.state = s.link.state := by
  unfold countCorrection
  split <;> rfl

theorem running_congr {s t : State} (resets : t.resets = s.resets) (link : t.link.state = s.link.state) :
    t.running = s.running := by
  simp only [State.running, State.held, resets, link]

/-- R9, R19: a reception ends counted, or as a status or another frame taken; only a status may clash, and only a
status may bring the last condition of R139. -/
theorem frameReceived_cases (m : Moves may s t) (levels : List Level) (receives : may .receiver)
    (enters : may .entries) (cursors : may .cursor) (orders : may .order) :
    Moves may s (frameReceived t levels) ∨
      ∃ u n r, frameReceived t levels = dispatchStatus u n r ∧ u.running = true ∧ Moves may s u ∧
        u = countCorrection (receive levels).1 (t.received) := by
  unfold frameReceived
  split
  case isFalse => exact .inl m
  case isTrue h =>
    have left : Moves may s (countCorrection (receive levels).1 (leaveReception (receive levels).2 t)) :=
      countCorrection_moves (receiver_moves m receives) _
    have on : (countCorrection (receive levels).1 (leaveReception (receive levels).2 t)).running = true :=
      (running_congr (by simp) (by simp)).trans h.1
    unfold endReception
    split
    case h_1 => exact .inl (countDiscard_moves left)
    case h_2 => exact .inl (countDiscard_moves left)
    case h_3 => exact .inl (countDiscard_moves (left.plain rfl))
    case h_4 sender f good =>
      by_cases status : ∃ r, f = .threadStatus r
      · obtain ⟨r, rfl⟩ := status
        exact .inr ⟨_, sender, r, rfl, on, left, by rw [good]; rfl⟩
      · exact .inl (dispatch_moves left sender (fun r eq => status ⟨r, eq⟩) on enters cursors orders)

theorem frameReceived_does (levels : List Level) (receives : may .receiver) (enters : may .entries)
    (drives : may .driving) (cursors : may .cursor) (orders : may .order) : Does may s (frameReceived s levels) := by
  rcases frameReceived_cases (.refl s) levels receives enters cursors orders with moves | ⟨u, n, r, eq, on, moves, -⟩
  · exact .moves moves
  · exact eq ▸ dispatchStatus_does moves n r on enters drives cursors

theorem errorWindowEnd_moves (m : Moves may s t) : Moves may s (errorWindowEnd t) := by
  unfold errorWindowEnd
  split
  · exact m.plain rfl
  · exact m

theorem transmitStart_moves (m : Moves may s t) (lineDominant : Bool) (receives : may .receiver) :
    Moves may s (transmitStart t lineDominant) := by
  unfold transmitStart
  split
  case isFalse => exact m
  case isTrue sends =>
    have free : t.sending = false := by
      simp only [State.maySend, Bool.and_eq_true, Bool.not_eq_true'] at sends
      exact sends.1.2
    exact receiver_moves (m.then (.link (.startHead t free))) receives

theorem frameLeft_moves (m : Moves may s t) (cursors : may .cursor) : Moves may s (frameLeft t) :=
  quietTest_moves (offerLogEntry_moves m cursors)

theorem endSending_moves (m : Moves may s t) {f : Frame} (o : Sending) (head : onLineFrame t.link.queue = some f)
    (cursors : may .cursor) : Moves may s (endSending t f o) := by
  have left := m.then (.link (.removeOnLine t))
  unfold endSending
  split
  case h_1 => exact frameLeft_moves left cursors
  case h_2 => exact frameLeft_moves (left.plain rfl) cursors
  case h_3 =>
    split
    · exact frameLeft_moves (left.plain rfl) cursors
    case isFalse newest => exact m.then (.link (.keepOnLine t f head (by simpa using newest)))

theorem transmitEnd_moves (m : Moves may s t) (heard : List Level) (receives : may .receiver) (cursors : may .cursor) :
    Moves may s (transmitEnd t heard) := by
  unfold transmitEnd
  split
  · exact m
  case h_2 f head =>
    split
    · split
      · exact m
      · exact endSending_moves (receiver_moves m receives) _ head cursors
    · exact m

/-! ## Start-up -/

theorem reportClamped_moves (rows : List Nat) : ∀ {t : State}, Moves may s t → Moves may s (reportClamped rows t) := by
  induction rows with
  | nil => exact fun m => m
  | cons row rest ih => exact fun m => ih (reportWarn_moves m)

theorem seePin_moves (m : Moves may s t) (input : SafetyInput) : Moves may s (seePin input t) := by
  unfold seePin
  split
  · exact seeSafety_moves m _ _
  · exact m

theorem configImageRead_moves (m : Moves may s t) (image : List Byte) (reads : may .image) :
    Moves may s (configImageRead t image) := by
  unfold configImageRead
  split
  case isFalse => exact m
  case isTrue h =>
    split
    case isTrue accepted =>
      have listening := m.then (.state (.accept t image h.2.1 accepted reads))
      exact seePin_moves (seePin_moves (reportClamped_moves _ (enterRecord_moves listening)) _) _
    case isFalse => exact m.then (.state (.reject t image h.2.1 reads))

end Sys2Proof.Machine
end

section
/-!
What each kind of move leaves: one lemma a kind says which fields it may write, and a part that a command has no leave
to write is left by its moves.
-/
namespace Sys2Proof.Machine
variable {may : Part → Prop} {s t : State}

/-! ## The footprint of each kind of move -/

theorem LinkMove.footprint (move : LinkMove may s t) : t = { s with link := t.link, log := t.log } := by
  cases move with
  | offerYaw f => unfold Machine.offerYaw; (repeat' split) <;> rfl
  | offerStatus r => unfold Machine.offerStatus; (repeat' split) <;> rfl
  | offerNotice => unfold Machine.offerNotice; (repeat' split) <;> rfl
  | offerLogEntry => unfold Machine.offerLogEntry; (repeat' split) <;> rfl
  | startHead | removeOnLine | keepOnLine | mark | unmark => rfl

theorem setThread_eq (s : State) (next : ThreadState) : setThread s next = { s with
    thread := { s.thread with state := next },
    table := { s.table with changePending := (setThread s next).table.changePending } } := by
  unfold setThread
  split
  case isTrue same => rw [← same]
  case isFalse => rfl

theorem ThreadMove.footprint (move : ThreadMove may s t) : t = { s with
    thread := { t.thread with reply := s.thread.reply, quietTimer := s.thread.quietTimer },
    allotment := t.allotment, fault := t.fault,
    table := { s.table with changePending := t.table.changePending } } := by
  cases move with
  | trip cls code =>
    unfold tripThread
    split
    · rfl
    · rw [setThread_eq]; rfl
  | removeEnded => unfold Machine.removeEnded; split <;> rfl
  | endCondition | allot | setCapability => rfl
  | release => unfold enterOff; rw [setThread_eq]
  | off => unfold enterOff; rw [setThread_eq]
  | advance => rw [setThread_eq]
  | start _ able => unfold startTest; rw [if_pos able, setThread_eq]

theorem QuietMove.footprint (move : QuietMove may s t) : t = { s with
    quiet := t.quiet, cadence := t.cadence, table := { s.table with changePending := t.table.changePending },
    thread := { s.thread with quietTimer := t.thread.quietTimer } } := by
  cases move with
  | wakeCause => unfold Machine.wakeCause; (repeat' split) <;> rfl
  | quietTest => unfold Machine.quietTest; split <;> rfl
  | returnToActive | control | order | timer => rfl

theorem CadenceMove.footprint (move : CadenceMove may s t) : t = { s with cadence := t.cadence } := by
  cases move <;> rfl

theorem setYaw_eq (s : State) (y : YawState) : setYaw s y = { s with
    yaw := { s.yaw with state := y, stagger := (setYaw s y).yaw.stagger },
    table := { s.table with changePending := (setYaw s y).table.changePending } } := by
  unfold setYaw
  split
  case isTrue same => rw [← same]
  case isFalse => rfl

theorem YawMove.footprint (move : YawMove may s t) : t = { s with
    yaw := t.yaw, table := { s.table with changePending := t.table.changePending } } := by
  cases move with
  | session | motorsOff | applyBrakes => rfl
  | idle => rw [setYaw_eq]
  | propose => rw [setYaw_eq]
  | join => rw [setYaw_eq]
  | releasing => unfold enterReleasing; rw [setYaw_eq]
  | driving => unfold enterDriving; rw [setYaw_eq]
  | stopping => unfold enterStopping; rw [setYaw_eq]

end Sys2Proof.Machine
end

section
/-! What the moves of a command leave as it stands, by the parts that the command has leave to write. -/
namespace Sys2Proof.Machine
variable {may : Part → Prop} {s t u : State}

/-! ## Shared operations that the frames read -/

theorem entersOff_state (s : State) : (enterOff s).thread.state = .off := by
  unfold enterOff
  rw [setThread_eq]

@[simp] theorem setThread_state (s : State) (next : ThreadState) : (setThread s next).thread.state = next := by
  rw [setThread_eq]

theorem startTest_state (able : s.mayStart = true) : (startTest s).thread.state = .precharge := by
  simp [startTest, able]

/-- What a command leaves to the parts it has leave to write. -/
structure Framed (may : Part → Prop) (s t : State) : Prop where
  pending : t.pending = s.pending
  now : t.now = s.now
  resets : t.resets = s.resets
  config : ¬may .image → t.config = s.config
  pins : ¬may .pins → ¬may .brakes → t.pins = s.pins
  brakes : ¬may .brakes → t.pins.brakesReleased = s.pins.brakesReleased
  cooling : ¬may .image → ¬may .cooling → t.cooling = s.cooling
  wind : ¬may .image → ¬may .wind → t.wind = s.wind
  twist : ¬may .twist → t.wind.sharedTwist = s.wind.sharedTwist
  receiver : ¬may .image → ¬may .receiver → t.receiver = s.receiver
  controller : ¬may .entries → t.table.controller = s.table.controller
  threads : ¬may .image → ¬may .entries → ¬may .ownRecord → t.table.threads = s.table.threads
  reply : ¬may .reply → t.thread.reply = s.thread.reply
  offsets : ¬may .offsets →
    t.cadence.latchedOffset = s.cadence.latchedOffset ∧ t.cadence.pendingOffset = s.cadence.pendingOffset
  cursor : ¬may .cursor →
    t.log.cursor = s.log.cursor ∧ t.log.next = s.log.next ∧ t.log.remaining = s.log.remaining
  motors : ¬may .driving → t.yaw.motors = s.yaw.motors ∨ t.yaw.motors = PerMotor.all .off
  undriven : ¬may .driving → s.yaw.state ≠ .driving → t.yaw.state ≠ .driving
  tripped : ¬may .release → s.thread.state = .tripped → t.thread.state = .tripped
  resting : ¬may .start → s.thread.state.quietable = true → t.thread.state.quietable = true
  active : ¬may .order → s.quiet.state = .active → t.quiet.state = .active
  state : s.link.state ≠ .listen → s.link.state ≠ .configRead →
    t.link.state = s.link.state ∨ (may .cursor ∧ t.link.state = .silent)

theorem Framed.refl (s : State) : Framed may s s where
  pending := rfl
  now := rfl
  resets := rfl
  config _ := rfl
  pins _ _ := rfl
  brakes _ := rfl
  cooling _ _ := rfl
  wind _ _ := rfl
  twist _ := rfl
  receiver _ _ := rfl
  controller _ := rfl
  threads _ _ _ := rfl
  reply _ := rfl
  offsets _ := ⟨rfl, rfl⟩
  cursor _ := ⟨rfl, rfl, rfl⟩
  motors _ := .inl rfl
  undriven _ was := was
  tripped _ was := was
  resting _ was := was
  active _ was := was
  state _ _ := .inl rfl

theorem Framed.trans (st : Framed may s t) (tu : Framed may t u) : Framed may s u where
  pending := tu.pending.trans st.pending
  now := tu.now.trans st.now
  resets := tu.resets.trans st.resets
  config h := (tu.config h).trans (st.config h)
  pins h k := (tu.pins h k).trans (st.pins h k)
  brakes h := (tu.brakes h).trans (st.brakes h)
  cooling h k := (tu.cooling h k).trans (st.cooling h k)
  wind h k := (tu.wind h k).trans (st.wind h k)
  twist h := (tu.twist h).trans (st.twist h)
  receiver h k := (tu.receiver h k).trans (st.receiver h k)
  controller h := (tu.controller h).trans (st.controller h)
  threads h k l := (tu.threads h k l).trans (st.threads h k l)
  reply h := (tu.reply h).trans (st.reply h)
  offsets h := ⟨(tu.offsets h).1.trans (st.offsets h).1, (tu.offsets h).2.trans (st.offsets h).2⟩
  cursor h :=
    let ⟨c, n, r⟩ := st.cursor h
    let ⟨c', n', r'⟩ := tu.cursor h
    ⟨c'.trans c, n'.trans n, r'.trans r⟩
  motors h := (tu.motors h).elim (fun same => (st.motors h).imp same.trans same.trans) .inr
  undriven h was := tu.undriven h (st.undriven h was)
  tripped h was := tu.tripped h (st.tripped h was)
  resting h was := tu.resting h (st.resting h was)
  active h was := tu.active h (st.active h was)
  state listen unread := by
    rcases st.state listen unread with same | ⟨clears, silent⟩
    · exact same ▸ tu.state (same ▸ listen) (same ▸ unread)
    · rcases tu.state (by simp [silent]) (by simp [silent]) with same | clash
      · exact .inr ⟨clears, same.trans silent⟩
      · exact .inr clash

/-! ## The frame of each kind of move -/

theorem State.Plain.framed (same : s.Plain t) : Framed may s t := by
  rw [same]
  exact { Framed.refl s with pending := rfl }

theorem FaultLog.enter_service (l : FaultLog) (now origin cls code severity action : Nat) (detail : Option Int)
    (noticeNumber : Option Nat) :
    (l.enter now origin cls code severity action detail noticeNumber).next = l.next ∧
    (l.enter now origin cls code severity action detail noticeNumber).remaining = l.remaining ∧
    (l.enter now origin cls code severity action detail noticeNumber).gap = l.gap := by
  unfold FaultLog.enter
  dsimp only
  (repeat' split) <;> exact ⟨rfl, rfl, rfl⟩

/-- Entering a record leaves the log answer cursor. -/
theorem enterRecord_cursor (s : State) (origin cls code severity action : Nat) (detail : Option Int)
    (noticeNumber : Option Nat) :
    (enterRecord s origin cls code severity action detail noticeNumber).log.cursor = s.log.cursor ∧
    (enterRecord s origin cls code severity action detail noticeNumber).log.next = s.log.next ∧
    (enterRecord s origin cls code severity action detail noticeNumber).log.remaining = s.log.remaining := by
  obtain ⟨next, remaining, -⟩ :=
    s.log.enter_service s.now origin cls code severity action detail noticeNumber
  exact ⟨FaultLog.enter_cursor .., next, remaining⟩

theorem offerNotice_cursor (s : State) (cls code severity action : Nat) (detail : Int) :
    (offerNotice s cls code severity action detail).log.cursor = s.log.cursor ∧
    (offerNotice s cls code severity action detail).log.next = s.log.next ∧
    (offerNotice s cls code severity action detail).log.remaining = s.log.remaining := by
  unfold offerNotice
  split
  · exact ⟨rfl, rfl, rfl⟩
  split
  · exact ⟨rfl, rfl, rfl⟩
  · exact enterRecord_cursor ..

theorem LinkMove.cursor (move : LinkMove may s t) (fixed : ¬may .cursor) :
    t.log.cursor = s.log.cursor ∧ t.log.next = s.log.next ∧ t.log.remaining = s.log.remaining := by
  cases move with
  | offerNotice => exact offerNotice_cursor ..
  | offerLogEntry h => exact absurd h fixed
  | offerYaw | offerStatus => simp
  | startHead | removeOnLine | keepOnLine | mark | unmark => exact ⟨rfl, rfl, rfl⟩

theorem LinkMove.state (move : LinkMove may s t) : t.link.state = s.link.state := by
  cases move with
  | offerYaw | offerStatus | offerNotice => simp
  | offerLogEntry => unfold Machine.offerLogEntry; (repeat' split) <;> rfl
  | startHead | removeOnLine | keepOnLine | mark | unmark => rfl

theorem LinkMove.framed (move : LinkMove may s t) : Framed may s t := by
  have cursor := move.cursor
  have state := move.state
  rw [move.footprint] at cursor state ⊢
  exact { Framed.refl s with cursor := cursor, state := fun _ _ => .inl state }

theorem ThreadMove.tripped (move : ThreadMove may s t) (held : ¬may .release) (was : s.thread.state = .tripped) :
    t.thread.state = .tripped := by
  cases move with
  | trip => simp
  | endCondition | allot | setCapability => exact was
  | removeEnded => unfold Machine.removeEnded; split <;> exact was
  | release h => exact absurd h held
  | off idle => simp [was] at idle
  | advance next order => rw [was] at order; cases order
  | start _ able => simp [State.mayStart, was] at able

theorem ThreadMove.resting (move : ThreadMove may s t) (stays : ¬may .start)
    (was : s.thread.state.quietable = true) : t.thread.state.quietable = true := by
  cases move with
  | trip => simp [ThreadState.quietable]
  | endCondition | allot | setCapability => exact was
  | removeEnded => unfold Machine.removeEnded; split <;> exact was
  | release | off => simp [entersOff_state, ThreadState.quietable]
  | advance next order => cases h : s.thread.state <;> rw [h] at order was <;> cases order <;> contradiction
  | start h => exact absurd h stays

theorem ThreadMove.framed (move : ThreadMove may s t) : Framed may s t := by
  have tripped := move.tripped
  have resting := move.resting
  rw [move.footprint] at tripped resting ⊢
  exact { Framed.refl s with tripped := tripped, resting := resting }

theorem QuietMove.offsets (move : QuietMove may s t) :
    t.cadence.latchedOffset = s.cadence.latchedOffset ∧ t.cadence.pendingOffset = s.cadence.pendingOffset := by
  cases move with
  | wakeCause => unfold Machine.wakeCause; (repeat' split) <;> exact ⟨rfl, rfl⟩
  | quietTest => unfold Machine.quietTest; split <;> exact ⟨rfl, rfl⟩
  | returnToActive | control | order | timer => exact ⟨rfl, rfl⟩

theorem QuietMove.active (move : QuietMove may s t) (free : ¬may .order) (was : s.quiet.state = .active) :
    t.quiet.state = .active := by
  cases move with
  | wakeCause | quietTest => simp [was]
  | returnToActive => rfl
  | control q same => exact same.trans was
  | order h => exact absurd h free
  | timer => exact was

theorem QuietMove.framed (move : QuietMove may s t) : Framed may s t := by
  have offsets := move.offsets
  have active := move.active
  rw [move.footprint] at offsets active ⊢
  exact { Framed.refl s with offsets := fun _ => offsets, active := active }

theorem CadenceMove.framed (move : CadenceMove may s t) : Framed may s t := by
  have offsets (fixed : ¬may .offsets) :
      t.cadence.latchedOffset = s.cadence.latchedOffset ∧ t.cadence.pendingOffset = s.cadence.pendingOffset := by
    cases move with
    | unit c _ latched pending => exact ⟨latched, pending⟩
    | latchOffset h => exact absurd h fixed
  rw [move.footprint] at offsets ⊢
  exact { Framed.refl s with offsets := offsets }

theorem YawMove.motors (move : YawMove may s t) (still : ¬may .driving) :
    t.yaw.motors = s.yaw.motors ∨ t.yaw.motors = PerMotor.all .off := by
  cases move with
  | session | applyBrakes => exact .inl rfl
  | motorsOff => exact .inr rfl
  | idle => rw [setYaw_eq]; exact .inr rfl
  | propose => rw [setYaw_eq]; exact .inl rfl
  | join => rw [setYaw_eq]; exact .inl rfl
  | releasing => unfold enterReleasing; rw [setYaw_eq]; exact .inl rfl
  | driving h => exact absurd h still
  | stopping => unfold enterStopping; rw [setYaw_eq]; exact .inr rfl

theorem YawMove.undriven (move : YawMove may s t) (still : ¬may .driving) (was : s.yaw.state ≠ .driving) :
    t.yaw.state ≠ .driving := by
  cases move with
  | session | motorsOff | applyBrakes => exact was
  | driving h => exact absurd h still
  | idle | propose | join => simp
  | releasing => simp [enterReleasing]
  | stopping => simp [enterStopping]

theorem YawMove.framed (move : YawMove may s t) : Framed may s t := by
  have motors := move.motors
  have undriven := move.undriven
  rw [move.footprint] at motors undriven ⊢
  exact { Framed.refl s with motors := motors, undriven := undriven }

theorem BlockMove.framed (move : BlockMove may s t) : Framed may s t := by
  cases move with
  | pins p brakes h => exact { Framed.refl s with pins := fun no => absurd h no, brakes := fun _ => brakes }
  | brakes p h => exact { Framed.refl s with pins := fun _ no => absurd h no, brakes := fun no => absurd h no }
  | cooling c h => exact { Framed.refl s with cooling := fun _ no => absurd h no }
  | wind w twist h => exact { Framed.refl s with wind := fun _ no => absurd h no, twist := fun _ => twist }
  | sharedTwist w h twist =>
    exact { Framed.refl s with wind := fun _ no => absurd h no, twist := fun no => absurd twist no }
  | receiver r h => exact { Framed.refl s with receiver := fun _ no => absurd h no }
  | reply r h => exact { Framed.refl s with reply := fun no => absurd h no }
  | controller e h => exact { Framed.refl s with controller := fun no => absurd h no }
  | threads p _ h => exact { Framed.refl s with threads := fun _ no => absurd h no }
  | ownRecord e record tag _ h => exact { Framed.refl s with threads := fun _ _ no => absurd h no }
  | cursor l _ _ _ h => exact { Framed.refl s with cursor := fun no => absurd h no }

theorem StateMove.framed (move : StateMove may s t) : Framed may s t := by
  cases move with
  | join listening h =>
    exact { Framed.refl s with cooling := fun _ no => absurd h no, state := fun no => absurd listening no }
  | reject image unread h =>
    exact { Framed.refl s with config := fun no => absurd h no, state := fun _ no => absurd unread no }
  | accept image unread _ h =>
    exact { Framed.refl s with
      config := fun no => absurd h no
      cooling := fun no => absurd h no
      wind := fun no => absurd h no
      receiver := fun no => absurd h no
      threads := fun no => absurd h no
      state := fun _ no => absurd unread no }

theorem Move.framed (move : Move may s t) : Framed may s t := by
  cases move with
  | plain same => exact same.framed
  | record => exact { Framed.refl s with cursor := fun _ => enterRecord_cursor .. }
  | link move => exact move.framed
  | thread move => exact move.framed
  | quiet move => exact move.framed
  | cadence move => exact move.framed
  | yaw move => exact move.framed
  | block move => exact move.framed
  | state move => exact move.framed

theorem Moves.framed (moves : Moves may s t) : Framed may s t := by
  induction moves with
  | refl => exact .refl _
  | tail _ move ih => exact ih.trans move.framed

end Sys2Proof.Machine
end

section
/-! Every command but a reset as its moves, with the parts it has leave to write. -/
namespace Sys2Proof.Machine
variable {may : Part → Prop} {s t : State}

/-! ## The clash (R22) -/

/-- R22, R51, R172: SILENT entered, the queue and the log answer ended. -/
def goSilent (s : State) : State :=
  { s with link := { s.link with state := .silent, queue := [], listenTimer := none },
           table := { s.table with statusTimer := none }, log := { s.log with cursor := .idle, remaining := 0 } }

/-- R22, R147: the station made SILENT, before LINK 1 is reported. -/
def silence (s : State) : State := endLocally (goSilent s)

theorem addressClash_eq (s : State) : addressClash s = reportFault (silence s) clsLink 1 .tripThread s.own := rfl

/-- R147: a session ended locally leaves Y_IDLE with no motor and no brake driven; in Y_IDLE nothing is done. -/
theorem endLocally_eq (s : State) : endLocally s = { s with
    yaw := (endLocally s).yaw, table := { s.table with changePending := (endLocally s).table.changePending } } := by
  unfold endLocally
  dsimp only
  split
  · rfl
  · rw [setYaw_eq]; split <;> rfl

theorem endLocally_idle (h : s.yaw.state = .idle) : endLocally s = s := if_pos h

@[simp] theorem endLocally_state (s : State) : (endLocally s).yaw.state = .idle := by
  unfold endLocally
  split
  case isTrue h => exact h
  case isFalse => simp

theorem endLocally_outputs (busy : s.yaw.state ≠ .idle) :
    (endLocally s).yaw.motors = PerMotor.all .off ∧ (endLocally s).yaw.release = false := by
  unfold endLocally
  rw [if_neg busy]
  dsimp only
  rw [setYaw_eq]
  exact ⟨rfl, rfl⟩

theorem silence_eq (s : State) : silence s = { goSilent s with
    yaw := (silence s).yaw, table := { (goSilent s).table with changePending := (silence s).table.changePending } } :=
  endLocally_eq _

@[simp] theorem silence_state (s : State) : (silence s).yaw.state = .idle := endLocally_state _

theorem silence_motors (s : State) :
    (silence s).yaw.motors = s.yaw.motors ∨ (silence s).yaw.motors = PerMotor.all .off := by
  by_cases idle : s.yaw.state = .idle
  · unfold silence
    rw [endLocally_idle (s := goSilent s) idle]
    exact .inl rfl
  · exact .inr (endLocally_outputs (s := goSilent s) idle).1

theorem silence_framed (clears : may .cursor) : Framed may s (silence s) := by
  have motors := silence_motors s
  have idle := silence_state s
  rw [silence_eq] at motors idle ⊢
  exact { Framed.refl s with
    cursor := fun no => absurd clears no
    motors := fun _ => motors
    undriven := fun _ _ driving => by rw [idle] at driving; cases driving
    state := fun _ _ => .inr ⟨clears, rfl⟩ }

theorem addressClash_moves (s : State) : Moves may (silence s) (addressClash s) :=
  addressClash_eq s ▸ reportTrip_moves (.refl _) (by decide)

theorem Does.framed (does : Does may s t) : Framed may s t := by
  cases does with
  | moves moves => exact moves.framed
  | clash moves _ clears => exact moves.framed.trans ((silence_framed clears).trans (addressClash_moves _).framed)

/-! ## Joining -/

/-- R185, R186: at the end of LISTEN the cadence begins; a station that listens is ACTIVE, so that the timer of a
station in QUIET is left. -/
theorem listenTimeout_moves (m : Moves may s t) (lineDominant : Bool) (inlet outlet : Option Int)
    (cools : may .cooling) (latches : may .offsets) (starts : may .start)
    (runs : may .joining ∨ t.quiet.state = .active) : Moves may s (listenTimeout t lineDominant inlet outlet) := by
  unfold listenTimeout
  split
  case isFalse => exact m
  case isTrue h =>
    obtain ⟨free, listening, -⟩ := h
    have entered := m.then (.state (.join t listening cools))
    have evaluated := coolingStages_moves entered inlet outlet cools
    have frame := (coolingStages_moves (may := (· = .cooling)) (.refl (enterJoined t)) inlet outlet rfl).framed
    have joined : (coolingStages (enterJoined t) inlet outlet).isJoined = true := by
      have state := frame.state (by simp [enterJoined]) (by simp [enterJoined])
      simp only [reduceCtorEq, false_and, or_false] at state
      exact (isJoined_congr frame.resets state).trans (by simpa [State.isJoined, State.held, enterJoined] using free)
    unfold beginCadence
    split
    · refine takeExpiry_moves evaluated _ joined ?_ latches starts
      rcases runs with runs | active
      · exact .inr (.inr runs)
      · exact .inl (by rw [frame.active (by simp) (by simpa using active)]; simp)
    · exact evaluated

/-! ## Every command -/

end Sys2Proof.Machine

namespace Sys2Proof
open Machine

/-- The parts that each command has leave to write. -/
def Instr.parts : Instr → List Part
  | .configImageRead _ => [.image]
  | .listenTimeout _ _ _ => [.cooling, .offsets, .start, .joining]
  | .dominantRunEnd _ _ => [.receiver, .offsets, .start]
  | .stuckDominant _ | .transmitStart _ => [.receiver]
  | .frameReceived _ => [.receiver, .entries, .driving, .cursor, .order]
  | .transmitEnd _ => [.receiver, .cursor]
  | .cadenceExpiry _ | .overdueMark _ | .standInPeriod => [.offsets, .start]
  | .stackReply _ => [.reply]
  | .ageingStep => [.entries]
  | .statusBuild => [.ownRecord]
  | .coolingEvaluation _ _ | .tachPulse | .pwmPeriodEnd => [.cooling]
  | .vaneRisingEdge | .vaneFallingEdge | .vaneWrap | .anemometerEdge => [.wind]
  | .windEvaluation _ => [.wind, .twist, .driving]
  | .brakeFeedbackChange released => .brakes :: if released then [.driving] else []
  | .motorFaultInput _ _ | .safetyInputChange _ _ => [.pins]
  | .faultEvaluation => [.release]
  | .logEntryOffer => [.cursor]
  | _ => []

/-- Whether a command is one of the resets (R182). -/
def Instr.isReset : Instr → Bool
  | .powerOnReset | .resetInput | .resetRelease _ => true
  | _ => false

end Sys2Proof

namespace Sys2Proof.Machine
variable {s t : State}

theorem exec_does (c : Instr) (s : State) (notReset : c.isReset = false) :
    ∃ t, exec c s = .next t ∧ Does (· ∈ c.parts) s t := by
  have start : Moves (· ∈ c.parts) s s := .refl s
  cases c with
  | powerOnReset | resetInput | resetRelease => contradiction
  | configImageRead image => exact ⟨_, rfl, .moves (configImageRead_moves start image (by simp [Instr.parts]))⟩
  | listenTimeout d i o =>
    exact ⟨_, rfl, .moves (listenTimeout_moves start d i o (by simp [Instr.parts]) (by simp [Instr.parts])
      (by simp [Instr.parts]) (.inl (by simp [Instr.parts])))⟩
  | dominantRunEnd n x =>
    exact ⟨_, rfl, .moves (dominantRunEnd_moves start n x (by simp [Instr.parts]) (by simp [Instr.parts])
      (by simp [Instr.parts]))⟩
  | stuckDominant x => exact ⟨_, rfl, .moves (stuckDominant_moves start x (by simp [Instr.parts]))⟩
  | frameReceived levels =>
    exact ⟨_, rfl, frameReceived_does levels (by simp [Instr.parts]) (by simp [Instr.parts]) (by simp [Instr.parts])
      (by simp [Instr.parts]) (by simp [Instr.parts])⟩
  | errorWindowEnd => exact ⟨_, rfl, .moves (errorWindowEnd_moves start)⟩
  | transmitStart d => exact ⟨_, rfl, .moves (transmitStart_moves start d (by simp [Instr.parts]))⟩
  | transmitEnd heard =>
    exact ⟨_, rfl, .moves (transmitEnd_moves start heard (by simp [Instr.parts]) (by simp [Instr.parts]))⟩
  | cadenceExpiry d =>
    exact ⟨_, rfl, .moves (cadenceExpiry_moves start d (by simp [Instr.parts]) (by simp [Instr.parts]))⟩
  | overdueMark d =>
    exact ⟨_, rfl, .moves (overdueMark_moves start d (by simp [Instr.parts]) (by simp [Instr.parts]))⟩
  | standInPeriod =>
    exact ⟨_, rfl, .moves (standInPeriod_moves start (by simp [Instr.parts]) (by simp [Instr.parts]))⟩
  | earlyMarkWindowEnd => exact ⟨_, rfl, .moves (earlyMarkWindowEnd_moves start)⟩
  | quietExchangeTimer => exact ⟨_, rfl, .moves (quietExchange_moves start)⟩
  | stackReply r => exact ⟨_, rfl, .moves (stackReply_moves start r (by simp [Instr.parts]))⟩
  | stackReplyTimeout => exact ⟨_, rfl, .moves (stackReplyTimeout_moves start)⟩
  | prechargeTimeout => exact ⟨_, rfl, .moves (prechargeTimeout_moves start)⟩
  | syncTimeout => exact ⟨_, rfl, .moves (syncTimeout_moves start)⟩
  | rideThroughRecovery => exact ⟨_, rfl, .moves (rideThroughRecovery_moves start)⟩
  | rideThroughTooLong => exact ⟨_, rfl, .moves (rideThroughTooLong_moves start)⟩
  | gridHealthyTimer => exact ⟨_, rfl, .moves (gridHealthyTimer_moves start)⟩
  | restartHoldExpiry => exact ⟨_, rfl, .moves (restartHoldExpiry_moves start)⟩
  | ageingStep => exact ⟨_, rfl, .moves (ageingStep_moves start (by simp [Instr.parts]))⟩
  | statusBuild => exact ⟨_, rfl, .moves (statusBuild_moves start (by simp [Instr.parts]))⟩
  | coolingEvaluation i o => exact ⟨_, rfl, .moves (coolingEvaluation_moves start i o (by simp [Instr.parts]))⟩
  | tachPulse => exact ⟨_, rfl, .moves (tachPulse_moves start (by simp [Instr.parts]))⟩
  | pwmPeriodEnd => exact ⟨_, rfl, .moves (pwmPeriodEnd_moves start (by simp [Instr.parts]))⟩
  | vaneRisingEdge => exact ⟨_, rfl, .moves (vaneRising_moves start (by simp [Instr.parts]))⟩
  | vaneFallingEdge => exact ⟨_, rfl, .moves (vaneFalling_moves start (by simp [Instr.parts]))⟩
  | vaneWrap => exact ⟨_, rfl, .moves (vaneWrap_moves start (by simp [Instr.parts]))⟩
  | anemometerEdge => exact ⟨_, rfl, .moves (anemometerEdge_moves start (by simp [Instr.parts]))⟩
  | windEvaluation e =>
    exact ⟨_, rfl, .moves (windEvaluation_moves start e (by simp [Instr.parts]) (by simp [Instr.parts])
      (by simp [Instr.parts]))⟩
  | yawCheck => exact ⟨_, rfl, .moves (yawCheck_moves start)⟩
  | staggerExpiry => exact ⟨_, rfl, .moves (staggerExpiry_moves start)⟩
  | answerWaitExpiry => exact ⟨_, rfl, .moves (answerWaitExpiry_moves start)⟩
  | startWaitExpiry => exact ⟨_, rfl, .moves (startWaitExpiry_moves start)⟩
  | brakeFeedbackChange released =>
    exact ⟨_, rfl, .moves (brakeFeedback_moves start released (by simp [Instr.parts])
      (fun h => by simp [Instr.parts, h]))⟩
  | releaseWaitExpiry => exact ⟨_, rfl, .moves (releaseWaitExpiry_moves start)⟩
  | driveTimeExpiry => exact ⟨_, rfl, .moves (driveTimeExpiry_moves start)⟩
  | motorFaultInput n active => exact ⟨_, rfl, .moves (motorFaultInput_moves start n active (by simp [Instr.parts]))⟩
  | brakeDelayExpiry => exact ⟨_, rfl, .moves (brakeDelayExpiry_moves start)⟩
  | applyWaitExpiry => exact ⟨_, rfl, .moves (applyWaitExpiry_moves start)⟩
  | holdTimerExpiry => exact ⟨_, rfl, .moves (holdTimerExpiry_moves start)⟩
  | safetyInputChange i active =>
    exact ⟨_, rfl, .moves (safetyInputChange_moves start i active (by simp [Instr.parts]))⟩
  | faultEvaluation => exact ⟨_, rfl, .moves (faultEvaluation_moves start (by simp [Instr.parts]))⟩
  | ackLapse => exact ⟨_, rfl, .moves (ackLapse_moves start)⟩
  | logEntryOffer => exact ⟨_, rfl, .moves (offerLogEntry_moves start (by simp [Instr.parts]))⟩
  | entryIntoQuiet => exact ⟨_, rfl, .moves (entryIntoQuiet_moves start)⟩
  | wakeCallMark d => exact ⟨_, rfl, .moves (wakeCallMark_moves start d)⟩
  | wakeCallGiveUp => exact ⟨_, rfl, .moves (wakeCallGiveUp_moves start)⟩
  | wakeTimerExpiry => exact ⟨_, rfl, .moves (wakeTimerExpiry_moves start)⟩

theorem does_of_exec {c : Instr} (done : exec c s = .next t) (notReset : c.isReset = false) :
    Does (· ∈ c.parts) s t := by
  obtain ⟨u, eq, does⟩ := exec_does c s notReset
  rw [done, Host.Outcome.next.injEq] at eq
  exact eq ▸ does

end Sys2Proof.Machine
end

section
/-! Which commands have leave to write each part, and the frame statements. -/
namespace Sys2Proof.Machine
variable {s t : State} {c : Instr}

theorem image_mem_parts : .image ∈ c.parts ↔ ∃ image, c = .configImageRead image := by
  cases c <;> simp [Instr.parts]

theorem pins_mem_parts : .pins ∈ c.parts ↔ (∃ m a, c = .motorFaultInput m a) ∨ ∃ i a, c = .safetyInputChange i a := by
  cases c <;> simp [Instr.parts]

theorem brakes_mem_parts : .brakes ∈ c.parts ↔ ∃ r, c = .brakeFeedbackChange r := by
  cases c <;> simp [Instr.parts]

theorem cooling_mem_parts : .cooling ∈ c.parts ↔
    (∃ d i o, c = .listenTimeout d i o) ∨ (∃ i o, c = .coolingEvaluation i o) ∨ c = .tachPulse ∨ c = .pwmPeriodEnd := by
  cases c <;> simp [Instr.parts]

theorem wind_mem_parts : .wind ∈ c.parts ↔
    c = .vaneRisingEdge ∨ c = .vaneFallingEdge ∨ c = .vaneWrap ∨ c = .anemometerEdge ∨ ∃ e, c = .windEvaluation e := by
  cases c <;> simp [Instr.parts]

theorem twist_mem_parts : .twist ∈ c.parts ↔ ∃ e, c = .windEvaluation e := by
  cases c <;> simp [Instr.parts]

theorem receiver_mem_parts : .receiver ∈ c.parts ↔
    (∃ n x, c = .dominantRunEnd n x) ∨ (∃ x, c = .stuckDominant x) ∨ (∃ levels, c = .frameReceived levels) ∨
      (∃ d, c = .transmitStart d) ∨ ∃ heard, c = .transmitEnd heard := by
  cases c <;> simp [Instr.parts]

theorem entries_mem_parts : .entries ∈ c.parts ↔ (∃ levels, c = .frameReceived levels) ∨ c = .ageingStep := by
  cases c <;> simp [Instr.parts]

theorem ownRecord_mem_parts : .ownRecord ∈ c.parts ↔ c = .statusBuild := by
  cases c <;> simp [Instr.parts]

theorem reply_mem_parts : .reply ∈ c.parts ↔ ∃ r, c = .stackReply r := by
  cases c <;> simp [Instr.parts]

theorem offsets_mem_parts : .offsets ∈ c.parts ↔
    (∃ n x, c = .dominantRunEnd n x) ∨ (∃ d, c = .cadenceExpiry d) ∨ (∃ d, c = .overdueMark d) ∨ c = .standInPeriod ∨
      ∃ d i o, c = .listenTimeout d i o := by
  cases c <;> simp [Instr.parts]

theorem start_mem_parts : .start ∈ c.parts ↔ .offsets ∈ c.parts := by
  cases c <;> simp [Instr.parts]

theorem cursor_mem_parts : .cursor ∈ c.parts ↔
    (∃ levels, c = .frameReceived levels) ∨ (∃ heard, c = .transmitEnd heard) ∨ c = .logEntryOffer := by
  cases c <;> simp [Instr.parts]

theorem driving_mem_parts : .driving ∈ c.parts ↔
    (∃ levels, c = .frameReceived levels) ∨ c = .brakeFeedbackChange true ∨ ∃ e, c = .windEvaluation e := by
  cases c <;> simp [Instr.parts]

theorem release_mem_parts : .release ∈ c.parts ↔ c = .faultEvaluation := by
  cases c <;> simp [Instr.parts]

theorem joining_mem_parts : .joining ∈ c.parts ↔ ∃ d i o, c = .listenTimeout d i o := by
  cases c <;> simp [Instr.parts]

theorem notReset_iff : c.isReset = false ↔ c ≠ .powerOnReset ∧ c ≠ .resetInput ∧ ∀ lines, c ≠ .resetRelease lines := by
  cases c <;> simp [Instr.isReset]

/-! ## The statements -/

/-- Settles O1: the step is the match on the waiting commands. -/
theorem stepRunsFrontCommand : Obligations.StepRunsFrontCommand := by
  refine ⟨fun c s => rfl, fun s none free => ?_, fun s none held => ?_⟩
  · simp [step, none, State.idle, free]
  · simp [step, none, State.idle, held]

/-- Settles O2: a reset rebuilds the state around the waiting commands and the pins; any other command leaves, with its
moves, what it has no leave to write. -/
theorem everyCommandCompletes : Obligations.EveryCommandCompletes := by
  intro c s
  cases reset : c.isReset with
  | true =>
    cases c with
    | powerOnReset => exact ⟨_, rfl, rfl, fun no => absurd rfl no, fun _ _ _ => rfl⟩
    | resetInput => exact ⟨_, rfl, rfl, fun _ no => absurd rfl no, fun _ _ _ => rfl⟩
    | resetRelease lines => exact ⟨_, rfl, by simp, fun _ _ no => absurd rfl (no lines), fun _ _ _ => by simp⟩
    | _ => contradiction
  | false =>
    obtain ⟨t, done, does⟩ := exec_does c s reset
    have frame := does.framed
    refine ⟨t, done, frame.pending, fun _ _ _ => ⟨frame.resets, frame.now, fun image => ?_⟩,
      fun feedback motor safety => ?_⟩
    · exact frame.config (by simpa [image_mem_parts] using image)
    · exact frame.pins (by simpa [-Bool.forall_bool, -Bool.exists_bool, pins_mem_parts] using ⟨motor, safety⟩)
        (by simpa [brakes_mem_parts] using feedback)

/-- Settles O3: each block is left by the moves of a command that has no leave to write it. -/
theorem blocksMovedByTheirCommandsOnly : Obligations.BlocksMovedByTheirCommandsOnly := by
  intro c s t done powerOn input release image
  have frame := (does_of_exec done (notReset_iff.mpr ⟨powerOn, input, release⟩)).framed
  have unread : .image ∉ c.parts := by simpa [image_mem_parts] using image
  refine ⟨fun join evaluate tach pwm => ?cooling, fun rise fall wrap edge evaluate => ?wind,
    fun run stuck frame' start stop => ?receiver, fun frame' age => ⟨?controller, fun build => ?threads⟩,
    fun reply => ?reply, fun run expiry overdue standIn join => ?offsets, fun frame' stop offer => ?cursor,
    fun frame' brakes evaluate => ?motors⟩
  case cooling => exact frame.cooling unread (by simpa [-Bool.forall_bool, -Bool.exists_bool, cooling_mem_parts] using
                    ⟨join, evaluate, tach, pwm⟩)
  case wind => exact frame.wind unread (by simpa [-Bool.forall_bool, -Bool.exists_bool, wind_mem_parts] using
                 ⟨rise, fall, wrap, edge, evaluate⟩)
  case receiver =>
    exact frame.receiver unread (by simpa [-Bool.forall_bool, -Bool.exists_bool, receiver_mem_parts] using
      ⟨run, stuck, frame', start, stop⟩)
  case controller => exact frame.controller (by simpa [-Bool.forall_bool, -Bool.exists_bool, entries_mem_parts] using
                       ⟨frame', age⟩)
  case threads =>
    exact frame.threads unread (by simpa [-Bool.forall_bool, -Bool.exists_bool, entries_mem_parts] using ⟨frame', age⟩)
      (by simpa [ownRecord_mem_parts] using build)
  case reply => exact frame.reply (by simpa [reply_mem_parts] using reply)
  case offsets => exact frame.offsets (by simpa [-Bool.forall_bool, -Bool.exists_bool, offsets_mem_parts] using
                    ⟨run, expiry, overdue, standIn, join⟩)
  case cursor => exact frame.cursor (by simpa [-Bool.forall_bool, -Bool.exists_bool, cursor_mem_parts] using
                   ⟨frame', stop, offer⟩)
  case motors => exact frame.motors (by simpa [-Bool.forall_bool, -Bool.exists_bool, driving_mem_parts] using
                   ⟨frame', brakes, evaluate⟩)

/-- Settles O4, by the three commands as they stand; a release is read off the lines it lets go. -/
theorem resetsRaisedAndReleased : Obligations.ResetsRaisedAndReleased := by
  refine ⟨fun s => rfl, fun s => rfl, fun s lines free => ?_, fun s lines held => ?_⟩
  · simp [exec, execResetRelease, resetRelease, free]
  · refine ⟨{ resetBlocks s with resets := s.resets.release lines }, ?_, rfl, ?_, ?_, ?_, ?_⟩
    · simp [exec, execResetRelease, resetRelease, held]
    · cases lines <;> simp [ResetUnit.release, powerOnGoes]
    · cases lines <;> simp [ResetUnit.release, inputGoes]
    · intro still
      simp only [State.held, ResetUnit.release] at still ⊢
      rw [if_pos still]
    · intro free
      simp only [State.held, ResetUnit.release] at free ⊢
      rw [if_neg (by simp [free])]
      cases lines <;> simp [powerOnGoes]

end Sys2Proof.Machine
end

section
/-! From the moves of a command to every step; the log (R166) and the transmit queue (R13 to R17). -/
namespace Sys2Proof.Machine
variable {may : Part → Prop} {s t : State}

/-! ## Every step -/

theorem step_cases (done : step s = .next t) :
    t = s.idle ∨ ∃ c rest, s.pending = c :: rest ∧ exec c { s with pending := rest } = .next t := by
  unfold step at done
  split at done
  · exact .inl (Host.Outcome.next.inj done).symm
  · exact .inr ⟨_, _, ‹_›, done⟩

/-- A reset leaves the blocks at their reset values, or nothing is held and nothing is done. -/
theorem reset_cases {c : Instr} (reset : c.isReset = true) (done : exec c s = .next t) :
    t = s ∨ ∃ r, t = { resetBlocks s with resets := r } := by
  cases c with
  | powerOnReset => exact .inr ⟨_, (Host.Outcome.next.inj done).symm⟩
  | resetInput => exact .inr ⟨_, (Host.Outcome.next.inj done).symm⟩
  | resetRelease lines =>
    have eq := (Host.Outcome.next.inj done).symm
    unfold resetRelease at eq
    split at eq
    · exact .inr ⟨_, eq⟩
    · exact .inl eq
  | _ => contradiction

/-- An invariant of every step: the clock and the waiting commands do not matter to it, the reset values meet it, and
each command that is no reset keeps it. -/
theorem step_keeps {P : State → Prop} (clock : ∀ (s : State) (pending : List Instr) (now : Nat), P s →
      P { s with pending := pending, now := now })
    (reset : ∀ (s : State) (r : ResetUnit), P { resetBlocks s with resets := r })
    (command : ∀ {c : Instr} {s t : State}, exec c s = .next t → c.isReset = false → P s → P t)
    (h : P s) (done : step s = .next t) : P t := by
  rcases step_cases done with rfl | ⟨c, rest, -, done⟩
  · unfold State.idle
    split
    · exact h
    · exact clock s s.pending _ h
  · have front : P { s with pending := rest } := clock s rest s.now h
    cases isReset : c.isReset with
    | true =>
      rcases reset_cases isReset done with rfl | ⟨r, rfl⟩
      · exact front
      · exact reset _ r
    | false => exact command done isReset front

/-- The same for an invariant that every move and the silencing of a clash keep. -/
theorem step_keeps_of_moves {P : State → Prop} (clock : ∀ (s : State) (pending : List Instr) (now : Nat), P s →
      P { s with pending := pending, now := now })
    (reset : ∀ (s : State) (r : ResetUnit), P { resetBlocks s with resets := r })
    (move : ∀ {may : Part → Prop} {s t : State}, Move may s t → P s → P t)
    (silence : ∀ {s : State}, P s → P (silence s))
    (h : P s) (done : step s = .next t) : P t := by
  refine step_keeps clock reset (fun done notReset h => ?_) h done
  cases does_of_exec done notReset with
  | moves moves => exact moves.keep move h
  | clash moves => exact (addressClash_moves (may := fun _ => True) _).keep move (silence (moves.keep move h))

/-! ## The log (R166) -/

theorem FaultLog.consecutive_congr {l m : FaultLog} (records : m.records = l.records) (newest : m.newest = l.newest)
    (overwritten : m.overwritten = l.overwritten) (h : l.Consecutive) : m.Consecutive := by
  unfold FaultLog.Consecutive
  rwa [records, newest, overwritten]

theorem FaultLog.skip_records (l : FaultLog) :
    l.skip.records = l.records ∧ l.skip.newest = l.newest ∧ l.skip.overwritten = l.overwritten := by
  unfold FaultLog.skip
  split <;> exact ⟨rfl, rfl, rfl⟩

theorem FaultLog.nextEntry_records (l : FaultLog) :
    l.nextEntry.1.records = l.records ∧ l.nextEntry.1.newest = l.newest ∧
    l.nextEntry.1.overwritten = l.overwritten := by
  unfold FaultLog.nextEntry
  (repeat' split) <;> first | exact ⟨rfl, rfl, rfl⟩ | exact l.skip_records

/-- An offer to the log service moves the cursor only. -/
theorem offerLogEntry_records (s : State) :
    (offerLogEntry s).log.records = s.log.records ∧ (offerLogEntry s).log.newest = s.log.newest ∧
    (offerLogEntry s).log.overwritten = s.log.overwritten := by
  have kept := s.log.nextEntry_records
  unfold offerLogEntry
  split
  · split
    case h_1 l e next => rwa [next] at kept
    case h_2 l next => rwa [next] at kept
  · exact ⟨rfl, rfl, rfl⟩

theorem LinkMove.consecutive (move : LinkMove may s t) (h : s.log.Consecutive) : t.log.Consecutive := by
  cases move with
  | offerNotice cls code severity action detail =>
    unfold Machine.offerNotice
    split
    · exact h
    split
    · exact h
    · exact FaultLog.enter_consecutive _ _ _ _ _ _ _ _ _ h
  | offerLogEntry =>
    obtain ⟨records, newest, overwritten⟩ := offerLogEntry_records s
    exact FaultLog.consecutive_congr records newest overwritten h
  | offerYaw | offerStatus => simpa using h
  | startHead | removeOnLine | keepOnLine | mark | unmark => exact h

theorem Move.consecutive (move : Move may s t) (h : s.log.Consecutive) : t.log.Consecutive := by
  cases move with
  | plain same => rw [same]; exact h
  | record => exact FaultLog.enter_consecutive _ _ _ _ _ _ _ _ _ h
  | link move => exact move.consecutive h
  | thread move => rw [move.footprint]; exact h
  | quiet move => rw [move.footprint]; exact h
  | cadence move => rw [move.footprint]; exact h
  | yaw move => rw [move.footprint]; exact h
  | block move =>
    cases move with
    | cursor l records newest overwritten => exact FaultLog.consecutive_congr records newest overwritten h
    | _ => exact h
  | state move => cases move <;> exact h

/-- Settles O57: entering a record keeps the numbers consecutive, and no other move writes the records. -/
theorem logStaysConsecutive : Obligations.LogStaysConsecutive := by
  intro s t h done
  refine step_keeps_of_moves (P := fun s => s.log.Consecutive) (fun _ _ _ h => h) (fun _ _ => ?_) Move.consecutive
    (fun {s} h => ?_) h done
  · exact ⟨Nat.zero_le _, rfl, Nat.zero_le _, rfl⟩
  · rw [silence_eq]
    exact h

/-! ## The transmit queue (R13 to R17) -/

/-- R13 to R17: the limits of a queue, wherever it stands. -/
structure QueueWithin (q : List Slot) : Prop where
  slots : q.length ≤ Config.queueSlots
  sorted : (q.map (·.frame.kind)).Pairwise (· ≤ ·)
  onLine : (q.filter (·.onLine)).length ≤ 1
  status : (q.filter Slot.isStatus).length ≤ 1
  logs : (q.filter (fun x => x.frame.kind == 28)).length ≤ 2

theorem queueKept_iff : s.QueueKept ↔ QueueWithin s.link.queue ∧ (s.takesOffers = false → s.link.queue = []) :=
  ⟨fun ⟨a, b, c, d, e, f⟩ => ⟨⟨a, b, c, d, e⟩, f⟩, fun ⟨⟨a, b, c, d, e⟩, f⟩ => ⟨a, b, c, d, e, f⟩⟩

theorem queueWithin_nil : QueueWithin [] := by constructor <;> simp

theorem QueueWithin.sublist {q q' : List Slot} (h : QueueWithin q) (sub : q'.Sublist q) : QueueWithin q' where
  slots := sub.length_le.trans h.slots
  sorted := h.sorted.sublist (sub.map _)
  onLine := (sub.filter _).length_le.trans h.onLine
  status := (sub.filter _).length_le.trans h.status
  logs := (sub.filter _).length_le.trans h.logs

theorem removeLast_sublist {p : Slot → Bool} {q q' : List Slot} (h : removeLast p q = some q') :
    q'.Sublist q ∧ q'.length + 1 = q.length := by
  induction q generalizing q' with
  | nil => simp [removeLast] at h
  | cons x rest ih =>
    unfold removeLast at h
    split at h
    case h_1 rest' found =>
      obtain ⟨sub, length⟩ := ih found
      cases h
      exact ⟨sub.cons_cons x, by simpa using length⟩
    case h_2 =>
      split at h
      · cases h
        exact ⟨List.sublist_cons_self x rest, by simp⟩
      · cases h

/-- R15, R16: the room made for an urgent frame is a queue with a slot less than full. -/
theorem roomForUrgent_sublist {q q' : List Slot} {n : Nat} (slots : q.length ≤ Config.queueSlots)
    (h : roomForUrgent q = some (q', n)) : q'.Sublist q ∧ q'.length < Config.queueSlots := by
  unfold roomForUrgent at h
  split at h
  case isTrue room => cases h; exact ⟨.refl _, room⟩
  split at h
  case h_1 found =>
    cases h
    obtain ⟨sub, length⟩ := removeLast_sublist found
    exact ⟨sub, by omega⟩
  case h_2 =>
    obtain ⟨q'', found, eq⟩ := Option.map_eq_some_iff.mp h
    cases eq
    obtain ⟨sub, length⟩ := removeLast_sublist found
    exact ⟨sub, by omega⟩

theorem roomForStatus_sublist {q q' : List Slot} {n : Nat} (slots : q.length ≤ Config.queueSlots)
    (h : roomForStatus q = some (q', n)) : q'.Sublist q ∧ q'.length < Config.queueSlots := by
  unfold roomForStatus at h
  split at h
  case isTrue room => cases h; exact ⟨.refl _, room⟩
  obtain ⟨q'', found, eq⟩ := Option.map_eq_some_iff.mp h
  cases eq
  obtain ⟨sub, length⟩ := removeLast_sublist found
  exact ⟨sub, by omega⟩

theorem insertSlot_perm (own : Nat) (f : Frame) (q : List Slot) :
    (insertSlot own f q).Perm ({ frame := f, onLine := false } :: q) := by
  induction q with
  | nil => exact .refl _
  | cons x rest ih =>
    unfold insertSlot
    split
    · exact (ih.cons x).trans (.swap _ _ _)
    · exact .refl _

/-- The order of precedence bytes is the order of kinds: one sender, the own one, stands in all of them. -/
theorem sorted_precedence_iff (own : Nat) (q : List Slot) :
    (q.map (·.frame.precedence own)).Pairwise (· ≤ ·) ↔ (q.map (·.frame.kind)).Pairwise (· ≤ ·) := by
  have same (a b : Slot) : a.frame.precedence own ≤ b.frame.precedence own ↔ a.frame.kind ≤ b.frame.kind := by
    simp only [Frame.precedence]
    omega
  simp only [List.pairwise_map, same]

theorem QueueWithin.insert {q : List Slot} (h : QueueWithin q) (own : Nat) (f : Frame)
    (room : q.length < Config.queueSlots) (status : f.kind = 16 → q.any Slot.isStatus = false)
    (logs : f.kind = 28 → (q.filter (fun x => x.frame.kind == 28)).length < 2) : QueueWithin (insertSlot own f q) where
  slots := by rw [insertSlot_length]; exact room
  sorted := (sorted_precedence_iff own _).mp (insertSlot_sorted own f q ((sorted_precedence_iff own q).mpr h.sorted))
  onLine := by
    rw [((insertSlot_perm own f q).filter _).length_eq]
    exact h.onLine
  status := by
    rw [((insertSlot_perm own f q).filter _).length_eq]
    by_cases kind : f.kind = 16
    · have none : q.filter Slot.isStatus = [] := by simpa [List.filter_eq_nil_iff] using status kind
      simp [Slot.isStatus, kind, none]
    · simpa [List.filter_cons, Slot.isStatus, kind] using h.status
  logs := by
    rw [((insertSlot_perm own f q).filter _).length_eq]
    by_cases kind : f.kind = 28
    · have few := logs kind
      simp only [List.filter_cons, kind, beq_self_eq_true, if_true, List.length_cons]
      omega
    · simpa [List.filter_cons, kind] using h.logs

/-- The limits read the kind of each frame and whether it is on the line. -/
theorem QueueWithin.of_shape {q q' : List Slot} (h : QueueWithin q)
    (same : q'.map (fun x => (x.frame.kind, x.onLine)) = q.map (fun x => (x.frame.kind, x.onLine))) :
    QueueWithin q' := by
  have count (p : Nat × Bool → Bool) : (q'.filter fun x => p (x.frame.kind, x.onLine)).length =
      (q.filter fun x => p (x.frame.kind, x.onLine)).length := by
    simpa [List.filter_map, Function.comp_def] using congrArg (fun l => (l.filter p).length) same
  constructor
  · have := congrArg List.length same
    simp only [List.length_map] at this
    exact this ▸ h.slots
  · have := congrArg (List.map Prod.fst) same
    simp only [List.map_map, Function.comp_def] at this
    exact this ▸ h.sorted
  · exact count (·.2) ▸ h.onLine
  · exact count (fun x => !x.2 && x.1 == 16) ▸ h.status
  · exact count (·.1 == 28) ▸ h.logs

theorem replaceStatus_shape (r : StatusRecord) (q : List Slot) :
    (replaceStatus r q).map (fun x => (x.frame.kind, x.onLine)) = q.map (fun x => (x.frame.kind, x.onLine)) := by
  induction q with
  | nil => rfl
  | cons x rest ih =>
    unfold replaceStatus
    split
    case isTrue status =>
      simp only [Slot.isStatus, Bool.and_eq_true, beq_iff_eq] at status
      have kind : x.frame.kind = (Frame.threadStatus r).kind := status.2
      simp only [List.map_cons, kind]
    case isFalse => simp [ih]

theorem QueueWithin.startHead {q : List Slot} (h : QueueWithin q) (free : q.any (·.onLine) = false) :
    QueueWithin (startHead q) := by
  cases q with
  | nil => exact h
  | cons x rest =>
    obtain ⟨slots, sorted, -, status, logs⟩ := h
    simp only [List.any_cons, Bool.or_eq_false_iff, List.any_eq_false] at free
    have none : rest.filter (·.onLine) = [] := List.filter_eq_nil_iff.mpr free.2
    refine ⟨slots, sorted, by simp [Machine.startHead, none], ?_, ?_⟩
    case refine_2 => exact le_of_eq_of_le (by simp only [Machine.startHead, List.filter_cons]; split <;> rfl) logs
    have others : ((Machine.startHead (x :: rest)).filter Slot.isStatus) = rest.filter Slot.isStatus := by
      simp [Machine.startHead, Slot.isStatus]
    rw [others]
    exact ((List.sublist_cons_self x rest).filter _).length_le.trans status

/-- R14: a status that comes back from lost contention finds no newer one queued. -/
theorem QueueWithin.keepOnLine {q : List Slot} {f : Frame} (h : QueueWithin q) (head : onLineFrame q = some f)
    (newest : supersededOnLine q f = false) : QueueWithin (keepOnLine q) := by
  have kinds (p : Nat → Bool) : ((Machine.keepOnLine q).filter fun x => p x.frame.kind).length =
      (q.filter fun x => p x.frame.kind).length := by
    simp [Machine.keepOnLine, List.filter_map, Function.comp_def]
  have split : (q.filter fun x => x.frame.kind == 16).length =
      (q.filter Slot.isStatus).length + ((q.filter (·.onLine)).filter fun x => x.frame.kind == 16).length := by
    clear * -
    induction q with
    | nil => rfl
    | cons x rest ih => cases on : x.onLine <;> cases kind : (x.frame.kind == 16) <;> simp_all [Slot.isStatus] <;> omega
  have one : (q.filter (·.onLine)).length ≤ 1 := h.onLine
  have statuses : (q.filter fun x => x.frame.kind == 16).length ≤ 1 := by
    rw [split]
    simp only [supersededOnLine, Bool.and_eq_false_iff] at newest
    rcases newest with other | none
    · obtain ⟨x, found, rfl⟩ := Option.map_eq_some_iff.mp head
      have first : (q.filter (·.onLine)) = [x] := by
        rw [← List.head?_filter] at found
        obtain ⟨rest, eq⟩ := List.head?_eq_some_iff.mp found
        rw [eq] at one
        simp only [List.length_cons] at one
        rw [eq, List.length_eq_zero_iff.mp (by omega : rest.length = 0)]
      rw [first, List.filter_cons_of_neg (by simpa using other)]
      simpa using h.status
    · have unqueued : q.filter Slot.isStatus = [] := by simpa [List.filter_eq_nil_iff] using none
      rw [unqueued, List.length_nil, Nat.zero_add]
      exact (List.length_filter_le _ _).trans one
  refine ⟨by simpa [Machine.keepOnLine] using h.slots, by simpa [Machine.keepOnLine, Function.comp_def] using h.sorted,
    by simp [Machine.keepOnLine, List.filter_map, Function.comp_def], ?_, kinds (· == 28) ▸ h.logs⟩
  simpa [Slot.isStatus, Machine.keepOnLine, List.filter_map, Function.comp_def] using statuses

theorem queueKept_congr (queue : t.link.queue = s.link.queue) (state : t.link.state = s.link.state)
    (h : s.QueueKept) : t.QueueKept := by
  unfold State.QueueKept State.takesOffers
  rwa [queue, state]

theorem LinkMove.queueKept (move : LinkMove may s t) (h : s.QueueKept) : t.QueueKept := by
  obtain ⟨within, closed⟩ := queueKept_iff.mp h
  have state := move.state
  have takes : t.takesOffers = s.takesOffers := by unfold State.takesOffers; rw [state]
  refine queueKept_iff.mpr ⟨?_, fun none => ?_⟩
  case refine_2 =>
    have empty := closed (takes ▸ none)
    rw [takes] at none
    cases move with
    | offerYaw f => rwa [(offer_closed s none).1]
    | offerStatus r => rwa [(offer_closed s none).2.1]
    | offerNotice => rwa [(offer_closed s none).2.2]
    | offerLogEntry =>
      have notJoined : s.isJoined = false := by
        simp only [State.takesOffers, Bool.or_eq_false_iff] at none
        simp [State.isJoined, none.2]
      simpa [Machine.offerLogEntry, notJoined] using empty
    | startHead => rw [empty]; rfl
    | removeOnLine => rw [empty]; rfl
    | keepOnLine => rw [empty]; rfl
    | mark | unmark => exact empty
  cases move with
  | offerYaw f yaw =>
    unfold Machine.offerYaw
    split
    · exact within
    split
    case h_1 q n room =>
      obtain ⟨sub, free⟩ := roomForUrgent_sublist within.slots room
      exact (within.sublist sub).insert _ f free (by omega) (by omega)
    case h_2 => exact within
  | offerStatus r =>
    unfold Machine.offerStatus
    split
    · exact within
    split
    · exact within.of_shape (replaceStatus_shape r _)
    case isFalse none =>
      split
      case h_1 q n room =>
        obtain ⟨sub, free⟩ := roomForStatus_sublist within.slots room
        refine (within.sublist sub).insert _ _ free (fun _ => ?_) (by simp [Frame.kind])
        simp only [Bool.not_eq_true, List.any_eq_false] at none ⊢
        exact fun x mem => none x (sub.subset mem)
      case h_2 => exact within
  | offerNotice =>
    unfold Machine.offerNotice
    split
    · exact within
    split
    case h_1 q n room =>
      obtain ⟨sub, free⟩ := roomForUrgent_sublist within.slots room
      exact (within.sublist sub).insert _ _ free (by simp [Frame.kind]) (by simp [Frame.kind])
    case h_2 => exact within
  | offerLogEntry =>
    unfold Machine.offerLogEntry
    split
    case isFalse => exact within
    case isTrue room =>
      simp only [roomForLog, Bool.and_eq_true, decide_eq_true_eq] at room
      split
      · exact within.insert _ _ (by omega) (by simp [Frame.kind]) (fun _ => room.2.2)
      · exact within
  | startHead free => exact within.startHead free
  | removeOnLine => exact within.sublist List.filter_sublist
  | keepOnLine f head newest => exact within.keepOnLine head newest
  | mark | unmark => exact within

theorem Move.queueKept (move : Move may s t) (h : s.QueueKept) : t.QueueKept := by
  cases move with
  | plain same => rw [same]; exact h
  | record => exact h
  | link move => exact move.queueKept h
  | thread move => rw [move.footprint]; exact h
  | quiet move => rw [move.footprint]; exact h
  | cadence move => rw [move.footprint]; exact h
  | yaw move => rw [move.footprint]; exact h
  | block move => cases move <;> exact h
  | state move =>
    obtain ⟨within, closed⟩ := queueKept_iff.mp h
    cases move with
    | join => exact queueKept_iff.mpr ⟨within, by simp [enterJoined, State.takesOffers]⟩
    | reject image unread => exact queueKept_iff.mpr ⟨within, fun _ => closed (by simp [State.takesOffers, unread])⟩
    | accept => exact queueKept_iff.mpr ⟨within, by simp [enterListen, setCapability, State.takesOffers]⟩

/-- Settles O16: each write of the queue keeps its limits, and the clash empties it. -/
theorem queueRulesKept : Obligations.QueueRulesKept := by
  intro s t h done
  refine step_keeps_of_moves (fun _ _ _ h => h) (fun _ _ => ?_) Move.queueKept (fun {s} _ => ?_) h done
  · exact queueKept_iff.mpr ⟨queueWithin_nil, fun _ => rfl⟩
  · rw [silence_eq]
    exact queueKept_iff.mpr ⟨queueWithin_nil, fun _ => rfl⟩

end Sys2Proof.Machine
end

section
/-! The Allotment Unit: the envelope (R70 to R72) as an invariant, and what a period computes (R62 to R72). -/
namespace Sys2Proof.Machine
variable {may : Part → Prop} {s t : State}

/-! ## The envelope (R70, R71) -/

theorem natAbs_withSign (x : Int) (magnitude : Nat) : (withSign x magnitude).natAbs = magnitude := by
  unfold withSign
  split <;> omega

/-- A square above a bound exceeds the bound's root. -/
theorem isqrt_lt_natAbs {q : Int} {n : Nat} (above : (n : Int) < q * q) : isqrt n < q.natAbs := by
  rw [← Int.natAbs_mul_self (a := q)] at above
  by_contra within
  have square := (Nat.mul_self_le_mul_self (Nat.not_lt.mp within)).trans (isqrt_bounds n).1
  omega

theorem envelopeRun_inCircle (c p : Nat) (q : Int) : InCircle c (envelopeRun c p q) := by
  refine (inCircle_iff ..).mpr ?_
  split
  · rw [natAbs_withSign]
    exact sq_add_sq_le_of_le_isqrt (Nat.min_le_right p c) le_rfl
  case isFalse within =>
    have square : min p c * min p c ≤ c * c := Nat.mul_self_le_mul_self (Nat.min_le_right p c)
    rw [← Int.natAbs_mul_self (a := q)] at within
    omega

theorem envelopeRideThrough_inCircle (c p : Nat) (q : Int) : InCircle c (envelopeRideThrough c p q) := by
  refine (inCircle_iff ..).mpr ?_
  rw [add_comm]
  exact sq_add_sq_le_of_le_isqrt (natAbs_clip_le q c) (Nat.min_le_right p _)

/-- R70: the envelope takes nothing from the magnitude but what is above the room. -/
theorem natAbs_envelopeRun_le (c p : Nat) (q : Int) : (envelopeRun c p q).2.natAbs ≤ q.natAbs := by
  unfold envelopeRun
  dsimp only
  split
  case isTrue above =>
    rw [natAbs_withSign]
    exact (isqrt_lt_natAbs above).le
  case isFalse => exact le_rfl

/-! ## The commands of a period, by the thread state -/

theorem State.commands_of_zero (zero : s.thread.state.zeroCommands = true) (p : Nat) (q : Int) :
    s.commands p q = (0, 0) := by
  cases state : s.thread.state <;> rw [state] at zero <;> first | contradiction | simp [State.commands, state]

theorem State.targets_of_zero (zero : s.thread.state.zeroCommands = true) : s.targets = (0, 0) := by
  cases state : s.thread.state <;> rw [state] at zero <;> first | contradiction | simp [State.targets, state]

theorem State.targets_of_stopping (stopping : s.thread.state = .stopping) : s.targets = (0, 0) := by
  simp [State.targets, stopping]

theorem State.commands_of_run (state : s.thread.state = .run ∨ s.thread.state = .stopping) (p : Nat) (q : Int) :
    s.commands p q = envelopeRun s.allotment.capability (ramp (slew s.cfg.rated) p s.allotment.pCommand).toNat
      (ramp (slew s.cfg.rated) q s.allotment.qCommand) := by
  rcases state with h | h <;> simp [State.commands, h]

theorem State.commands_of_rideThrough (state : s.thread.state = .rideThrough) (p : Nat) (q : Int) :
    s.commands p q = envelopeRideThrough s.allotment.capability
      (ramp (slew s.cfg.rated) p s.allotment.pCommand).toNat q := by
  simp [State.commands, state]

theorem ThreadState.zeroCommands_eq_false (x : ThreadState) :
    x.zeroCommands = false ↔ (x = .run ∨ x = .stopping) ∨ x = .rideThrough := by
  cases x <;> simp [ThreadState.zeroCommands]

theorem State.commands_inCircle (s : State) (p : Nat) (q : Int) :
    InCircle s.allotment.capability (s.commands p q) := by
  cases zero : s.thread.state.zeroCommands with
  | true =>
    rw [State.commands_of_zero zero]
    exact (inCircle_iff ..).mpr (by simp)
  | false =>
    rcases (ThreadState.zeroCommands_eq_false _).mp zero with state | state
    · rw [State.commands_of_run state]
      exact envelopeRun_inCircle ..
    · rw [State.commands_of_rideThrough state]
      exact envelopeRideThrough_inCircle ..

/-- R64, R72: a period's commands and targets are those of the state at the capability just set. -/
theorem allot_commands (s : State) : ((allot s).allotment.pCommand, (allot s).allotment.qCommand) =
    (setCapability s).commands (allot s).allotment.pTarget (allot s).allotment.qTarget := rfl

/-! ## The ramp (R69) -/

theorem ramp_le (step : Nat) (target command : Int) : ramp step target command ≤ command + step := by
  unfold ramp
  split_ifs <;> omega

theorem le_ramp (step : Nat) (target command : Int) : command ≤ ramp step target command + step := by
  unfold ramp
  split_ifs <;> omega

theorem natAbs_ramp_le (step : Nat) (target command : Int) :
    (ramp step target command).natAbs ≤ command.natAbs + step := by
  unfold ramp
  split_ifs <;> omega

/-! ## The envelope kept by every move -/

theorem envelopeKept_congr (allotment : t.allotment = s.allotment) (thread : t.thread.state = s.thread.state)
    (quiet : t.quiet.state = s.quiet.state) (link : t.link.state = s.link.state) (h : s.EnvelopeKept) :
    t.EnvelopeKept := by
  unfold State.EnvelopeKept State.resting
  rwa [allotment, thread, quiet, link]

theorem zero_inCircle (a : AllotmentUnit) : (a.zero.pCommand : Int) * a.zero.pCommand +
    a.zero.qCommand * a.zero.qCommand ≤
    (a.zero.capability : Int) * a.zero.capability := by
  simp only [AllotmentUnit.zero, Nat.cast_zero, mul_zero, add_zero]
  exact mul_self_nonneg _

@[simp] theorem enterOff_allotment (s : State) : (enterOff s).allotment = s.allotment := by
  unfold enterOff
  rw [setThread_eq]

/-- A station that rests does not begin a thread. -/
theorem State.mayStart_awake (able : s.mayStart = true) : s.resting = false := by
  simp only [State.mayStart, State.isJoined, Bool.and_eq_true, beq_iff_eq] at able
  simp [State.resting, able]

theorem ThreadState.Advances.awake {x y : ThreadState} (order : x.Advances y) : x.quietable = false := by
  cases order <;> rfl

/-- R72: the states a thread advances to have zero commands where the state before had. -/
theorem ThreadState.Advances.zero {x y : ThreadState} (order : x.Advances y) (zero : y.zeroCommands = true) :
    x.zeroCommands = true := by
  cases order <;> simp_all [ThreadState.zeroCommands]

theorem ThreadMove.envelopeKept (move : ThreadMove may s t) (h : s.EnvelopeKept) : t.EnvelopeKept := by
  obtain ⟨circle, zero, rest⟩ := h
  cases move with
  | trip cls code =>
    by_cases tripped : s.thread.state = .tripped
    · rw [tripThread_tripped (addCause s cls code) tripped]
      exact ⟨circle, zero, rest⟩
    · have zeroed := tripThread_allotment (addCause s cls code) tripped
      refine ⟨?_, fun _ => ?_, fun _ => by simp [ThreadState.quietable]⟩
      · rw [zeroed]
        exact zero_inCircle _
      · rw [zeroed]
        exact ⟨rfl, rfl⟩
  | endCondition => exact ⟨circle, zero, rest⟩
  | removeEnded =>
    unfold Machine.removeEnded
    split <;> exact ⟨circle, zero, rest⟩
  | release _ _ tripped =>
    have none := zero (by rw [tripped]; rfl)
    have same := enterOff_allotment s
    exact ⟨same ▸ circle, fun _ => same ▸ none, fun _ => by simp [entersOff_state, ThreadState.quietable]⟩
  | off idle =>
    have none : s.allotment.pCommand = 0 ∧ s.allotment.qCommand = 0 := by
      rcases idle with state | state | ⟨-, none⟩
      · exact zero (by rw [state]; rfl)
      · exact zero (by rw [state]; rfl)
      · exact none
    have same := enterOff_allotment s
    exact ⟨same ▸ circle, fun _ => same ▸ none, fun _ => by simp [entersOff_state, ThreadState.quietable]⟩
  | advance next order =>
    rw [setThread_eq]
    refine ⟨circle, fun none => zero (order.zero none), fun still => ?_⟩
    have awake := order.awake
    rw [rest still] at awake
    contradiction
  | start _ able =>
    have off : s.thread.state = .off := by
      simp only [State.mayStart, Bool.and_eq_true, beq_iff_eq] at able
      simp [able]
    have awake := State.mayStart_awake able
    unfold Machine.startTest
    rw [if_pos able, setThread_eq]
    refine ⟨circle, fun _ => zero (by rw [off]; rfl), fun still => ?_⟩
    have : s.resting = true := still
    simp [awake] at this
  | allot =>
    refine ⟨(Machine.setCapability s).commands_inCircle .., fun none => ?_, rest⟩
    exact Prod.mk.inj ((allot_commands s).trans (State.commands_of_zero (s := Machine.setCapability s) none ..))
  | setCapability still =>
    have none := zero (by
      have resting := rest still
      cases state : s.thread.state <;> rw [state] at resting <;> first | rfl | contradiction)
    refine ⟨?_, fun _ => none, rest⟩
    have p : s.allotment.pCommand = 0 := none.1
    have q : s.allotment.qCommand = 0 := none.2
    simp only [Machine.setCapability, p, q, Nat.cast_zero, mul_zero, add_zero]
    exact mul_self_nonneg _

/-- No move of the quiet state lets a station rest whose thread is neither OFF nor TRIPPED. -/
theorem QuietMove.rests (move : QuietMove may s t) (resting : t.resting = true) :
    s.resting = true ∨ s.thread.state.quietable = true := by
  have link : t.link.state = s.link.state := by rw [move.footprint]
  by_cases active : s.quiet.state = .active
  · cases move with
    | order _ _ quietable => exact .inr quietable
    | wakeCause | quietTest | control | timer =>
      refine .inl ?_
      simp_all [State.resting]
    | returnToActive =>
      refine .inl ?_
      simp only [State.resting, link, active] at resting ⊢
      exact resting
  · exact .inl (by simp [State.resting, active])

theorem Move.envelopeKept (move : Move may s t) (h : s.EnvelopeKept) : t.EnvelopeKept := by
  cases move with
  | plain same => rw [same]; exact h
  | record => exact h
  | link move =>
    have same := move.footprint
    exact envelopeKept_congr (by rw [same]) (by rw [same]) (by rw [same]) move.state h
  | thread move => exact move.envelopeKept h
  | quiet move =>
    have rests := move.rests
    obtain ⟨circle, zero, rest⟩ := h
    rw [move.footprint] at rests ⊢
    exact ⟨circle, zero, fun resting => (rests resting).elim rest id⟩
  | cadence move => rw [move.footprint]; exact h
  | yaw move => rw [move.footprint]; exact h
  | block move => cases move <;> exact h
  | state move =>
    obtain ⟨circle, zero, rest⟩ := h
    cases move with
    | join listening =>
      refine ⟨circle, zero, fun _ => rest ?_⟩
      simp [State.resting, listening]
    | reject image unread =>
      refine ⟨circle, zero, fun _ => rest ?_⟩
      simp [State.resting, unread]
    | accept image unread =>
      have still := rest (by simp [State.resting, unread])
      have none := zero (by
        cases state : s.thread.state <;> rw [state] at still <;> first | rfl | contradiction)
      refine ⟨?_, fun _ => none, fun _ => still⟩
      have p : s.allotment.pCommand = 0 := none.1
      have q : s.allotment.qCommand = 0 := none.2
      simp only [enterListen, Machine.setCapability, p, q, Nat.cast_zero, mul_zero, add_zero]
      exact mul_self_nonneg _

/-- Settles O28: the commands a period computes lie in the circle, and a trip, a stop and a rest leave them zero. -/
theorem envelopeAlwaysKept : Obligations.EnvelopeAlwaysKept := by
  intro s t h done
  refine step_keeps_of_moves (fun _ _ _ h => h) (fun _ _ => ?_) Move.envelopeKept (fun {s} h => ?_) h done
  · exact ⟨by simp only [resetBlocks]; decide, fun _ => ⟨rfl, rfl⟩, fun _ => rfl⟩
  · obtain ⟨circle, zero, rest⟩ := h
    rw [silence_eq]
    refine ⟨circle, zero, fun resting => rest ?_⟩
    have quiet : s.quiet.state ≠ .active := by simpa [State.resting, goSilent] using resting
    simp [State.resting, quiet]

/-! ## What a period computes (R62 to R72) -/

/-- A command moved toward its target, from a magnitude that is a natural number, moves it by a slew at most. -/
theorem toNat_ramp_bounds (step target command : Nat) :
    (ramp step target command).toNat ≤ command + step ∧ command ≤ (ramp step target command).toNat + step := by
  have above := ramp_le step target command
  have below := le_ramp step target command
  omega

theorem envelopeRun_zero (p : Nat) (q : Int) : envelopeRun 0 p q = (0, 0) := by
  by_cases none : q = 0
  · simp [envelopeRun, none]
  · have above : 0 < q * q := mul_self_pos.mpr none
    simp [envelopeRun, withSign, above]

theorem envelopeRideThrough_zero (p : Nat) (q : Int) : envelopeRideThrough 0 p q = (0, 0) := by
  simp [envelopeRideThrough]

/-- Settles O25: by the thread state, from the bounds of the ramp and of the envelope. -/
theorem allotmentOfAPeriod : Obligations.AllotmentOfAPeriod := by
  intro s t c step
  have targets : (t.allotment.pTarget, t.allotment.qTarget) = (setCapability s).targets := rfl
  have commands : (t.allotment.pCommand, t.allotment.qCommand) =
      (setCapability s).commands t.allotment.pTarget t.allotment.qTarget := rfl
  have run (state : s.thread.state = .run ∨ s.thread.state = .stopping) :
      (t.allotment.pCommand, t.allotment.qCommand) = envelopeRun c
        (ramp (slew s.cfg.rated) t.allotment.pTarget s.allotment.pCommand).toNat
        (ramp (slew s.cfg.rated) t.allotment.qTarget s.allotment.qCommand) :=
    commands.trans (State.commands_of_run (s := setCapability s) state _ _)
  have ride (state : s.thread.state = .rideThrough) :
      (t.allotment.pCommand, t.allotment.qCommand) = envelopeRideThrough c
        (ramp (slew s.cfg.rated) t.allotment.pTarget s.allotment.pCommand).toNat t.allotment.qTarget :=
    commands.trans (State.commands_of_rideThrough (s := setCapability s) state _ _)
  have moved := toNat_ramp_bounds (slew s.cfg.rated) t.allotment.pTarget s.allotment.pCommand
  refine ⟨rfl, rfl, fun zero => ?zero, fun stopping => ?stopping, fun awake none => ?uncapable,
    fun state fits => ?active,
    fun state => ?reactive, fun state => ?rideThrough⟩
  case zero =>
    have p := Prod.mk.inj (targets.trans (State.targets_of_zero (s := setCapability s) zero))
    have q := Prod.mk.inj (commands.trans (State.commands_of_zero (s := setCapability s) zero _ _))
    exact ⟨p.1, p.2, q.1, q.2⟩
  case stopping => exact Prod.mk.inj (targets.trans (State.targets_of_stopping (s := setCapability s) stopping))
  case uncapable =>
    rcases (ThreadState.zeroCommands_eq_false _).mp awake with state | state
    · exact Prod.mk.inj ((run state).trans (none ▸ envelopeRun_zero ..))
    · exact Prod.mk.inj ((ride state).trans (none ▸ envelopeRideThrough_zero ..))
  case active =>
    have p : t.allotment.pCommand = min _ c := congrArg Prod.fst (run state)
    rw [p]
    refine ⟨(Nat.min_le_left _ _).trans moved.1, ?_⟩
    change _ ≤ min _ c + slew s.cfg.rated
    omega
  case reactive =>
    have q : t.allotment.qCommand = (envelopeRun c _ _).2 := congrArg Prod.snd (run state)
    rw [q]
    exact (natAbs_envelopeRun_le ..).trans (natAbs_ramp_le ..)
  case rideThrough =>
    have p : t.allotment.pCommand = min _ _ := congrArg Prod.fst (ride state)
    rw [p]
    exact (Nat.min_le_left _ _).trans moved.1

/-! ## The share (R63 to R65) -/

/-- R65: what one station adds to the capability sum. -/
def State.capabilityPart (s : State) (n : Nat) : Nat :=
  if n = s.own then
    if s.thread.state = .run ∨ s.thread.state = .rideThrough then s.allotment.capability else 0
  else
    match s.table.threads.get? n with
    | none => 0
    | some e =>
      match e.record with
      | none => 0
      | some r =>
        if e.role = .thread ∧ e.state = .live ∧ (r.threadCode = 3 ∨ r.threadCode = 4) then min 4000 r.capability else 0

theorem ThreadState.contributing_of_code {code : Nat} {x : ThreadState} (known : ThreadState.ofCode code = some x) :
    x.contributing = true ↔ code = 3 ∨ code = 4 := by
  unfold ThreadState.ofCode at known
  split at known <;> cases known <;> simp [ThreadState.contributing]

theorem ThreadState.unknown_code {code : Nat} (unknown : ThreadState.ofCode code = none) : 6 < code := by
  unfold ThreadState.ofCode at unknown
  split at unknown <;> first | contradiction | (simp only [imp_false] at *; omega)

/-- R54: an entry that is not LIVE with a record, of role THREAD and in RUN or RIDE_THROUGH adds nothing. -/
theorem State.contribution_part (s : State) (n : Nat) (e : Entry StatusRecord)
    (entry : s.table.threads.get? n = some e) :
    ((s.contribution n e).toList.map fun nc => if nc.1 = s.own then nc.2 else min 4000 nc.2).sum =
      s.capabilityPart n := by
  unfold State.contribution State.capabilityPart
  by_cases own : n = s.own
  · simp only [own, if_true]
    cases s.thread.state <;> by_cases none : s.allotment.capability = 0 <;>
      simp [ThreadState.contributing, none, Nat.pos_iff_ne_zero]
  · simp only [own, if_false, entry]
    cases record : e.record with
    | none => simp [Entry.liveRecord, record]
    | some r =>
      by_cases live : e.role = .thread ∧ e.state = .live
      · simp only [Entry.liveRecord, live, record, if_true, true_and, and_self]
        cases code : ThreadState.ofCode r.threadCode with
        | none =>
          have := ThreadState.unknown_code code
          simp [show ¬(r.threadCode = 3 ∨ r.threadCode = 4) by omega]
        | some x =>
          simp only [ThreadState.contributing_of_code code]
          by_cases none : r.capability = 0 <;> by_cases either : r.threadCode = 3 ∨ r.threadCode = 4 <;>
            simp [none, Nat.pos_iff_ne_zero, own, either]
      · have out : e.liveRecord = none := if_neg live
        simp only [out]
        rw [if_neg (fun held => live ⟨held.1, held.2.1⟩)]
        rfl

theorem State.capabilitySum_eq (s : State) : s.capabilitySum = s.capabilityPart 1 + s.capabilityPart 2 +
    s.capabilityPart 3 + s.capabilityPart 4 + s.capabilityPart 5 + s.capabilityPart 6 + s.capabilityPart 7 := by
  have flat (l : List (Nat × Entry StatusRecord)) :
      ((l.filterMap fun ne => s.contribution ne.1 ne.2).map fun nc =>
        if nc.1 = s.own then nc.2 else min 4000 nc.2).sum =
        (l.map fun ne => ((s.contribution ne.1 ne.2).toList.map
          fun nc => if nc.1 = s.own then nc.2 else min 4000 nc.2).sum).sum := by
    induction l with
    | nil => rfl
    | cons ne rest ih => cases found : s.contribution ne.1 ne.2 <;> simp [found, ih]
  unfold State.capabilitySum State.contributing
  rw [flat]
  simp only [PerThread.toList, List.map_cons, List.map_nil, List.sum_cons, List.sum_nil]
  rw [s.contribution_part 1 _ rfl, s.contribution_part 2 _ rfl, s.contribution_part 3 _ rfl,
    s.contribution_part 4 _ rfl,
    s.contribution_part 5 _ rfl, s.contribution_part 6 _ rfl, s.contribution_part 7 _ rfl]
  omega

/-- Settles O26: the intake and the sum by their cases; the ramps and the envelope by the thread state. -/
theorem shareAndEnvelope : Obligations.ShareAndEnvelope := by
  refine ⟨fun s => ⟨fun none => ?noIntake, fun produce present => ?intake, s.capabilitySum_eq, rfl⟩, ?commands⟩
  case noIntake =>
    unfold State.intake
    exact if_neg (fun both => none.elim (absurd both.1) both.2)
  case intake =>
    unfold State.intake
    rw [if_pos ⟨produce, present⟩]
    refine ⟨?_, rfl⟩
    rw [Int.toNat_of_nonneg (by unfold clamp; split_ifs <;> omega)]
    rfl
  case commands =>
    intro s t c step moved p q
    have commands : (t.pCommand, t.qCommand) = (setCapability s).commands t.pTarget t.qTarget := rfl
    refine ⟨fun state => ?_, fun state => ?_⟩
    · have run : (t.pCommand, t.qCommand) = envelopeRun c p q :=
        commands.trans (State.commands_of_run (s := setCapability s) state _ _)
      have active : t.pCommand = min p c := congrArg Prod.fst run
      have reactive : t.qCommand = if q * q > ((c * c - min p c * min p c : Nat) : Int) then
        withSign q (isqrt (c * c - min p c * min p c)) else q := congrArg Prod.snd run
      refine ⟨active, fun within => ?_, fun above => ?_⟩
      · rw [reactive, if_neg (Int.not_lt.mpr within)]
      · rw [reactive, if_pos above]
        refine ⟨natAbs_withSign .., fun up => ?_, fun down => ?_⟩
        · simp [withSign, Int.not_lt.mpr up]
        · simp [withSign, down]
    · have ride : (t.pCommand, t.qCommand) = envelopeRideThrough c p t.qTarget :=
        commands.trans (State.commands_of_rideThrough (s := setCapability s) state _ _)
      have reactive : t.qCommand = clip t.qTarget c := congrArg Prod.snd ride
      refine ⟨reactive, ?_⟩
      rw [reactive]
      exact congrArg Prod.fst ride

end Sys2Proof.Machine
end

section
/-! The cause set (R149, R152 to R154, R160, R23) as an invariant. -/
namespace Sys2Proof.Machine
variable {may : Part → Prop} {s t : State}

/-! ## The causes as rows of class, code and kind -/

/-- R148: the fault a cause is held for, and its kind. -/
def Cause.row (c : Cause) : Nat × Nat × CauseKind := (c.cls, c.code, c.kind)

/-- R152: a cause added joins the rows at their end, or is there already. -/
theorem addCauseTo_rows (cls code : Nat) (l : List Cause) : (addCauseTo cls code l).map Cause.row = l.map Cause.row ∨
    ((cls, code) ∉ l.map (fun c => (c.cls, c.code)) ∧
      (addCauseTo cls code l).map Cause.row = l.map Cause.row ++ [(cls, code, causeKind cls code)]) := by
  induction l with
  | nil => exact .inr ⟨by simp, rfl⟩
  | cons c rest ih =>
    unfold addCauseTo
    split
    · left
      split <;> simp_all [Cause.row]
    case isFalse apart =>
      refine ih.imp (fun same => by simp [same]) (fun ⟨absent, added⟩ => ⟨?_, by simp [added]⟩)
      simp only [List.map_cons, List.mem_cons, Prod.mk.injEq, not_or]
      exact ⟨fun same => apart ⟨same.1.symm, same.2.symm⟩, absent⟩

/-- R153: the end of a condition takes a row away or leaves them all. -/
theorem endConditionIn_rows (cls code : Nat) (l : List Cause) :
    ((endConditionIn cls code l).map Cause.row).Sublist (l.map Cause.row) := by
  induction l with
  | nil => exact .refl _
  | cons c rest ih =>
    unfold endConditionIn
    split
    · split
      · exact List.sublist_cons_self ..
      · exact .refl _
    · exact ih.cons_cons _

/-- R153: the end of a condition leaves the other causes held. -/
theorem endConditionIn_other {cls code other k : Nat} (l : List Cause) (apart : (cls, code) ≠ (other, k)) :
    (endConditionIn cls code l).any (fun c => c.cls == other && c.code == k) =
      l.any (fun c => c.cls == other && c.code == k) := by
  induction l with
  | nil => rfl
  | cons c rest ih =>
    unfold endConditionIn
    split
    case isTrue same =>
      have none : (c.cls == other && c.code == k) = false := by simpa [same.1, same.2] using apart
      split <;> simp [none]
    case isFalse => simp [ih]

/-! ## The rules of the cause set -/

/-- R149, R148, R160: what the cause set keeps, whatever the link state. -/
structure State.CausesHeld (s : State) : Prop where
  nodup : (s.fault.causes.map fun c => (c.cls, c.code)).Nodup
  listed : ∀ c ∈ s.fault.causes, c.row ∈ causeTable
  tripped : s.thread.state ≠ .tripped → s.fault.causes = []

theorem causesKept_iff : s.CausesKept ↔ s.CausesHeld ∧ (s.link.state = .silent → s.holdsCause clsLink 1 = true) :=
  ⟨fun ⟨a, b, c, d⟩ => ⟨⟨a, b, c⟩, d⟩, fun ⟨⟨a, b, c⟩, d⟩ => ⟨a, b, c, d⟩⟩

theorem State.CausesHeld.congr (h : s.CausesHeld) (causes : t.fault.causes = s.fault.causes)
    (thread : t.thread.state = s.thread.state) : t.CausesHeld :=
  ⟨causes ▸ h.nodup, causes ▸ h.listed, causes ▸ thread ▸ h.tripped⟩

theorem State.CausesHeld.of_nil (none : s.fault.causes = []) : s.CausesHeld :=
  ⟨by simp [none], by simp [none], fun _ => none⟩

/-- Rows taken away leave the rest as they were. -/
theorem State.CausesHeld.sublist (h : s.CausesHeld) (thread : t.thread.state = s.thread.state)
    (sub : (t.fault.causes.map Cause.row).Sublist (s.fault.causes.map Cause.row)) : t.CausesHeld where
  nodup := by
    have keys := sub.map fun r => (r.1, r.2.1)
    simp only [List.map_map] at keys
    exact h.nodup.sublist keys
  listed c mem := by
    obtain ⟨d, held, same⟩ := List.mem_map.mp (sub.subset (List.mem_map_of_mem (f := Cause.row) mem))
    exact same ▸ h.listed d held
  tripped other := by
    have none := h.tripped (thread ▸ other)
    simpa [none] using sub

theorem causeKind_of_isCause {cls code : Nat} (cause : IsCause cls code) :
    (cls, code, causeKind cls code) ∈ causeTable := by
  obtain ⟨kind, row⟩ := cause
  have table : ∀ row ∈ causeTable, (row.1, row.2.1, causeKind row.1 row.2.1) ∈ causeTable := by decide
  exact table _ row

theorem State.CausesHeld.add (h : s.CausesHeld) {cls code : Nat} (cause : IsCause cls code)
    (causes : t.fault.causes = addCauseTo cls code s.fault.causes) (tripped : t.thread.state = .tripped) :
    t.CausesHeld := by
  have keys (l : List Cause) : l.map (fun c => (c.cls, c.code)) = (l.map Cause.row).map fun r => (r.1, r.2.1) := by
    rw [List.map_map]; rfl
  have rows (l : List Cause) : (∀ c ∈ l, c.row ∈ causeTable) ↔ ∀ r ∈ l.map Cause.row, r ∈ causeTable := by simp
  obtain ⟨nodup, listed, -⟩ := h
  refine ⟨?_, ?_, fun other => absurd tripped other⟩ <;> rw [causes] <;>
    rcases addCauseTo_rows cls code s.fault.causes with same | ⟨none, added⟩
  · rwa [keys, same, ← keys]
  · rw [keys, added, List.map_append, ← keys]
    exact nodup.append (List.nodup_singleton _) (by simpa using none)
  · rwa [rows, same, ← rows]
  · rw [rows, added]
    rw [rows] at listed
    simpa [or_imp, forall_and, causeKind_of_isCause cause] using listed

theorem ThreadMove.causesHeld (move : ThreadMove may s t) (h : s.CausesHeld) : t.CausesHeld := by
  cases move with
  | trip cls code cause => exact h.add cause (by simp [addCause]) (by simp)
  | endCondition cls code => exact h.sublist rfl (endConditionIn_rows ..)
  | removeEnded =>
    unfold Machine.removeEnded
    split
    · exact h.sublist rfl (List.filter_sublist.map _)
    · exact h
  | release _ _ _ none =>
    have causes : (enterOff s).fault.causes = [] := by rw [← none]; simp
    exact .of_nil causes
  | off idle =>
    have none := h.tripped (by rcases idle with state | state | ⟨state, -⟩ <;> simp [state])
    have causes : (enterOff s).fault.causes = [] := by rw [← none]; simp
    exact .of_nil causes
  | advance next order =>
    have none := h.tripped (by cases state : s.thread.state <;> rw [state] at order <;> cases order <;> simp)
    have causes : (setThread s next).fault.causes = [] := by rw [← none]; simp
    exact .of_nil causes
  | start _ able =>
    have none := h.tripped (by intro state; simp [State.mayStart, state] at able)
    have causes : (startTest s).fault.causes = [] := by
      rw [← none]
      unfold Machine.startTest
      rw [if_pos able]
      simp
    exact .of_nil causes
  | allot | setCapability => exact h.congr rfl rfl

theorem Move.causesHeld (move : Move may s t) (h : s.CausesHeld) : t.CausesHeld := by
  cases move with
  | plain same => rw [same]; exact h.congr rfl rfl
  | record => exact h.congr rfl rfl
  | link move => rw [move.footprint]; exact h.congr rfl rfl
  | thread move => exact move.causesHeld h
  | quiet move => rw [move.footprint]; exact h.congr rfl rfl
  | cadence move => rw [move.footprint]; exact h.congr rfl rfl
  | yaw move => rw [move.footprint]; exact h.congr rfl rfl
  | block move => cases move <;> exact h.congr rfl rfl
  | state move => cases move <;> exact h.congr rfl rfl

/-- R152: a cause added leaves those held. -/
theorem addCauseTo_held {other k : Nat} (cls code : Nat) (l : List Cause)
    (held : l.any (fun c => c.cls == other && c.code == k) = true) :
    (addCauseTo cls code l).any (fun c => c.cls == other && c.code == k) = true := by
  induction l with
  | nil => simp at held
  | cons c rest ih =>
    unfold addCauseTo
    split
    · split <;> exact held
    · simp only [List.any_cons, Bool.or_eq_true] at held ⊢
      exact held.imp_right ih

/-- R153, R161: LINK 1 is a condition whose end no command reports. -/
theorem ThreadMove.linkHeld (move : ThreadMove may s t) (h : s.CausesHeld) (link : s.holdsCause clsLink 1 = true) :
    t.holdsCause clsLink 1 = true := by
  cases move with
  | trip cls code =>
    rw [holdsCause_tripThread]
    exact addCauseTo_held cls code s.fault.causes link
  | endCondition cls code stays => exact (endConditionIn_other _ fun same => stays (Prod.mk.inj same).1).trans link
  | removeEnded =>
    unfold Machine.removeEnded
    split
    · obtain ⟨c, mem, key⟩ := List.any_eq_true.mp link
      refine List.any_eq_true.mpr ⟨c, List.mem_filter.mpr ⟨mem, ?_⟩, key⟩
      have kind : c.kind = .condition := by
        simp only [Bool.and_eq_true, beq_iff_eq] at key
        have row := h.listed c mem
        simp only [Cause.row, key.1, key.2] at row
        have only : ∀ r ∈ causeTable, r.1 = clsLink → r.2.2 = .condition := by decide
        exact only _ row rfl
      simp [Cause.finished, kind]
    · exact link
  | release _ _ _ none => simp [State.holdsCause, none] at link
  | off => simpa [State.holdsCause] using link
  | advance => simpa [State.holdsCause] using link
  | start _ able =>
    unfold Machine.startTest
    rw [if_pos able]
    simpa [State.holdsCause] using link
  | allot | setCapability => exact link

theorem Move.causesKept (move : Move may s t) (h : s.CausesKept) : t.CausesKept := by
  obtain ⟨held, link⟩ := causesKept_iff.mp h
  refine causesKept_iff.mpr ⟨move.causesHeld held, fun silent => ?_⟩
  cases move with
  | plain same =>
    rw [same] at silent ⊢
    exact link silent
  | record => exact link silent
  | link move =>
    have state := move.state
    rw [move.footprint]
    exact link (state ▸ silent)
  | thread move => exact move.linkHeld held (link (by rw [move.footprint] at silent; exact silent))
  | quiet move => rw [move.footprint] at silent ⊢; exact link silent
  | cadence move => rw [move.footprint] at silent ⊢; exact link silent
  | yaw move => rw [move.footprint] at silent ⊢; exact link silent
  | block move => cases move <;> exact link silent
  | state move => cases move <;> cases silent

/-! ## The clash -/

/-- R151: what a report leaves of the Fault Unit. -/
theorem takeReport_fault (s : State) (cls code : Nat) (severity : Severity) (detail : Int) :
    (takeReport s cls code severity detail).fault =
      if severity.trips = true then (tripThread (addCause s cls code)).fault else s.fault := by
  have kept (u : State) (a : Nat) : (wakeCause
    (offerNotice (enterRecord u u.own cls code severity.code a (some detail) none)
      cls code severity.code a detail)).fault = u.fault := by
    simp
  unfold takeReport
  dsimp only
  split
  case isTrue note => simp [note, Severity.trips]
  case isFalse =>
    rw [kept]
    split <;> rfl

theorem addressClash_report (s : State) :
    addressClash s = takeReport (silence s) clsLink 1 .tripThread s.own := by
  rw [addressClash_eq, reportFault, if_neg]
  exact fun ⟨_, bars, _⟩ => absurd bars (by decide)

/-- R152: a trip report of LINK 1 leaves its cause held. -/
theorem holdsCause_addressClash (s : State) : (addressClash s).holdsCause clsLink 1 = true := by
  rw [addressClash_report, State.holdsCause, takeReport_fault]
  exact (holdsCause_tripThread ..).trans (holdsCause_addCause ..)

/-- Settles O55: each move keeps the rows of the cause set, and the clash, which makes the station SILENT, enters LINK
1; the table of kinds is R148's. -/
theorem causeRulesKept : Obligations.CauseRulesKept := by
  refine ⟨fun s t h done => ?_, by decide⟩
  refine step_keeps (P := State.CausesKept) (fun _ _ _ h => h) (fun _ _ => ?_) (fun done notReset h => ?_) h done
  · exact ⟨List.nodup_nil, by simp [resetBlocks, State.reset, FaultUnit.initial], fun _ => rfl,
      fun silent => by cases silent⟩
  · cases does_of_exec done notReset with
    | moves moves => exact moves.keep Move.causesKept h
    | @clash u moves =>
      have before := (causesKept_iff.mp (moves.keep Move.causesKept h)).1
      have silenced : (silence u).CausesHeld := by
        rw [silence_eq]
        exact before.congr rfl rfl
      have after := (addressClash_moves (may := fun _ => True) u).keep Move.causesHeld silenced
      exact causesKept_iff.mpr ⟨after, fun _ => holdsCause_addressClash u⟩

end Sys2Proof.Machine
end

section
/-! The quiet state (R175 to R178, R38), the cadence ranges (R24, R31, R33, R34) and the own entry (R41) as invariants.
-/
namespace Sys2Proof.Machine
variable {may : Part → Prop} {s t : State}

/-! ## The quiet state -/

/-- R177, R178, R38: outside QUIET there is no call, no wake timer and no exchange timer of QUIET. -/
def State.QuietClear (s : State) : Prop :=
  s.quiet.state ≠ .quiet → s.quiet.call = none ∧ s.quiet.wakeTimer = none ∧ s.thread.quietTimer = none

theorem ThreadMove.quietTimer (move : ThreadMove may s t) :
    t.quiet = s.quiet ∧ t.thread.quietTimer = s.thread.quietTimer := by
  rw [move.footprint]
  exact ⟨rfl, rfl⟩

theorem QuietMove.quietClear (move : QuietMove may s t) (h : s.QuietClear) : t.QuietClear := by
  cases move with
  | wakeCause =>
    unfold Machine.wakeCause
    split
    · exact h
    case h_2 pending => exact fun _ => h (by simp [pending])
    case h_3 quiet =>
      split
      · exact fun _ => ⟨rfl, rfl, rfl⟩
      split
      · exact h
      · exact fun other => absurd quiet other
  | quietTest =>
    unfold Machine.quietTest
    split
    · exact fun other => absurd rfl other
    · exact h
  | returnToActive => exact fun _ => ⟨rfl, rfl, rfl⟩
  | control q same calling =>
    intro other
    obtain ⟨call, timer, exchange⟩ := h (same ▸ other)
    rcases calling with ⟨sameCall, sameTimer⟩ | quiet | some
    · exact ⟨sameCall.trans call, sameTimer.trans timer, exchange⟩
    · exact absurd (same.trans quiet) other
    · simp [call] at some
  | order _ _ _ active => exact fun _ => h (by simp [active])
  | timer t quiet => exact fun other => absurd quiet other

theorem Move.quietClear (move : Move may s t) (h : s.QuietClear) : t.QuietClear := by
  cases move with
  | plain same => rw [same]; exact h
  | record => exact h
  | link move => rw [move.footprint]; exact h
  | thread move =>
    obtain ⟨quiet, timer⟩ := move.quietTimer
    unfold State.QuietClear
    rwa [quiet, timer]
  | quiet move => exact move.quietClear h
  | cadence move => rw [move.footprint]; exact h
  | yaw move => rw [move.footprint]; exact h
  | block move => cases move <;> exact h
  | state move => cases move <;> exact h

/-- R84, R175: no thread begins but in ACTIVE. -/
theorem ThreadMove.awake (move : ThreadMove may s t) (still : s.thread.state.quietable = true) :
    s.quiet.state = .active ∨ t.thread.state.quietable = true := by
  by_cases starts : ∃ able : s.mayStart = true, t = Machine.startTest s
  · obtain ⟨able, -⟩ := starts
    simp only [State.mayStart, Bool.and_eq_true, beq_iff_eq] at able
    exact .inl (by simp [able])
  · right
    cases move with
    | start _ able => exact absurd ⟨able, rfl⟩ starts
    | trip cls code cause => exact ThreadMove.resting (may := (· ≠ .start)) (.trip s cls code cause) (by simp) still
    | endCondition cls code stays =>
      exact ThreadMove.resting (may := (· ≠ .start)) (.endCondition s cls code stays) (by simp) still
    | removeEnded => exact ThreadMove.resting (may := (· ≠ .start)) (.removeEnded s) (by simp) still
    | release | off => simp [entersOff_state, ThreadState.quietable]
    | advance next order => simp [order.awake] at still
    | allot | setCapability => exact still

/-- The parts of the rule that a move of the quiet state keeps, but for what it clears. -/
theorem QuietMove.quietKept (move : QuietMove may s t) (h : s.QuietKept) : t.QuietKept := by
  obtain ⟨joined, stopped, clear⟩ := h
  have link : t.link.state = s.link.state := by rw [move.footprint]
  have thread : t.thread.state = s.thread.state := by rw [move.footprint]
  have clear' : t.QuietClear := move.quietClear clear
  refine ⟨fun away => link ▸ thread ▸ ?_, fun quiet => ?_, clear'⟩
  · by_cases active : s.quiet.state = .active
    · cases move with
      | order _ listening quietable => exact ⟨listening, quietable⟩
      | wakeCause | quietTest => exact absurd (by simp [active]) away
      | returnToActive => exact absurd rfl away
      | control q same => exact absurd (same.trans active) away
      | timer => exact absurd active away
    · exact joined active
  · cases move with
    | wakeCause =>
      unfold Machine.wakeCause at quiet ⊢
      split at quiet
      · exact stopped quiet
      · cases quiet
      case h_3 was =>
        by_cases silent : s.link.state = .silent
        · rw [if_pos silent] at quiet
          cases quiet
        · rw [if_neg silent]
          split <;> exact stopped was
    | quietTest =>
      unfold Machine.quietTest at quiet ⊢
      split
      · rfl
      · rw [if_neg ‹_›] at quiet
        exact stopped quiet
    | returnToActive => cases quiet
    | control q same => exact stopped (same ▸ quiet)
    | order => cases quiet
    | timer => exact stopped quiet

theorem Move.quietKept (move : Move may s t) (still : ¬may .joining) (h : s.QuietKept) : t.QuietKept := by
  have clear := move.quietClear h.2.2
  obtain ⟨joined, stopped, cleared⟩ := h
  cases move with
  | plain same => rw [same] at clear ⊢; exact ⟨joined, stopped, clear⟩
  | record => exact ⟨joined, stopped, clear⟩
  | link move =>
    have state := move.state
    rw [move.footprint] at state clear ⊢
    exact ⟨fun away => ⟨state.trans (joined away).1, (joined away).2⟩, stopped, clear⟩
  | thread move =>
    have awake := move.awake
    rw [move.footprint] at awake clear ⊢
    exact ⟨fun away => ⟨(joined away).1, (awake (joined away).2).resolve_left away⟩, stopped, clear⟩
  | quiet move => exact move.quietKept ⟨joined, stopped, cleared⟩
  | cadence move =>
    refine ⟨by rw [move.footprint]; exact joined, fun quiet => ?_, clear⟩
    have was : s.quiet.state = .quiet := by rw [move.footprint] at quiet; exact quiet
    cases move with
    | unit c _ _ _ runs =>
      have kept : c.timer = s.cadence.timer := runs.resolve_right fun others =>
        others.elim (absurd was) (·.elim (absurd (joined (by simp [was])).1) still)
      exact kept.trans (stopped was)
    | latchOffset => exact stopped was
  | yaw move => rw [move.footprint] at clear ⊢; exact ⟨joined, stopped, clear⟩
  | block move => cases move <;> exact ⟨joined, stopped, clear⟩
  | state move =>
    have active (other : s.link.state ≠ .joined) : s.quiet.state = .active :=
      by_contra fun away => other (joined away).1
    cases move with
    | join listening =>
      have active := active (by simp [listening])
      exact ⟨fun away => absurd active away, fun quiet => by simp [enterJoined, active] at quiet, clear⟩
    | reject image unread =>
      have active := active (by simp [unread])
      exact ⟨fun away => absurd active away, fun quiet => by simp [rejectImage, active] at quiet, clear⟩
    | accept image unread =>
      have active := active (by simp [unread])
      exact ⟨fun away => absurd active away, fun quiet => by
        simp [enterListen, Machine.setCapability, active] at quiet, clear⟩

/-- R175, R177, R22: the wake cause of a SILENT station ends its quiet state. -/
theorem wakeCause_silent (silent : s.link.state = .silent) (clear : s.QuietClear) : (wakeCause s).QuietKept := by
  have active : (wakeCause s).quiet.state = .active := by
    unfold wakeCause
    split
    · assumption
    · rfl
    · rw [if_pos silent]; rfl
  have cleared := QuietMove.quietClear (may := fun _ => True) (.wakeCause s) clear
  exact ⟨fun away => absurd active away, fun quiet => absurd (active.symm.trans quiet) (by simp), cleared⟩

/-- R151: the last step of a report that is no NOTE is its wake cause. -/
theorem takeReport_wakes {cls code : Nat} {severity : Severity} (s : State) (detail : Int)
    (named : severity.Names cls code) (notNote : severity ≠ .note) :
    ∃ u, takeReport s cls code severity detail = wakeCause u ∧ Moves may s u := by
  refine ⟨_, if_neg notNote, ?_⟩
  have tripped : Moves may s (if severity.trips then tripThread (addCause s cls code) else s) := by
    split
    case isTrue trips => exact trip_moves (.refl s) (named trips)
    case isFalse => exact .refl s
  exact (enterRecord_moves tripped).then (.link (.offerNotice ..))

theorem addressClash_quietKept (h : s.QuietClear) : (addressClash s).QuietKept := by
  have silenced : (silence s).QuietClear := by
    rw [silence_eq]
    exact h
  have silent : (silence s).link.state = .silent := by rw [silence_eq]; rfl
  obtain ⟨u, wakes, moves⟩ := takeReport_wakes (may := fun _ => False) (cls := clsLink) (code := 1)
    (severity := .tripThread)
    (silence s) s.own (fun _ => isCause_of_mem (by decide)) (by simp)
  rw [addressClash_report, wakes]
  refine wakeCause_silent ?_ (moves.keep Move.quietClear silenced)
  have kept := moves.framed.state (by simp [silent]) (by simp [silent])
  simpa [silent] using kept

/-- Settles O60: each move keeps the rules of the quiet state; joining finds the station ACTIVE, and the wake cause of
the clash ends a quiet state. -/
theorem quietRulesKept : Obligations.QuietRulesKept := by
  intro s t h done
  refine step_keeps (P := State.QuietKept) (fun _ _ _ h => h) (fun _ _ => ?_) (fun {c s t} done notReset h => ?_) h done
  · exact ⟨fun away => absurd rfl away, fun quiet => absurd (show QuietState.active = .quiet from quiet) (by simp),
      fun _ => ⟨rfl, rfl, rfl⟩⟩
  · by_cases joins : ∃ d i o, c = .listenTimeout d i o
    · obtain ⟨d, i, o, rfl⟩ := joins
      cases Host.Outcome.next.inj done
      by_cases listening : s.link.state = .listen
      · have active : s.quiet.state = .active := by_contra fun away => by simpa [listening] using (h.1 away).1
        have moves : Moves (· ≠ .joining) s (listenTimeout s d i o) :=
          listenTimeout_moves (.refl s) d i o (by simp) (by simp) (by simp) (.inr active)
        exact moves.keep (fun move => move.quietKept (by simp)) h
      · have left : listenTimeout s d i o = s := if_neg fun ready => listening ready.2.1
        exact left.symm ▸ h
    · have still : .joining ∉ c.parts := fun may => joins (joining_mem_parts.mp may)
      cases does_of_exec done notReset with
      | moves moves => exact moves.keep (fun move => move.quietKept still) h
      | clash moves => exact addressClash_quietKept (moves.keep (fun move => move.quietKept still) h).2.2

end Sys2Proof.Machine
end

section
/-! The ranges of the cadence (R24, R31, R33, R34) and the own entry (R41) as invariants. -/
namespace Sys2Proof.Machine
variable {may : Part → Prop} {s t : State}

/-! ## The carrier offsets (R33) -/

theorem carrierOffset_lt {rank members : Nat} (member : rank < members) : carrierOffset rank members < 16000 :=
  Nat.div_lt_of_lt_mul (by simp only [Config.carrierCounts]; omega)

/-- R33: neighbours stand one N-th of a carrier period apart, within one count of rounding. -/
theorem carrierOffset_spacing (rank members : Nat) (some : 0 < members) :
    carrierOffset rank members + 16000 / members ≤ carrierOffset (rank + 1) members ∧
    carrierOffset (rank + 1) members ≤ carrierOffset rank members + 16000 / members + 1 := by
  have next : carrierOffset (rank + 1) members = (rank * 16000 + 16000) / members := by
    rw [carrierOffset, Nat.add_mul, Nat.one_mul, Config.carrierCounts]
  have here : carrierOffset rank members = rank * 16000 / members := rfl
  rw [next, here, Nat.add_div some]
  split <;> omega

/-- R33: a station that switches is in its own switching set, so that fewer than all stand before it. -/
theorem State.nextOffset_lt (s : State) (number : s.own ≤ 7) : s.nextOffset < Config.carrierCounts := by
  unfold State.nextOffset
  split
  case isFalse => decide
  case isTrue switching =>
    by_cases none : s.own = 0
    · simp [State.carrierRank, none, carrierOffset, Config.carrierCounts]
    · refine carrierOffset_lt ?_
      unfold State.carrierRank
      refine List.length_filter_lt_length_iff_exists.mpr ⟨s.own, ?_, by simp⟩
      obtain ⟨e, entry⟩ : ∃ e, (s.own, e) ∈ s.table.threads.toList := by
        have cases : s.own = 1 ∨ s.own = 2 ∨ s.own = 3 ∨ s.own = 4 ∨ s.own = 5 ∨ s.own = 6 ∨ s.own = 7 := by omega
        rcases cases with h | h | h | h | h | h | h <;> simp [PerThread.toList, h]
      exact List.mem_map.mpr ⟨(s.own, e), List.mem_filter.mpr ⟨entry, by simpa [State.switches] using switching⟩, rfl⟩

/-! ## The ranges kept -/

theorem cadenceKept_iff : s.CadenceKept ↔ s.own ≤ 7 ∧ s.cadence.Ranged := Iff.rfl

theorem CadenceUnit.Ranged.seeking {c d : CadenceUnit} (h : c.Ranged) (latched : d.latchedOffset = c.latchedOffset)
    (pending : d.pendingOffset = c.pendingOffset) (count : d.count = c.count) (none : d.seekCount = 0) : d.Ranged := by
  obtain ⟨a, b, c, -, -⟩ := h
  exact ⟨latched ▸ a, pending ▸ b, count ▸ c, by simp [none], fun _ => by rw [none]; decide⟩

theorem CadenceUnit.Ranged.untimed {c : CadenceUnit} (h : c.Ranged) (t : Timer) (o : Bool) :
    CadenceUnit.Ranged { c with timer := t, overdue := o } := h

theorem CadenceUnit.initial_ranged : CadenceUnit.initial.Ranged :=
  ⟨by decide, by decide, by decide, by decide, fun _ => by decide⟩

theorem QuietMove.ranged (move : QuietMove may s t) (h : s.cadence.Ranged) : t.cadence.Ranged := by
  cases move with
  | wakeCause =>
    unfold Machine.wakeCause
    (repeat' split) <;> first | exact h | exact h.seeking rfl rfl rfl rfl
  | quietTest =>
    unfold Machine.quietTest
    split
    · exact h.untimed none false
    · exact h
  | returnToActive => exact h.seeking rfl rfl rfl rfl
  | control | order | timer => exact h

theorem Move.cadenceKept (move : Move may s t) (h : s.CadenceKept) : t.CadenceKept := by
  obtain ⟨number, ranged⟩ := cadenceKept_iff.mp h
  cases move with
  | plain same => rw [same]; exact h
  | record => exact h
  | link move => rw [move.footprint]; exact h
  | thread move => rw [move.footprint]; exact h
  | quiet move => exact cadenceKept_iff.mpr ⟨by rw [move.footprint]; exact number, move.ranged ranged⟩
  | cadence move =>
    cases move with
    | unit c kept => exact cadenceKept_iff.mpr ⟨number, kept ranged⟩
    | latchOffset =>
      obtain ⟨-, pending, rest⟩ := ranged
      exact cadenceKept_iff.mpr ⟨number, pending, s.nextOffset_lt number, rest⟩
  | yaw move => rw [move.footprint]; exact h
  | block move => cases move <;> exact h
  | state move =>
    cases move with
    | join => exact h
    | reject => exact cadenceKept_iff.mpr ⟨Nat.zero_le 7, ranged⟩
    | accept image _ accepted =>
      simp only [imageAccepted, decide_eq_true_eq] at accepted
      exact cadenceKept_iff.mpr ⟨accepted.2.2.2, ranged.seeking rfl rfl rfl rfl⟩

/-! ## The own entry kept -/

theorem State.OwnEntryKept.congr (h : s.OwnEntryKept) (link : t.link.state = s.link.state)
    (entry : t.table.threads.get? t.own = s.table.threads.get? s.own) : t.OwnEntryKept := by
  unfold State.OwnEntryKept
  rwa [link, entry]

theorem PerThread.get?_isSome {α : Type} (p : PerThread α) {n : Nat} (low : 1 ≤ n) (high : n ≤ 7) :
    ∃ a, p.get? n = some a := by
  have cases : n = 1 ∨ n = 2 ∨ n = 3 ∨ n = 4 ∨ n = 5 ∨ n = 6 ∨ n = 7 := by omega
  rcases cases with rfl | rfl | rfl | rfl | rfl | rfl | rfl <;> exact ⟨_, rfl⟩

theorem Move.ownEntryKept (move : Move may s t) (h : s.OwnEntryKept) : t.OwnEntryKept := by
  cases move with
  | plain same => rw [same]; exact h
  | record => exact h
  | link move =>
    have same := move.footprint
    exact h.congr move.state (by rw [same]; rfl)
  | thread move => rw [move.footprint]; exact h
  | quiet move => rw [move.footprint]; exact h
  | cadence move => rw [move.footprint]; exact h
  | yaw move => rw [move.footprint]; exact h
  | block move =>
    cases move with
    | threads p own => exact h.congr rfl own
    | ownRecord e record tag own =>
      intro on
      obtain ⟨e', entry, role, live, age⟩ := h on
      obtain rfl : e = e' := Option.some.inj (own.symm.trans entry)
      exact ⟨{ e with record := record, lastTag := tag }, (PerThread.get?_set_self ..).trans (congrArg _ own),
        role, live, age⟩
    | _ => exact h
  | state move =>
    cases move with
    | join listening => exact fun _ => h (.inl listening)
    | reject => exact fun on => by simp [rejectImage] at on
    | accept image _ accepted =>
      intro _
      simp only [imageAccepted, decide_eq_true_eq] at accepted
      obtain ⟨-, -, low, high⟩ := accepted
      obtain ⟨e, entry⟩ := s.table.threads.get?_isSome low high
      exact ⟨ownEntry, (PerThread.get?_set_self ..).trans (congrArg _ entry), rfl, rfl, rfl⟩

/-- Settles O19: the moves of the Cadence Unit keep its ranges, a new offset is below a carrier period, and the own
entry is written with its state and age as they stand. -/
theorem cadenceRangesAndOwnEntryKept : Obligations.CadenceRangesAndOwnEntryKept := by
  refine ⟨fun s t h done => ?ranges, fun s t h done => ?entry, fun n rank low high => ⟨?_, fun _ => ?_, ?_⟩⟩
  case ranges =>
    refine step_keeps_of_moves (P := State.CadenceKept) (fun _ _ _ h => h) (fun _ _ => ?_) Move.cadenceKept
      (fun {s} h => ?_) h done
    · exact cadenceKept_iff.mpr ⟨Nat.zero_le 7, CadenceUnit.initial_ranged⟩
    · rw [silence_eq]
      exact h
  case entry =>
    refine step_keeps (P := State.OwnEntryKept) (fun _ _ _ h => h) (fun _ _ => ?_) (fun done notReset h => ?_) h done
    · exact fun on => by simp [resetBlocks, State.reset, LinkControl.initial] at on
    · cases does_of_exec done notReset with
      | moves moves => exact moves.keep Move.ownEntryKept h
      | @clash u moves on =>
        have before := moves.keep Move.ownEntryKept h
        refine (addressClash_moves (may := fun _ => True) u).keep Move.ownEntryKept ?_
        rw [silence_eq]
        exact fun _ => before (on.imp_right .inl)
  · exact carrierOffset_lt
  · exact carrierOffset_spacing rank n low
  · simp [carrierOffset]

end Sys2Proof.Machine
end

section
/-! Yaw: the rules of the session's outputs (R139, R141, R143, R145, R147) as an invariant. -/
namespace Sys2Proof.Machine
variable {may : Part → Prop} {s t u : State}

/-! ## The motors that run (R141) -/

/-- The number of motor outputs that are on. -/
def PerMotor.running (ms : PerMotor MotorOutput) : Nat := ([1, 2, 3, 4].filter (fun m => ms.get? m != some .off)).length

theorem PerMotor.running_set_le (ms : PerMotor MotorOutput) (m : Nat) (o : MotorOutput) :
    (ms.set m o).running ≤ ms.running + 1 := by
  unfold PerMotor.set PerMotor.running
  split <;> simp only [List.filter_cons, List.filter_nil, PerMotor.get?] <;> split_ifs <;>
    simp only [List.length_cons, List.length_nil] <;> omega

theorem PerMotor.running_foldl_le (o : MotorOutput) (l : List Nat) (ms : PerMotor MotorOutput) :
    (l.foldl (fun ms m => ms.set m o) ms).running ≤ ms.running + l.length := by
  induction l generalizing ms with
  | nil => exact le_rfl
  | cons m rest ih =>
    have first := ms.running_set_le m o
    have others := ih (ms.set m o)
    simp only [List.foldl_cons, List.length_cons]
    omega

theorem State.drivenMotors_running (s : State) : s.drivenMotors.running ≤ s.yaw.session.runCount := by
  have counted := PerMotor.running_foldl_le s.yaw.session.direction.output
    (s.readyMotors.take s.yaw.session.runCount) (PerMotor.all .off)
  have none : (PerMotor.all MotorOutput.off).running = 0 := by decide
  have taken := List.length_take_le s.yaw.session.runCount s.readyMotors
  unfold State.drivenMotors
  omega

/-! ## The rules of the outputs -/

/-- R141, R145, R147: the part of the rules that does not read the brakes' feedback and the shared twist. -/
structure State.YawHeld (s : State) : Prop where
  joined : s.yaw.state ≠ .idle → s.isJoined = true
  motors : s.yaw.state ≠ .driving → s.yaw.motors = PerMotor.all .off
  running : s.yaw.state = .driving → s.yaw.motors.running ≤ s.yaw.session.runCount
  release : s.yaw.release = true →
    (s.yaw.state = .releasing ∨ s.yaw.state = .driving ∨ s.yaw.state = .stopping) ∧ s.yaw.applyWait = none

/-- R139, R143: the part that reads them. -/
def State.DriveSafe (s : State) : Prop :=
  s.yaw.state = .driving → s.pins.brakesReleased = true ∧
    twistReached s.yaw.session.mode s.yaw.session.direction s.wind.sharedTwist = false

theorem yawKept_iff : s.YawKept ↔ s.YawHeld ∧ s.DriveSafe :=
  ⟨fun ⟨a, b, c, d⟩ => ⟨⟨a, b, fun on => (c on).2.1, d⟩, fun on => ⟨(c on).1, (c on).2.2⟩⟩,
   fun ⟨⟨a, b, c, d⟩, e⟩ => ⟨a, b, fun on => ⟨(e on).1, c on, (e on).2⟩, d⟩⟩

theorem State.YawHeld.congr (h : s.YawHeld) (yaw : t.yaw = s.yaw) (joined : t.isJoined = s.isJoined) : t.YawHeld := by
  obtain ⟨a, b, c, d⟩ := h
  exact ⟨by rwa [yaw, joined], by rwa [yaw], by rwa [yaw], by rwa [yaw]⟩

/-- A session not in Y_RELEASING, Y_DRIVING or Y_STOPPING has its brakes commanded to apply. -/
theorem State.YawHeld.braked (h : s.YawHeld) (early : s.yaw.state = .idle ∨ s.yaw.state = .proposing ∨
    s.yaw.state = .joined) :
    s.yaw.release = false := by
  by_contra released
  have late := (h.release (by simpa using released)).1
  rcases early with e | e | e <;> simp [e] at late

/-- The yaw state after the moves of a session that leave Y_DRIVING or do not enter it. -/
theorem State.YawHeld.undriven (joined : t.yaw.state ≠ .idle → t.isJoined = true)
    (motors : t.yaw.motors = PerMotor.all .off) (other : t.yaw.state ≠ .driving)
    (release : t.yaw.release = true →
      (t.yaw.state = .releasing ∨ t.yaw.state = .driving ∨ t.yaw.state = .stopping) ∧ t.yaw.applyWait = none) :
    t.YawHeld :=
  ⟨joined, fun _ => motors, fun on => absurd on other, release⟩

theorem YawMove.yawHeld (move : YawMove may s t) (h : s.YawHeld) : t.YawHeld := by
  cases move with
  | session x undriven => exact ⟨h.joined, h.motors, fun on => absurd on undriven, h.release⟩
  | motorsOff => exact ⟨h.joined, fun _ => rfl, fun _ => Nat.zero_le _, h.release⟩
  | applyBrakes => exact ⟨h.joined, h.motors, h.running, fun on => Bool.noConfusion on⟩
  | idle braked =>
    have applied : s.yaw.release = false := by
      rcases braked with early | early | applied | waiting
      · exact h.braked (.inr (.inl early))
      · exact h.braked (.inr (.inr early))
      · exact applied
      · by_contra released
        simp [(h.release (by simpa using released)).2] at waiting
    rw [setYaw_eq]
    exact .undriven (fun busy => absurd rfl busy) rfl (by simp) (fun on => absurd (applied.symm.trans on) (by simp))
  | propose joined idle | join joined idle =>
    rw [setYaw_eq]
    exact .undriven (fun _ => joined) (h.motors (by simp [idle])) (by simp)
      (fun on => absurd ((h.braked (.inl idle)).symm.trans on) (by simp))
  | releasing ready =>
    have busy : s.yaw.state ≠ .idle := by rcases ready with r | r <;> simp [r]
    have still : s.yaw.state ≠ .driving := by rcases ready with r | r <;> simp [r]
    unfold Machine.enterReleasing
    rw [setYaw_eq]
    exact .undriven (fun _ => h.joined busy) (h.motors still) (by simp) (fun _ => ⟨.inl rfl, rfl⟩)
  | driving _ releasing =>
    unfold Machine.enterDriving
    rw [setYaw_eq]
    exact ⟨fun _ => h.joined (by simp [releasing]), fun other => absurd rfl other, fun _ => s.drivenMotors_running,
      fun _ => ⟨.inr (.inl rfl), rfl⟩⟩
  | stopping inSession =>
    have busy : s.yaw.state ≠ .idle := by intro idle; simp [State.inSession, idle] at inSession
    unfold Machine.enterStopping
    rw [setYaw_eq]
    exact .undriven (fun _ => h.joined busy) rfl (by simp) (fun _ => ⟨.inr (.inr rfl), rfl⟩)

theorem Move.yawHeld (move : Move may s t) (h : s.YawHeld) : t.YawHeld := by
  cases move with
  | plain same =>
    rw [same]
    exact ⟨h.joined, h.motors, h.running, h.release⟩
  | record => exact h.congr rfl rfl
  | link move =>
    have same := move.footprint
    exact h.congr (by rw [same]) (isJoined_congr (by rw [same]) move.state)
  | thread move => rw [move.footprint]; exact h.congr rfl rfl
  | quiet move => rw [move.footprint]; exact h.congr rfl rfl
  | cadence move => rw [move.footprint]; exact h.congr rfl rfl
  | yaw move => exact move.yawHeld h
  | block move => cases move <;> exact h.congr rfl rfl
  | state move =>
    have idle (other : s.link.state ≠ .joined) : s.yaw.state = .idle :=
      by_contra fun busy => by simpa [State.isJoined, other] using h.joined busy
    cases move with
    | join listening =>
      have idle := idle (by simp [listening])
      exact ⟨fun busy => absurd idle busy, h.motors, h.running, h.release⟩
    | reject image unread =>
      have idle := idle (by simp [unread])
      exact ⟨fun busy => absurd idle busy, h.motors, h.running, h.release⟩
    | accept image unread =>
      have idle := idle (by simp [unread])
      exact ⟨fun busy => absurd idle busy, h.motors, h.running, h.release⟩

/-- R147: the clash leaves no session and no output driven. -/
theorem State.YawHeld.silenced (h : s.YawHeld) : (silence s).YawHeld := by
  have idle := silence_state s
  have outputs : (silence s).yaw.motors = PerMotor.all .off ∧ (silence s).yaw.release = false := by
    by_cases was : s.yaw.state = .idle
    · unfold silence
      rw [endLocally_idle (s := goSilent s) was]
      exact ⟨h.motors (by simp [was]), h.braked (.inl was)⟩
    · exact endLocally_outputs (s := goSilent s) was
  exact .undriven (fun busy => absurd idle busy) outputs.1 (by simp)
    (fun on => absurd (outputs.2.symm.trans on) (by simp))

theorem State.DriveSafe.undriven (other : s.yaw.state ≠ .driving) : s.DriveSafe := fun on => absurd on other

theorem enterDriving_safe (may' : s.mayDrive = true) : (enterDriving s).DriveSafe := by
  simp only [State.mayDrive, Bool.and_eq_true, Bool.not_eq_true'] at may'
  intro _
  unfold Machine.enterDriving
  rw [setYaw_eq]
  exact ⟨may'.1.1, may'.2⟩

theorem YawMove.driveSafe (move : YawMove may s t) (h : s.DriveSafe) : t.DriveSafe := by
  cases move with
  | session x undriven => exact .undriven undriven
  | motorsOff | applyBrakes => exact h
  | idle | propose | join => exact .undriven (by simp)
  | releasing => exact .undriven (by simp [Machine.enterReleasing])
  | driving _ _ able => exact enterDriving_safe able
  | stopping => exact .undriven (by simp [Machine.enterStopping])

/-- A move that writes neither the brakes' feedback nor the shared twist. -/
theorem Move.driveSafe (move : Move may s t) (brakes : ¬may .brakes) (twist : ¬may .twist) (h : s.DriveSafe) :
    t.DriveSafe := by
  cases move with
  | plain same => rw [same]; exact h
  | record => exact h
  | link move => rw [move.footprint]; exact h
  | thread move => rw [move.footprint]; exact h
  | quiet move => rw [move.footprint]; exact h
  | cadence move => rw [move.footprint]; exact h
  | yaw move => exact move.driveSafe h
  | block move =>
    cases move with
    | pins p same =>
      intro on
      exact ⟨same.trans (h on).1, (h on).2⟩
    | brakes p feeds => exact absurd feeds brakes
    | wind w same =>
      intro on
      exact ⟨(h on).1, by simpa only [same] using (h on).2⟩
    | sharedTwist w winds shares => exact absurd shares twist
    | _ => exact h
  | state move => cases move <;> exact h

/-! ## The two commands that write the feedback and the twist -/

theorem stopSession_state (s : State) : (stopSession s).yaw.state = .stopping := by
  simp [stopSession, enterStopping]

theorem judgeDriving_safe (released : s.DriveSafe) : (judgeDriving s).DriveSafe := by
  unfold judgeDriving
  split
  case isTrue ready => exact enterDriving_safe ready.2
  case isFalse => exact released

/-- R143: judged on a new shared twist, a session that drives has the twist short of the limit. -/
theorem judgeTwist_safe (released : s.yaw.state = .driving → s.pins.brakesReleased = true) :
    (judgeTwist s).DriveSafe := by
  unfold judgeTwist
  split
  · exact .undriven (by simp [stopSession_state])
  case isFalse short =>
    refine judgeDriving_safe fun driving => ⟨released driving, ?_⟩
    simpa [State.inSession, driving] using short

theorem judgeBrakes_safe (h : s.yaw.state = .driving →
    twistReached s.yaw.session.mode s.yaw.session.direction s.wind.sharedTwist = false) :
      (judgeBrakes s).DriveSafe := by
  unfold judgeBrakes
  split
  case h_1 releasing => exact judgeDriving_safe (.undriven (by simp [releasing]))
  case h_2 driving =>
    split
    case isTrue released => exact fun on => ⟨released, h on⟩
    case isFalse => exact .undriven (by simp [stopSession_state])
  case h_3 stopping =>
    split
    · exact .undriven (by simp [finishStopping, enterIdle])
    · exact .undriven (by simp [stopping])
  case h_4 idle | h_5 idle | h_6 idle => exact .undriven (by simp [idle])

theorem shareValues_frame (s : State) : (shareValues s).yaw = s.yaw ∧ (shareValues s).pins = s.pins ∧
    (shareValues s).table = s.table := by
  unfold shareValues
  dsimp only
  split <;> exact ⟨rfl, rfl, rfl⟩

theorem updateStorm_twist (s : State) : (updateStorm s).wind.sharedTwist = s.wind.sharedTwist :=
  (updateStorm_moves (may := (· = .wind)) (.refl s) rfl).framed.twist (by simp)

theorem windEvaluation_safe (encoder : Option Int) (h : s.DriveSafe) : (windEvaluation s encoder).DriveSafe := by
  unfold windEvaluation
  split
  case isFalse => exact h
  case isTrue =>
    rw [windStages_eq, formShared_eq]
    generalize begun : ownStages _ encoder = u
    have own : Moves (· = .wind) s u := by
      have timed : Moves (· = Part.wind) s { s with wind :=
        { s.wind with timer := s.wind.timer.again Config.evaluation } } :=
        wind_moves (.refl s) rfl rfl
      exact begun ▸ ownStages_moves timed encoder rfl
    have safe : u.DriveSafe := own.keep (fun move => move.driveSafe (by simp) (by simp)) h
    obtain ⟨yaw, pins, -⟩ := shareValues_frame u
    have judged : (judgeTwist (shareValues u)).DriveSafe :=
      judgeTwist_safe fun driving => pins ▸ (safe (yaw ▸ driving)).1
    intro on
    rw [updateStorm_twist]
    exact judged on

theorem brakeFeedback_safe (released : Bool) (h : s.YawKept) : (brakeFeedback s released).DriveSafe := by
  obtain ⟨held, safe⟩ := yawKept_iff.mp h
  unfold brakeFeedback
  dsimp only
  split
  · exact judgeBrakes_safe fun driving => (safe driving).2
  case isFalse out => exact .undriven fun driving =>
                        out (held.joined (by simp [show s.yaw.state = .driving from driving]))

/-! ## The entry into Y_DRIVING (R139) -/

/-- R139: the session was in Y_RELEASING, and its conditions for driving are met. -/
def State.DriveStarts (s t : State) : Prop :=
  s.yaw.state = .releasing ∧ t.yaw.session = s.yaw.session ∧ t.pins.brakesReleased = true ∧
  twistReached t.yaw.session.mode t.yaw.session.direction t.wind.sharedTwist = false ∧
  ∀ p ∈ t.yaw.session.allocation, p.1 ≠ t.own → ∃ e r, t.table.threads.get? p.1 = some e ∧ e.record = some r ∧
    r.proposer = t.yaw.session.proposer ∧ r.sessionTag = t.yaw.session.tag ∧
    ((r.yawCode = 3 ∧ r.brakesReleased = true) ∨ r.yawCode = 4)

theorem State.DriveStarts.of_yaw (h : u.DriveStarts t) (yaw : u.yaw = s.yaw) : s.DriveStarts t := by
  unfold State.DriveStarts
  rw [← yaw]
  exact h

theorem Session.released_iff (x : Session) (r : StatusRecord) : x.released r = true ↔
    r.proposer = x.proposer ∧ r.sessionTag = x.tag ∧ ((r.yawCode = 3 ∧ r.brakesReleased = true) ∨ r.yawCode = 4) := by
  have code : (match YawState.ofCode r.yawCode with
      | some .releasing => r.brakesReleased
      | some .driving => true
      | _ => false) = true ↔ (r.yawCode = 3 ∧ r.brakesReleased = true) ∨ r.yawCode = 4 := by
    rcases r.yawCode with _ | _ | _ | _ | _ | _ | n <;> simp [YawState.ofCode]
  simp only [Session.released, Session.bornBy, Bool.and_eq_true, beq_iff_eq, and_assoc]
  exact and_congr_right fun _ => and_congr_right fun _ => code

/-- R139: a participant's record shows it ready to drive. -/
theorem State.mayDrive_participant (able : s.mayDrive = true) {p : Nat × Nat} (mem : p ∈ s.yaw.session.allocation)
    (other : p.1 ≠ s.own) : ∃ e r, s.table.threads.get? p.1 = some e ∧ e.record = some r ∧
      s.yaw.session.released r = true := by
  simp only [State.mayDrive, Bool.and_eq_true, List.all_eq_true] at able
  have member : p.1 ∈ s.otherParticipants := by
    simpa [State.otherParticipants, other] using ⟨p.2, mem⟩
  have shown := able.1.2 _ member
  simp only [State.recordOf] at shown
  cases entry : s.table.threads.get? p.1 with
  | none => simp [entry] at shown
  | some e =>
    cases record : e.record with
    | none => simp [entry, record] at shown
    | some r => exact ⟨e, r, rfl, record, by simpa [entry, record] using shown⟩

theorem judgeDriving_starts (undriven : s.yaw.state ≠ .driving) (driving : (judgeDriving s).yaw.state = .driving) :
    s.DriveStarts (judgeDriving s) := by
  unfold judgeDriving at driving ⊢
  split
  case isFalse waits =>
    rw [if_neg waits] at driving
    exact absurd driving undriven
  case isTrue ready =>
    obtain ⟨releasing, able⟩ := ready
    have conditions := able
    simp only [State.mayDrive, Bool.and_eq_true, Bool.not_eq_true'] at conditions
    unfold enterDriving
    rw [setYaw_eq]
    refine ⟨releasing, rfl, conditions.1.1, conditions.2, fun p mem other => ?_⟩
    obtain ⟨e, r, entry, record, released⟩ := State.mayDrive_participant able mem other
    exact ⟨e, r, entry, record, (Session.released_iff _ r).mp released⟩

theorem judgeTwist_starts (undriven : s.yaw.state ≠ .driving) (driving : (judgeTwist s).yaw.state = .driving) :
    s.DriveStarts (judgeTwist s) := by
  unfold judgeTwist at driving ⊢
  split
  case isTrue limit =>
    rw [if_pos limit, stopSession_state] at driving
    cases driving
  case isFalse short =>
    rw [if_neg short] at driving
    exact judgeDriving_starts undriven driving

theorem judgeStatus_starts (n : Nat) (undriven : s.yaw.state ≠ .driving)
    (driving : (judgeStatus s n).yaw.state = .driving) :
    s.DriveStarts (judgeStatus s n) := by
  unfold judgeStatus at driving ⊢
  split
  case h_1 none =>
    simp only [none] at driving
    exact absurd driving undriven
  case h_2 r found =>
    simp only [found] at driving
    split
    case isTrue stops =>
      rw [if_pos stops, stopSession_state] at driving
      cases driving
    case isFalse goes =>
      rw [if_neg goes] at driving
      split
      case isTrue party =>
        rw [if_pos party] at driving
        exact judgeDriving_starts undriven driving
      case isFalse stranger =>
        rw [if_neg stranger] at driving
        exact absurd driving undriven

/-- R143, R157: barred by a PLANT cause, no session is in Y_RELEASING or Y_DRIVING. -/
theorem barSession_state (s : State) : (barSession s).yaw.state = .idle ∨ (barSession s).yaw.state = .stopping := by
  unfold barSession
  split
  · exact .inl (by simp [abandon, enterIdle])
  · exact .inl (by simp [enterIdle])
  · exact .inr (stopSession_state s)
  · exact .inr (stopSession_state s)
  case h_5 idle => exact .inl idle
  case h_6 stopping => exact .inr stopping

/-- R157, R158: a nacelle trip taken from a peer leaves the session, or bars it. -/
theorem takeNacelleStatus_yaw (s : State) (n : Nat) : (takeNacelleStatus s n).yaw = s.yaw ∨
    (takeNacelleStatus s n).yaw.state = .idle ∨ (takeNacelleStatus s n).yaw.state = .stopping := by
  unfold takeNacelleStatus takeNacelleTrip
  dsimp only
  split
  · exact .inr (barSession_state _)
  · refine .inl ?_
    split <;> simp [markTaken]

theorem judgeStatus_nacelle_starts {nacelle : Bool} (n : Nat) (undriven : s.yaw.state ≠ .driving)
    (driving : (judgeStatus (if nacelle then takeNacelleStatus s n else s) n).yaw.state = .driving) :
    s.DriveStarts (judgeStatus (if nacelle then takeNacelleStatus s n else s) n) := by
  cases nacelle with
  | false => exact judgeStatus_starts n undriven driving
  | true =>
    rcases takeNacelleStatus_yaw s n with same | barred
    · exact (judgeStatus_starts n (by rwa [if_pos rfl, same]) driving).of_yaw same
    · have out : (takeNacelleStatus s n).yaw.state ≠ .driving := by rcases barred with b | b <;> simp [b]
      have starts : (takeNacelleStatus s n).yaw.state = .releasing := (judgeStatus_starts n out driving).1
      rcases barred with b | b <;> simp [starts] at b

theorem takeStatus_starts (n : Nat) (r : StatusRecord) (undriven : s.yaw.state ≠ .driving)
    (driving : (takeStatus s n r).yaw.state = .driving) : s.DriveStarts (takeStatus s n r) := by
  unfold takeStatus at driving ⊢
  split
  case h_1 none =>
    simp only [none] at driving
    exact absurd driving undriven
  case h_2 e found =>
    simp only [found] at driving
    dsimp only
    split
    case isTrue again =>
      rw [if_pos again] at driving
      exact absurd driving undriven
    case isFalse new =>
      rw [if_neg new] at driving
      generalize taken : { s with table := { s.table with threads := _ } } = t at driving ⊢
      have yaw : t.yaw = s.yaw := by rw [← taken]
      exact (judgeStatus_nacelle_starts n (yaw ▸ undriven) driving).of_yaw yaw

theorem countCorrection_yaw (c : Bool) (s : State) : (countCorrection c s).yaw = s.yaw := by
  unfold countCorrection
  split <;> rfl

theorem frameReceived_starts (levels : List Level) (undriven : s.yaw.state ≠ .driving)
    (driving : (frameReceived s levels).yaw.state = .driving) : s.DriveStarts (frameReceived s levels) := by
  rcases frameReceived_cases (may := (· ≠ .driving)) (.refl s) levels (by simp) (by simp) (by simp) (by simp) with
    moves | ⟨u, n, r, eq, -, -, from_⟩
  · exact absurd driving (moves.framed.undriven (by simp) undriven)
  · have yaw : u.yaw = s.yaw := from_ ▸ countCorrection_yaw _ _
    rw [eq] at driving ⊢
    unfold dispatchStatus at driving ⊢
    split
    case isTrue own =>
      rw [if_pos own] at driving
      split at driving
      · exact absurd driving (yaw ▸ undriven)
      · have idle := ((addressClash_moves (may := (· ≠ .driving)) u).framed).undriven (by simp) (by simp)
        exact absurd driving idle
    case isFalse other =>
      rw [if_neg other] at driving
      exact (takeStatus_starts n r (yaw ▸ undriven) driving).of_yaw yaw

theorem brakeFeedback_starts (released : Bool) (undriven : s.yaw.state ≠ .driving)
    (driving : (brakeFeedback s released).yaw.state = .driving) : s.DriveStarts (brakeFeedback s released) := by
  unfold brakeFeedback at driving ⊢
  dsimp only at driving ⊢
  split
  case isFalse out =>
    rw [if_neg out] at driving
    exact absurd driving undriven
  case isTrue joined =>
    rw [if_pos joined] at driving
    generalize fed : { s with pins := { s.pins with brakesReleased := released } } = t at driving ⊢
    have yaw : t.yaw = s.yaw := by rw [← fed]
    cases state : s.yaw.state with
    | releasing =>
      have judged : judgeBrakes t = judgeDriving t := by simp only [judgeBrakes, yaw, state]
      rw [judged] at driving ⊢
      exact (judgeDriving_starts (yaw ▸ undriven) driving).of_yaw yaw
    | driving => exact absurd state undriven
    | idle | proposing | joined | stopping =>
      have out : (judgeBrakes t).yaw.state ≠ .driving := by
        simp only [judgeBrakes, yaw, state]
        (repeat' split) <;> simp [yaw, state, finishStopping, enterIdle]
      exact absurd driving out

theorem closeVaneInterval_yaw (s : State) : (closeVaneInterval s).yaw = s.yaw := by
  unfold closeVaneInterval
  dsimp only
  (repeat' split) <;> simp

theorem readTwist_yaw (encoder : Option Int) (s : State) : (readTwist encoder s).yaw = s.yaw := by
  unfold readTwist
  dsimp only
  (repeat' split) <;> simp

theorem judgeSpeed_yaw (own : Nat) (s : State) : (judgeSpeed own s).yaw = s.yaw := by
  unfold judgeSpeed
  dsimp only
  (repeat' split) <;> simp

theorem closeAnemometerWindow_yaw (s : State) : (closeAnemometerWindow s).yaw = s.yaw := by
  unfold closeAnemometerWindow
  dsimp only
  (repeat' split) <;> simp [judgeSpeed_yaw]

theorem ownStages_yaw (encoder : Option Int) (s : State) : (ownStages s encoder).yaw = s.yaw := by
  simp [ownStages, closeAnemometerWindow_yaw, readTwist_yaw, closeVaneInterval_yaw]

theorem windEvaluation_starts (encoder : Option Int) (undriven : s.yaw.state ≠ .driving)
    (driving : (windEvaluation s encoder).yaw.state = .driving) : s.DriveStarts (windEvaluation s encoder) := by
  unfold windEvaluation at driving ⊢
  split
  case isFalse early =>
    rw [if_neg early] at driving
    exact absurd driving undriven
  case isTrue due =>
    rw [if_pos due] at driving
    rw [windStages_eq, formShared_eq] at driving ⊢
    generalize begun : shareValues _ = u at driving ⊢
    have yaw : u.yaw = s.yaw := by rw [← begun, (shareValues_frame _).1, ownStages_yaw]
    have starts : s.DriveStarts (judgeTwist u) := (judgeTwist_starts (yaw ▸ undriven) driving).of_yaw yaw
    unfold State.DriveStarts
    rw [updateStorm_twist]
    exact starts

/-- Settles O52: each move keeps the rules of the outputs; the brakes' feedback and the shared twist are judged where
they are written, and the driving is begun by their judging and by that of a status. -/
theorem yawDriveKeptSafe : Obligations.YawDriveKeptSafe := by
  refine ⟨fun s t h done => ?kept, fun c s t done undriven driving => ?starts⟩
  case kept =>
    refine step_keeps (P := State.YawKept) (fun _ _ _ h => h) (fun _ _ => ?_) (fun {c s t} done notReset h => ?_) h done
    · exact yawKept_iff.mpr ⟨⟨fun busy => absurd rfl busy, fun _ => rfl, fun _ => Nat.zero_le _,
        fun on => absurd (show false = true from on) (by simp)⟩,
          .undriven (by simp [resetBlocks, State.reset, YawControl.initial])⟩
    · obtain ⟨held, safe⟩ := yawKept_iff.mp h
      refine yawKept_iff.mpr ⟨?_, ?_⟩
      · cases does_of_exec done notReset with
        | moves moves => exact moves.keep Move.yawHeld held
        | @clash u moves =>
          have before := moves.keep Move.yawHeld held
          exact (addressClash_moves (may := fun _ => True) u).keep Move.yawHeld before.silenced
      · by_cases fed : ∃ r, c = .brakeFeedbackChange r
        · obtain ⟨r, rfl⟩ := fed
          cases Host.Outcome.next.inj done
          exact brakeFeedback_safe r h
        by_cases wind : ∃ e, c = .windEvaluation e
        · obtain ⟨e, rfl⟩ := wind
          cases Host.Outcome.next.inj done
          exact windEvaluation_safe e safe
        have brakes : .brakes ∉ c.parts := fun may => fed (brakes_mem_parts.mp may)
        have twist : .twist ∉ c.parts := fun may => wind (twist_mem_parts.mp may)
        cases does_of_exec done notReset with
        | moves moves => exact moves.keep (fun move => move.driveSafe brakes twist) safe
        | @clash u moves =>
          refine (addressClash_moves (may := fun _ => False) u).keep (fun move => move.driveSafe (by simp) (by simp)) ?_
          exact .undriven (by simp)
  case starts =>
    show s.DriveStarts t
    cases reset : c.isReset with
    | true =>
      rcases reset_cases reset done with rfl | ⟨r, rfl⟩
      · exact absurd driving undriven
      · exact absurd driving (by simp [resetBlocks, State.reset, YawControl.initial])
    | false =>
      by_cases drives : .driving ∈ c.parts
      · rcases driving_mem_parts.mp drives with ⟨levels, rfl⟩ | rfl | ⟨e, rfl⟩ <;> cases Host.Outcome.next.inj done
        · exact frameReceived_starts levels undriven driving
        · exact brakeFeedback_starts true undriven driving
        · exact windEvaluation_starts e undriven driving
      · exact absurd driving ((does_of_exec done reset).framed.undriven drives undriven)

end Sys2Proof.Machine
end

section
/-! The state after a power-on reset, and the evaluation of the Fault Unit (R158, R159, R161, R162). -/
namespace Sys2Proof.Machine
variable {may : Part → Prop} {s t u : State}

/-- Settles O5: the blocks at their reset values, each invariant by the values it reads. -/
theorem resetMeetsEveryInvariant : Obligations.ResetMeetsEveryInvariant := by
  refine ⟨⟨Nat.zero_le _, rfl, Nat.zero_le _, rfl⟩, queueKept_iff.mpr ⟨queueWithin_nil, fun _ => rfl⟩,
    ⟨by decide, fun _ => ⟨rfl, rfl⟩, fun _ => rfl⟩,
    ⟨List.nodup_nil, fun c held => absurd held List.not_mem_nil, fun _ => rfl, fun silent => by cases silent⟩, ?yaw,
    cadenceKept_iff.mpr ⟨Nat.zero_le 7, CadenceUnit.initial_ranged⟩,
    ⟨fun away => absurd rfl away, fun quiet => QuietState.noConfusion quiet, fun _ => ⟨rfl, rfl, rfl⟩⟩, ?own,
    rfl, rfl, rfl, rfl, rfl, rfl, rfl, rfl, rfl, rfl, rfl, rfl, rfl, rfl⟩
  case yaw =>
    exact ⟨fun busy => absurd rfl busy, fun _ => rfl, fun driving => (by cases driving), fun on => (by cases on)⟩
  case own => exact fun on => by rcases on with l | l | l <;> cases l

/-! ## Records -/

/-- R166: a record entered while the log is short of its last number. -/
theorem logged_of_log {origin cls code severity action : Nat} {detail : Option Int} {noticeNumber : Option Nat}
    (below : s.log.newest < Config.lastSequence)
    (log : t.log = s.log.enter s.now origin cls code severity action detail noticeNumber) :
    s.Logged t origin cls code severity action detail noticeNumber := by
  unfold State.Logged
  rw [log]
  exact FaultLog.enter_newest _ _ _ _ _ _ _ _ _ below

/-! ## The evaluation (R161) -/

/-- R161, steps 1 and 2: the causes an evaluation leaves. -/
def State.evaluatedCauses (s : State) : List Cause :=
  let causes := if s.nacelleView = [] then endConditionIn clsPlant 6 s.fault.causes else s.fault.causes
  if s.fault.pendingAck.isSome then causes.filter (fun c => !c.finished) else causes

/-- R161: the state before the release is judged. -/
def State.evaluated (s : State) : State :=
  { s with fault := { s.fault with
      timer := s.fault.timer.again Config.evaluation
      taken := s.fault.taken.map (fun n m => m && decide (n ∈ s.nacelleView))
      causes := s.evaluatedCauses } }

theorem faultEvaluation_due {t0 : Nat} (on : s.running = true) (timer : s.fault.timer = some t0)
    (due : t0 + Config.evaluation ≤ s.now) : faultEvaluation s = releaseThread s.evaluated := by
  unfold faultEvaluation
  rw [if_pos ⟨on, (Timer.reached_iff ..).mpr ⟨t0, timer, due⟩⟩]
  congr 1
  unfold removeEnded clearTaken State.evaluated State.evaluatedCauses
  have view : ({ s with fault := { s.fault with timer := s.fault.timer.again Config.evaluation } } :
    State).nacelleView =
    s.nacelleView := rfl
  rw [view]
  split <;> split <;> simp_all [endCondition]

/-- R161, R95: the release. -/
theorem releaseThread_of (ack : s.fault.pendingAck.isSome = true) (tripped : s.thread.state = .tripped)
    (none : s.fault.causes = []) : releaseThread s =
      reportNote { enterOff s with fault := { (enterOff s).fault with pendingAck := Option.none } } clsPlant 7 0 :=
  if_pos ⟨ack, tripped, none⟩

theorem endConditionIn_absent {cls code : Nat} {l : List Cause} (absent : ∀ c ∈ l, (c.cls, c.code) ≠ (cls, code)) :
    endConditionIn cls code l = l := by
  induction l with
  | nil => rfl
  | cons c rest ih =>
    unfold endConditionIn
    rw [if_neg (fun same => absent c List.mem_cons_self (Prod.ext same.1 same.2)),
      ih fun d mem => absent d (List.mem_cons_of_mem _ mem)]

/-- R153: the end of one condition leaves a cause of another key. -/
theorem mem_endConditionIn {cls code : Nat} {l : List Cause} {c : Cause} (mem : c ∈ l)
    (apart : (c.cls, c.code) ≠ (cls, code)) : c ∈ endConditionIn cls code l := by
  induction l with
  | nil => contradiction
  | cons d rest ih =>
    unfold endConditionIn
    rcases List.mem_cons.mp mem with rfl | later
    · rw [if_neg (fun same => apart (Prod.ext same.1 same.2))]
      exact List.mem_cons_self
    · split
      · split
        · exact later
        · exact List.mem_cons_of_mem _ later
      · exact List.mem_cons_of_mem _ (ih later)

/-- R153: a condition that stands once is taken out by its end. -/
theorem endConditionIn_removes {cls code : Nat} {l : List Cause} (nodup : (l.map fun c => (c.cls, c.code)).Nodup)
    (condition : ∀ c ∈ l, (c.cls, c.code) = (cls, code) → c.kind = .condition) :
    (endConditionIn cls code l).any (fun c => c.cls == cls && c.code == code) = false := by
  induction l with
  | nil => rfl
  | cons c rest ih =>
    simp only [List.map_cons, List.nodup_cons] at nodup
    unfold endConditionIn
    split
    case isTrue same =>
      have kind := condition c List.mem_cons_self (Prod.ext same.1 same.2)
      simp only [kind]
      rw [List.any_eq_false]
      intro d mem key
      simp only [Bool.and_eq_true, beq_iff_eq] at key
      exact nodup.1 (List.mem_map.mpr ⟨d, mem, by rw [key.1, key.2, same.1, same.2]⟩)
    case isFalse other =>
      rw [List.any_cons, ih nodup.2 (fun d mem => condition d (List.mem_cons_of_mem _ mem)), Bool.or_false]
      simpa using other

theorem enterOff_eq (s : State) : enterOff s = { s with
    thread := { s.thread with state := .off, stateTimer := none, restartHold := some s.now },
    table := { s.table with changePending := (enterOff s).table.changePending } } := by
  unfold enterOff
  rw [setThread_eq]

/-- What the release leaves (R161, R95). -/
theorem releaseThread_state (ack : s.fault.pendingAck.isSome = true) (tripped : s.thread.state = .tripped)
    (none : s.fault.causes = []) :
    (releaseThread s).thread.state = .off ∧ (releaseThread s).thread.restartHold = some s.now ∧
    (releaseThread s).fault = { s.fault with pendingAck := Option.none } ∧
    (releaseThread s).log = s.log.enter s.now s.own clsPlant 7 0 1 (some 0) Option.none := by
  rw [releaseThread_of ack tripped none, enterOff_eq]
  exact ⟨rfl, rfl, rfl, rfl⟩

/-- Settles O54: the causes an evaluation leaves, the release where none is left, and a TRIPPED thread left by no other
command. -/
theorem acknowledgementsReleaseOrLapse : Obligations.AcknowledgementsReleaseOrLapse := by
  refine ⟨fun s t0 on timer => ⟨fun early => ?early, fun due tripped ack ended below => ?release,
    fun due ack held => ?held,
    fun due none => ?unacknowledged⟩, fun s t0 on pending => ⟨fun early => ?waits, fun due below => ?lapse⟩,
    fun c s t done was left powerOn input release => ?only⟩
  case early =>
    refine congrArg Host.Outcome.next (if_neg fun ready => ?_)
    obtain ⟨t1, eq, due⟩ := (Timer.reached_iff ..).mp ready.2
    cases timer.symm.trans eq
    omega
  case release =>
    have none : s.evaluatedCauses = [] := by
      unfold State.evaluatedCauses
      rw [endConditionIn_absent (fun c mem => (ended c mem).2.2), ite_self, if_pos ack]
      refine List.filter_eq_nil_iff.mpr fun c mem => ?_
      simp [Cause.finished, (ended c mem).1, (ended c mem).2.1]
    refine ⟨_, congrArg Host.Outcome.next (faultEvaluation_due on timer due), ?_⟩
    obtain ⟨off, hold, fault, log⟩ := releaseThread_state (s := s.evaluated) ack tripped none
    rw [fault]
    exact ⟨off, hold, none, rfl, by simp [State.evaluated, timer, Timer.again], logged_of_log below log⟩
  case held =>
    obtain ⟨c, mem, going, apart⟩ := held
    have some : s.evaluatedCauses ≠ [] := by
      refine List.ne_nil_of_mem (a := c) ?_
      unfold State.evaluatedCauses
      rw [if_pos ack]
      refine List.mem_filter.mpr ⟨?_, by simp [Cause.finished, going]⟩
      split
      · exact mem_endConditionIn mem apart
      · exact mem
    refine ⟨_, congrArg Host.Outcome.next (faultEvaluation_due on timer due), ?_⟩
    have stays : releaseThread s.evaluated = s.evaluated := if_neg fun ready => some ready.2.2
    rw [stays]
    exact ⟨rfl, rfl, rfl, some⟩
  case unacknowledged =>
    have causes : s.evaluatedCauses = if s.nacelleView = [] then endConditionIn clsPlant 6 s.fault.causes else
      s.fault.causes :=
      if_neg (by simp [none])
    refine ⟨_, congrArg Host.Outcome.next (faultEvaluation_due on timer due), ?_⟩
    have stays : releaseThread s.evaluated = s.evaluated := if_neg fun ready => by
      simp [State.evaluated, none] at ready
    rw [stays]
    refine ⟨rfl, by simp [State.evaluated, timer, Timer.again], fun shown => causes.trans (if_neg shown),
      fun clear kept => ?_, fun cls code apart => ?_⟩
    · show s.evaluatedCauses.any _ = false
      rw [causes, if_pos clear]
      obtain ⟨nodup, listed, -⟩ := kept
      refine endConditionIn_removes nodup fun c mem key => ?_
      have row := listed c mem
      have only : ∀ r ∈ causeTable, (r.1, r.2.1) = (clsPlant, 6) → r.2.2 = .condition := by decide
      exact only _ row key
    · show s.evaluatedCauses.any _ = s.fault.causes.any _
      rw [causes]
      split
      · exact endConditionIn_other _ apart.symm
      · rfl
  case waits =>
    refine congrArg Host.Outcome.next (if_neg fun ready => ?_)
    obtain ⟨t1, eq, due⟩ := (Timer.reached_iff ..).mp ready.2
    cases pending.symm.trans eq
    omega
  case lapse =>
    have eq : ackLapse s = reportNote { s with fault := { s.fault with pendingAck := none } } clsPlant 4
      s.fault.causes.length :=
      if_pos ⟨on, (Timer.reached_iff ..).mpr ⟨t0, pending, due⟩⟩
    exact ⟨_, congrArg Host.Outcome.next eq, rfl, logged_of_log below rfl⟩
  case only =>
    have notReset := notReset_iff.mpr ⟨powerOn, input, release⟩
    have may : .release ∈ c.parts := by_contra fun no => left ((does_of_exec done notReset).framed.tripped no was)
    obtain rfl := release_mem_parts.mp may
    have eq : faultEvaluation s = t := Host.Outcome.next.inj done
    by_cases ready : s.running = true ∧ s.fault.timer.reached s.now Config.evaluation = true
    · obtain ⟨t0, timer, due⟩ := (Timer.reached_iff ..).mp ready.2
      rw [faultEvaluation_due ready.1 timer due] at eq
      by_cases releases : s.fault.pendingAck.isSome = true ∧ s.thread.state = .tripped ∧ s.evaluatedCauses = []
      · obtain ⟨ack, -, none⟩ := releases
        obtain ⟨off, hold, fault, -⟩ := releaseThread_state (s := s.evaluated) ack was none
        rw [eq] at off hold fault
        exact ⟨rfl, off, by simp [State.tripLine, off], ack, by rw [fault], by rw [fault]; exact none, hold⟩
      · have stays : releaseThread s.evaluated = s.evaluated := if_neg releases
        rw [← eq, stays] at left
        exact absurd was left
    · rw [← eq, show faultEvaluation s = s from if_neg ready] at left
      exact absurd was left

end Sys2Proof.Machine
end

section
/-! A period (R25, R32 to R34): what it leaves of the state it finds, with a miss (R80, R81) and without. -/
namespace Sys2Proof.Machine
variable {may : Part → Prop} {s t u : State}

/-! ## The stages of a period -/

/-- R25: the cadence set to a restart point. -/
def State.timed (s : State) (restart : Nat) : State :=
  { s with cadence := { s.cadence with
      timer := some restart, overdue := false, expiry := Config.cadence, count := (s.cadence.count + 1) % 65536 } }

/-- R32: the offset latched and the start judged. -/
def State.periodStart (s : State) (restart : Nat) : State := startTest (latchOffset (s.timed restart))

/-- R80: an exchange still outstanding ends as a miss. -/
def State.missed (s : State) : State := if s.thread.exchange.outstanding then missReply s else s

theorem beginPeriod_rests (restart : Nat) (rests : s.periodWorks = false) :
    beginPeriod s restart = s.timed restart := by
  have eq : beginPeriod s restart = if s.periodWorks then periodWork (s.timed restart) else s.timed restart := rfl
  rw [eq, rests]
  rfl

theorem beginPeriod_works (restart : Nat) (works : s.periodWorks = true) : beginPeriod s restart =
    completeStop (allot (sendCommand (s.periodStart restart).missed s.cadence.pendingOffset)) := by
  have eq : beginPeriod s restart = if s.periodWorks then periodWork (s.timed restart) else s.timed restart := rfl
  have latched : (startTest (latchOffset (s.timed restart))).cadence.latchedOffset = s.cadence.pendingOffset := by
    simp [latchOffset, State.timed]
  rw [eq, if_pos works]
  unfold periodWork
  dsimp only
  rw [latched]
  rfl

/-! ## The start test (R84) -/

theorem startTest_of_mayStart (able : s.mayStart = true) : startTest s = { s with
    thread := { s.thread with state := .precharge, stateTimer := some s.now, breakerStep := .waitCharge },
    table := { s.table with changePending := (startTest s).table.changePending } } := by
  unfold startTest
  rw [if_pos able, setThread_eq]

theorem startTest_of_not_mayStart (unable : s.mayStart = false) : startTest s = s := if_neg (by simp [unable])

theorem State.mayStart_off (able : s.mayStart = true) : s.thread.state = .off := by
  simp only [State.mayStart, Bool.and_eq_true, beq_iff_eq] at able
  simp [able]

/-- What the start of a period leaves of what the period reads. -/
theorem periodStart_eq (s : State) (restart : Nat) : s.periodStart restart = { s with
    cadence := { s.cadence with
      timer := some restart, overdue := false, expiry := Config.cadence, count := (s.cadence.count + 1) % 65536,
      latchedOffset := s.cadence.pendingOffset, pendingOffset := s.nextOffset }
    thread := { s.thread with state := (s.periodStart restart).thread.state,
                              stateTimer := (s.periodStart restart).thread.stateTimer,
                              breakerStep := (s.periodStart restart).thread.breakerStep }
    table := { s.table with changePending := (s.periodStart restart).table.changePending } } := by
  unfold State.periodStart
  generalize begun : latchOffset _ = u
  cases able : u.mayStart with
  | true => rw [startTest_of_mayStart able, ← begun]; rfl
  | false => rw [startTest_of_not_mayStart able, ← begun]; rfl

theorem periodStart_mayStart (restart : Nat) : (latchOffset (s.timed restart)).mayStart = s.mayStart := rfl

/-- R84: the thread state with which a period goes on. -/
theorem periodStart_thread (s : State) (restart : Nat) : (s.periodStart restart).thread.state =
    if s.mayStart = true then .precharge else s.thread.state := by
  unfold State.periodStart
  cases able : s.mayStart with
  | true => rw [startTest_of_mayStart ((periodStart_mayStart restart).trans able)]; rfl
  | false => rw [startTest_of_not_mayStart ((periodStart_mayStart restart).trans able)]; rfl

/-! ## The computation of a period -/

theorem allot_of_zero (zero : s.thread.state.zeroCommands = true) : (allot s).allotment = { s.allotment with
    capability := capabilityOf s.cfg.rated s.cooling.factor
    pTarget := 0
    qTarget := 0
    pCommand := 0
    qCommand := 0 } := by
  have targets := State.targets_of_zero (s := setCapability s) zero
  have commands (p : Nat) (q : Int) := State.commands_of_zero (s := setCapability s) zero p q
  simp only [allot, targets, commands]
  rfl

/-- R62 to R72: what the computation of the commands reads. -/
def State.allotView (s : State) : State :=
  { State.reset with
    config := s.config, cooling := s.cooling, allotment := s.allotment,
    table := { State.reset.table with threads := s.table.threads, controller := s.table.controller },
    thread := { State.reset.thread with reply := s.thread.reply, state := s.thread.state } }

theorem allot_view (s : State) : (allot s).allotment = (allot s.allotView).allotment := rfl

/-! ## A miss (R80, R81) -/

/-- What the rest of a period reads. -/
structure State.SamePeriod (s t : State) : Prop where
  now : t.now = s.now
  config : t.config = s.config
  cooling : t.cooling = s.cooling
  cadence : t.cadence = s.cadence
  allotment : t.allotment = s.allotment
  threads : t.table.threads = s.table.threads
  controller : t.table.controller = s.table.controller
  thread : t.thread.state = s.thread.state
  reply : t.thread.reply = s.thread.reply
  step : t.thread.breakerStep = s.thread.breakerStep
  sent : t.thread.exchange.sent = s.thread.exchange.sent
  breakerOpen : t.thread.breakerOpenTimer = s.thread.breakerOpenTimer

theorem State.SamePeriod.refl (s : State) : s.SamePeriod s :=
    ⟨rfl, rfl, rfl, rfl, rfl, rfl, rfl, rfl, rfl, rfl, rfl, rfl⟩

/-- R81: the thread record after a miss, but for the port. -/
def ThreadControl.afterMiss (c : ThreadControl) : ThreadControl :=
  let n := countHeld 255 c.missCount
  { c with
    exchange := { c.exchange with outstanding := false },
    missCount := n,
    validity := if c.validity = .absent then .absent else if n ≤ 2 then .held else .expired,
    recoveryCount := 0,
    recoveryTimer := if n ≤ 2 then c.recoveryTimer else none,
    gridTimer := if n ≤ 2 then c.gridTimer else none }

/-- R81: a miss that is not the third, or finds the port out already, reports nothing. -/
theorem missReply_silent (silent : s.thread.missCount + 1 ≠ 3 ∨ s.thread.portOut = true) :
    missReply s = { s with thread := s.thread.afterMiss } := by
  have eq : missReply s = if countHeld 255 s.thread.missCount = 3 ∧ s.thread.portOut = false then
      reportFault { s with thread := { s.thread.afterMiss with portOut := true } } clsStack 3
        (if s.thread.state = .off ∨ s.thread.state = .tripped then .warn else .tripThread) 3
    else { s with thread := s.thread.afterMiss } := rfl
  rw [eq, if_neg]
  rintro ⟨third, in_⟩
  rcases silent with other | out
  · simp only [countHeld] at third
    omega
  · simp [in_] at out

/-- R81: the third miss puts the port out and is reported. -/
theorem missReply_third (third : s.thread.missCount + 1 = 3) (inService : s.thread.portOut = false) :
    missReply s = reportFault { s with thread := { s.thread.afterMiss with portOut := true } } clsStack 3
      (if s.thread.state = .off ∨ s.thread.state = .tripped then .warn else .tripThread) 3 := by
  refine if_pos ⟨?_, inService⟩
  simp only [countHeld]
  omega

theorem missed_samePeriod (silent : s.thread.exchange.outstanding = true → s.thread.missCount + 1 ≠ 3 ∨
    s.thread.portOut = true) :
    s.SamePeriod s.missed := by
  unfold State.missed
  split
  case isTrue waiting =>
    rw [missReply_silent (silent waiting)]
    exact ⟨rfl, rfl, rfl, rfl, rfl, rfl, rfl, rfl, rfl, rfl, rfl, rfl⟩
  case isFalse => exact .refl s

theorem wakeCause_cadence (awake : s.quiet.state ≠ .quiet) : (wakeCause s).cadence = s.cadence := by
  unfold wakeCause
  split
  · rfl
  · rfl
  case h_3 quiet => exact absurd quiet awake

theorem wakeCause_thread (awake : s.quiet.state ≠ .quiet) : (wakeCause s).thread = s.thread := by
  unfold wakeCause
  split
  · rfl
  · rfl
  case h_3 quiet => exact absurd quiet awake

theorem offerNotice_footprint (s : State) (cls code severity action : Nat) (detail : Int) :
    offerNotice s cls code severity action detail = { s with
      link := (offerNotice s cls code severity action detail).link,
      log := (offerNotice s cls code severity action detail).log } :=
  (LinkMove.offerNotice (may := fun _ => True) s cls code severity action detail).footprint

/-- R151: a WARN outside QUIET records, offers its notice and ends QUIET_PENDING, and no more. -/
theorem reportWarn_awake (s : State) (cls code : Nat) (detail : Int) (awake : s.quiet.state ≠ .quiet) :
    reportFault s cls code .warn detail = { s with
      link := (reportFault s cls code .warn detail).link, log := (reportFault s cls code .warn detail).log,
      quiet := { s.quiet with state := .active } } := by
  have report : reportFault s cls code .warn detail = wakeCause (offerNotice (enterRecord s s.own cls code 1
      (reportAction s cls code .warn).code (some detail) none) cls code 1
        (reportAction s cls code .warn).code detail) := by
    rw [reportWarn_eq]
    rfl
  rw [report, offerNotice_footprint]
  unfold wakeCause
  split
  case h_1 active =>
    have active : s.quiet.state = .active := active
    rw [← active]
    rfl
  case h_2 => rfl
  case h_3 quiet => exact absurd quiet awake

/-- R81: the third miss in OFF or TRIPPED is a WARN. -/
theorem missReply_warn_samePeriod (awake : s.quiet.state ≠ .quiet) (third : s.thread.missCount + 1 = 3)
    (inService : s.thread.portOut = false) (rests : s.thread.state.quietable = true) : s.SamePeriod (missReply s) := by
  have off : s.thread.state = .off ∨ s.thread.state = .tripped := by
    cases state : s.thread.state <;> simp_all [ThreadState.quietable]
  rw [missReply_third third inService, if_pos off, reportWarn_awake _ _ _ _ (by exact awake)]
  exact ⟨rfl, rfl, rfl, rfl, rfl, rfl, rfl, rfl, rfl, rfl, rfl, rfl⟩

/-! ## The period begun -/

theorem completeStop_eq (s : State) : completeStop s = { s with
    thread := { s.thread with state := (completeStop s).thread.state, stateTimer := (completeStop s).thread.stateTimer,
                              restartHold := (completeStop s).thread.restartHold }
    table := { s.table with changePending := (completeStop s).table.changePending } } := by
  unfold completeStop
  split
  · rw [enterOff_eq]
  · rfl

/-- R62 to R72: a period's start may move OFF to PRECHARGE, and both compute alike. -/
theorem allot_periodStart {b : State} (restart : Nat) (same : (s.periodStart restart).SamePeriod b) :
    (allot b).allotment = (allot s).allotment := by
  have start := periodStart_eq s restart
  have config : b.config = s.config := same.config.trans (by rw [start])
  have cooling : b.cooling = s.cooling := same.cooling.trans (by rw [start])
  have allotment : b.allotment = s.allotment := same.allotment.trans (by rw [start])
  have cfg : b.cfg = s.cfg := congrArg (fun c : ConfigPort => c.values.getD ConfigValues.none) config
  cases able : s.mayStart with
  | true =>
    have zero : b.thread.state.zeroCommands = true := by
      rw [same.thread, periodStart_thread, if_pos able]
      rfl
    rw [allot_of_zero zero, allot_of_zero (s := s) (by rw [State.mayStart_off able]; rfl), cfg, cooling, allotment]
  | false =>
    have thread : b.thread.state = s.thread.state := same.thread.trans (by rw [periodStart_thread, able]; rfl)
    have view : b.allotView = s.allotView := by
      unfold State.allotView
      rw [config, cooling, allotment, thread, same.threads, same.controller, same.reply, start]
    rw [allot_view b, allot_view s, view]

theorem beginPeriod_begun (restart : Nat) (works : s.periodWorks = true)
    (same : (s.periodStart restart).SamePeriod (s.periodStart restart).missed) :
    s.PeriodBegun (beginPeriod s restart) restart := by
  have computed := allot_periodStart restart same
  have start := periodStart_eq s restart
  rw [beginPeriod_works restart works, completeStop_eq]
  generalize (s.periodStart restart).missed = b at same computed
  have sent : b.thread.exchange.sent = s.thread.exchange.sent := same.sent.trans (by rw [start])
  have cadence : b.cadence = _ := same.cadence.trans (congrArg State.cadence start)
  have allotment : b.allotment = s.allotment := same.allotment.trans (by rw [start])
  have now : b.now = s.now := same.now.trans (by rw [start])
  have opened : b.thread.breakerOpenTimer = s.thread.breakerOpenTimer := same.breakerOpen.trans (by rw [start])
  refine ⟨?_, ?_, ?_, ?_, ?_, ?_, rfl, now, ?_, ?_, ?_, rfl, ?_, ?_, computed⟩
  · exact congrArg CadenceUnit.timer cadence
  · exact congrArg CadenceUnit.overdue cadence
  · exact congrArg CadenceUnit.expiry cadence
  · exact congrArg CadenceUnit.count cadence
  · exact congrArg CadenceUnit.latchedOffset cadence
  · exact congrArg CadenceUnit.pendingOffset cadence
  · exact congrArg (fun m : StackCommand => (m.number + 1) % 256) sent
  · exact congrArg AllotmentUnit.pCommand allotment
  · exact congrArg AllotmentUnit.qCommand allotment
  · show breakerOpenAfter b _ = _
    unfold breakerOpenAfter
    rw [sent, now, opened]
    rfl
  · exact (congrArg AllotmentUnit.capability computed)

/-- R31: a period begun leaves the reference to its caller. -/
theorem beginPeriod_reference (restart : Nat) (works : s.periodWorks = true)
    (same : (s.periodStart restart).SamePeriod (s.periodStart restart).missed) :
    (beginPeriod s restart).cadence.reference = s.cadence.reference ∧
    (beginPeriod s restart).cadence.seekCount = s.cadence.seekCount := by
  rw [beginPeriod_works restart works, completeStop_eq]
  have cadence := same.cadence.trans (congrArg State.cadence (periodStart_eq s restart))
  generalize (s.periodStart restart).missed = b at cadence
  have reference : b.cadence.reference = s.cadence.reference := by rw [cadence]
  have seekCount : b.cadence.seekCount = s.cadence.seekCount := by rw [cadence]
  exact ⟨reference, seekCount⟩

/-- R80, R81: no miss of this period is reported. -/
def State.MissesSilently (s : State) : Prop :=
  s.thread.exchange.outstanding = true → s.thread.missCount + 1 ≠ 3 ∨ s.thread.portOut = true

theorem periodStart_samePeriod (restart : Nat) (silent : s.MissesSilently) :
    (s.periodStart restart).SamePeriod (s.periodStart restart).missed :=
  missed_samePeriod (by rw [periodStart_eq]; exact silent)

/-- A period with no miss to report writes these parts only. -/
theorem beginPeriod_footprint (restart : Nat) (works : s.periodWorks = true) (silent : s.MissesSilently) :
    beginPeriod s restart = { s with
      cadence := (beginPeriod s restart).cadence, thread := (beginPeriod s restart).thread,
      allotment := (beginPeriod s restart).allotment,
      table := { s.table with changePending := (beginPeriod s restart).table.changePending } } := by
  have missed : (s.periodStart restart).missed = { s.periodStart restart with
      thread := (s.periodStart restart).missed.thread } := by
    unfold State.missed
    split
    case isTrue waiting =>
      rw [periodStart_eq] at waiting
      rw [missReply_silent (by rw [periodStart_eq]; exact silent waiting)]
    case isFalse => rfl
  rw [beginPeriod_works restart works, completeStop_eq, missed, periodStart_eq]
  rfl

theorem beginPeriod_link (restart : Nat) (works : s.periodWorks = true) (silent : s.MissesSilently) :
    (beginPeriod s restart).link = s.link ∧ (beginPeriod s restart).log = s.log := by
  rw [beginPeriod_footprint restart works silent]
  exact ⟨rfl, rfl⟩

/-- A period is begun as well of a state that differs in parts it does not read. -/
theorem State.PeriodBegun.of {l : LinkControl} {r : Receiver} {c : CadenceUnit} {g : FaultLog} {q : QuietControl}
    {restart : Nat} (begun : State.PeriodBegun
      { s with link := l, receiver := r, cadence := c, log := g, quiet := q } t restart)
    (count : c.count = s.cadence.count) (pending : c.pendingOffset = s.cadence.pendingOffset) :
    s.PeriodBegun t restart := by
  unfold State.PeriodBegun at begun ⊢
  rw [← count, ← pending]
  exact begun

end Sys2Proof.Machine
end

section
/-! Reports (R151, R152): the record, the notice, the wake cause and the trip that a report leaves. -/
namespace Sys2Proof.Machine
variable {s t u : State} {cls code : Nat} {severity : Severity} {detail : Int}

/-- R148: a fault of which Yaw Control is not told. -/
theorem reportFault_apart (s : State) (severity : Severity) (detail : Int) (apart : barsSession cls code = false) :
    reportFault s cls code severity detail = takeReport s cls code severity detail := by
  rw [reportFault, if_neg]
  simp [apart]

/-- R151: the state a report finds after the trip it orders, before its record. -/
def tripFirst (s : State) (cls code : Nat) (severity : Severity) : State :=
  if severity.trips then tripThread (addCause s cls code) else s

theorem tripFirst_frame (s : State) (cls code : Nat) (severity : Severity) :
    (tripFirst s cls code severity).link = s.link ∧ (tripFirst s cls code severity).log = s.log ∧
    (tripFirst s cls code severity).quiet = s.quiet ∧ (tripFirst s cls code severity).cadence = s.cadence ∧
    (tripFirst s cls code severity).now = s.now ∧ (tripFirst s cls code severity).config = s.config := by
  unfold tripFirst
  split <;> simp

theorem own_congr (config : t.config = s.config) : t.own = s.own := by
  unfold State.own State.cfg
  rw [config]

/-- R151: a report that is no NOTE is a record, a notice and a wake cause. -/
theorem takeReport_eq (s : State) (cls code : Nat) (detail : Int) (notNote : severity ≠ .note) :
    takeReport s cls code severity detail = wakeCause (offerNotice
      (enterRecord (tripFirst s cls code severity) s.own cls code severity.code (reportAction s cls code severity).code
        (some detail) none) cls code severity.code (reportAction s cls code severity).code detail) := by
  have own := own_congr (tripFirst_frame s cls code severity).2.2.2.2.2
  rw [← own]
  exact if_neg notNote

/-! ## The record and the notice -/

theorem offerNotice_log (s : State) (cls code severity action : Nat) (detail : Int)
    (room : s.link.queue.length < Config.queueSlots) : (offerNotice s cls code severity action detail).log = s.log := by
  cases takes : s.takesOffers with
  | true => rw [offerNotice_room s _ _ _ _ _ takes room]
  | false => rw [(offer_closed s takes).2.2]

/-- R151: a report that finds room in the queue leaves the log its one record. -/
theorem takeReport_log (s : State) (cls code : Nat) (detail : Int) (notNote : severity ≠ .note)
    (room : s.link.queue.length < Config.queueSlots) : (takeReport s cls code severity detail).log =
      s.log.enter s.now s.own cls code severity.code (reportAction s cls code severity).code (some detail) none := by
  obtain ⟨link, log, -, -, now, -⟩ := tripFirst_frame s cls code severity
  have kept (u : State) : (wakeCause u).log = u.log := by simp
  rw [takeReport_eq s cls code detail notNote, kept, offerNotice_log _ _ _ _ _ _ (by simpa [link] using room),
    enterRecord, log, now]

theorem takeReport_logged (s : State) (cls code : Nat) (detail : Int) (notNote : severity ≠ .note)
    (below : s.log.newest < Config.lastSequence) (room : s.link.queue.length < Config.queueSlots) :
    s.Logged (takeReport s cls code severity detail) s.own cls code severity.code
      (reportAction s cls code severity).code (some detail) none :=
  logged_of_log below (takeReport_log s cls code detail notNote room)

/-- R15, R151: the link after a report that finds room in an open queue. -/
theorem takeReport_link (s : State) (cls code : Nat) (detail : Int) (notNote : severity ≠ .note)
    (takes : s.takesOffers = true) (room : s.link.queue.length < Config.queueSlots) :
    (takeReport s cls code severity detail).link = { s.link.lose 0 with
      noticeCounter := (s.link.noticeCounter + 1) % 65536,
      queue := insertSlot s.own (.faultNotice
        { number := (s.link.noticeCounter + 1) % 65536, cls := cls, code := code, severity := severity.code,
          action := (reportAction s cls code severity).code, detail := detail,
          logSequence := (takeReport s cls code severity detail).log.newest % 65536 }) s.link.queue } := by
  obtain ⟨link, log, -, -, now, config⟩ := tripFirst_frame s cls code severity
  have kept (u : State) : (wakeCause u).link = u.link := by simp
  have open_ : (enterRecord (tripFirst s cls code severity) s.own cls code severity.code
      (reportAction s cls code severity).code (some detail) none).takesOffers = true := by
    simpa [State.takesOffers, link] using takes
  rw [takeReport_log s cls code detail notNote room, takeReport_eq s cls code detail notNote, kept,
    offerNotice_room _ _ _ _ _ _ open_ (by simpa [link] using room)]
  have own : (enterRecord (tripFirst s cls code severity) s.own cls code severity.code
      (reportAction s cls code severity).code (some detail) none).own = s.own := own_congr config
  rw [own]
  simp only [link, enterRecord, log, now]

theorem takeReport_noticed (s : State) (cls code : Nat) (detail : Int) (notNote : severity ≠ .note)
    (takes : s.takesOffers = true) (room : s.link.queue.length < Config.queueSlots) :
    s.Noticed (takeReport s cls code severity detail) cls code severity.code (reportAction s cls code severity).code
      detail := by
  have link := takeReport_link s cls code detail notNote takes room
  refine ⟨by rw [link], ?_⟩
  rw [link]
  exact ⟨_, (mem_insertSlot ..).mpr (.inl rfl), rfl⟩

/-! ## The wake cause -/

theorem State.WakeTaken.congr (woken : u.WakeTaken t) (quiet : u.quiet = s.quiet) (cadence : u.cadence = s.cadence)
    (link : u.link.state = s.link.state) (now : u.now = s.now) : s.WakeTaken t := by
  unfold State.WakeTaken at woken ⊢
  rwa [quiet, cadence, link, now] at woken

/-- R177: every report of WARN or above is a wake cause. -/
theorem takeReport_wakes_taken (s : State) (cls code : Nat) (detail : Int) (notNote : severity ≠ .note) :
    s.WakeTaken (takeReport s cls code severity detail) := by
  obtain ⟨link, -, quiet, cadence, now, -⟩ := tripFirst_frame s cls code severity
  rw [takeReport_eq s cls code detail notNote]
  exact (wakeCause_taken _).congr (by simpa using quiet) (by simpa using cadence)
    (by simpa using congrArg LinkControl.state link) (by simpa using now)

theorem wakeCause_footprint (s : State) : wakeCause s = { s with
    quiet := (wakeCause s).quiet, cadence := (wakeCause s).cadence,
    table := { s.table with changePending := (wakeCause s).table.changePending },
    thread := { s.thread with quietTimer := (wakeCause s).thread.quietTimer } } :=
  (QuietMove.wakeCause (may := fun _ => True) s).footprint

/-- What a WARN may write, in any quiet state. -/
theorem reportWarn_footprint (s : State) (cls code : Nat) (detail : Int) :
    reportFault s cls code .warn detail = { s with
    link := (reportFault s cls code .warn detail).link, log := (reportFault s cls code .warn detail).log,
    quiet := (reportFault s cls code .warn detail).quiet, cadence := (reportFault s cls code .warn detail).cadence,
    table := { s.table with changePending := (reportFault s cls code .warn detail).table.changePending },
    thread := { s.thread with quietTimer := (reportFault s cls code .warn detail).thread.quietTimer } } := by
  rw [reportWarn_eq, takeReport_eq s cls code detail (by simp), wakeCause_footprint, offerNotice_footprint]
  rfl

/-! ## The trip -/

theorem reportAction_trip (fresh : s.thread.state ≠ .tripped) (other : cls ≠ clsLink) :
    reportAction s cls code .tripThread = .threadTripped := by
  simp [reportAction, fresh, other]

theorem reportAction_warn (other : cls ≠ clsYaw) : reportAction s cls code .warn = .logged := by
  simp [reportAction, other]

theorem tripThread_eq (s : State) (fresh : s.thread.state ≠ .tripped) : tripThread s = { s with
    thread := { s.thread with state := .tripped, stateTimer := none, recoveryTimer := none, lockCount := 0,
                              breakerStep := .waitCharge, breakerOpenTimer := some s.now }
    allotment := s.allotment.zero
    table := { s.table with changePending := (tripThread s).table.changePending } } := by
  unfold tripThread
  rw [if_neg fresh, setThread_eq]

/-- R151, R94: a trip outside QUIET, of which Yaw Control is not told. -/
theorem reportTrip_awake (s : State) (detail : Int) (trips : severity.trips = true)
    (apart : barsSession cls code = false)
    (awake : s.quiet.state ≠ .quiet) : reportFault s cls code severity detail = { tripThread (addCause s cls code) with
      link := (reportFault s cls code severity detail).link, log := (reportFault s cls code severity detail).log,
      quiet := { s.quiet with state := .active } } := by
  have notNote : severity ≠ .note := by rintro rfl; cases trips
  have tripped : tripFirst s cls code severity = tripThread (addCause s cls code) := if_pos trips
  have quiet : (tripThread (addCause s cls code)).quiet = s.quiet := by simp
  rw [reportFault_apart s severity detail apart, takeReport_eq s cls code detail notNote,
    offerNotice_footprint, tripped]
  unfold wakeCause
  split
  case h_1 active =>
    have active : s.quiet.state = .active := (congrArg QuietControl.state quiet).symm.trans active
    have same : { s.quiet with state := QuietState.active } = (tripThread (addCause s cls code)).quiet := by
      rw [quiet, ← active]
    rw [same]
    rfl
  case h_2 => rw [← quiet]; rfl
  case h_3 inQuiet => exact absurd ((congrArg QuietControl.state quiet).symm.trans inQuiet) awake

end Sys2Proof.Machine
end

section
/-! Periods of the station's own timer (R26 to R28, R31, R39), and the start of a thread (R84). -/
namespace Sys2Proof.Machine
variable {may : Part → Prop} {s t u : State}

theorem State.isJoined_iff (s : State) : s.isJoined = true ↔ s.held = false ∧ s.link.state = .joined := by
  simp [State.isJoined]

theorem State.keepsCadence_iff (s : State) : s.keepsCadence = true ↔ s.quiet.state ≠ .quiet := by
  simp [State.keepsCadence]

theorem ThreadState.quietable_iff (x : ThreadState) : x.quietable = true ↔ x = .off ∨ x = .tripped := by
  cases x <;> simp [ThreadState.quietable]

theorem State.periodWorks_of_joined (joined : s.isJoined = true) (keeps : s.keepsCadence = true) :
    s.periodWorks = true := by
  simp [State.periodWorks, joined, keeps]

/-! ## The own mark -/

theorem ownPeriod_seeks (c : CadenceUnit) :
    (c.reference = .locked → c.ownPeriod.reference = .locked ∧ c.ownPeriod.seekCount = c.seekCount) ∧
    (c.reference = .seeking → c.ownPeriod.seekCount = c.seekCount + 1 ∧
      c.ownPeriod.reference = if 25 ≤ c.seekCount + 1 then .locked else .seeking) := by
  refine ⟨fun locked => ?_, fun seeking => ?_⟩
  · simp [CadenceUnit.ownPeriod, locked]
  · unfold CadenceUnit.ownPeriod
    rw [seeking]
    exact ⟨rfl, rfl⟩

theorem ownPeriod_count (c : CadenceUnit) :
    c.ownPeriod.count = c.count ∧ c.ownPeriod.pendingOffset = c.pendingOffset := by
  unfold CadenceUnit.ownPeriod
  split <;> exact ⟨rfl, rfl⟩

/-- R26: the state from which the period of an own mark is begun. -/
def State.marked (s : State) : State :=
  { s with link := { s.link with ownMark := some s.now }, cadence := s.cadence.ownPeriod }

theorem sendMark_eq (s : State) : sendMark s = beginPeriod s.marked s.now := rfl

theorem sendMark_begun (joined : s.isJoined = true) (keeps : s.keepsCadence = true)
    (same : (s.marked.periodStart s.now).SamePeriod (s.marked.periodStart s.now).missed) :
    s.PeriodBegun (sendMark s) s.now := by
  have begun := beginPeriod_begun s.now (State.periodWorks_of_joined (s := s.marked) joined keeps) same
  exact begun.of (ownPeriod_count s.cadence).1 (ownPeriod_count s.cadence).2

theorem State.MissesSilently.begun (joined : s.isJoined = true) (keeps : s.keepsCadence = true)
    (silent : s.MissesSilently) :
    s.PeriodBegun (sendMark s) s.now :=
  sendMark_begun joined keeps (periodStart_samePeriod (s := s.marked) s.now silent)

theorem sendMark_mark (joined : s.isJoined = true) (keeps : s.keepsCadence = true) (silent : s.MissesSilently) :
    (sendMark s).link.ownMark = some s.now ∧ (sendMark s).drivesMark = true ∧
    (sendMark s).cadence.reference = s.cadence.ownPeriod.reference ∧
    (sendMark s).cadence.seekCount = s.cadence.ownPeriod.seekCount := by
  have works := State.periodWorks_of_joined (s := s.marked) joined keeps
  have frame := beginPeriod_footprint s.now works silent
  have reference := beginPeriod_reference s.now works (periodStart_samePeriod s.now silent)
  rw [sendMark_eq]
  refine ⟨by rw [frame]; rfl, ?_, reference⟩
  rw [frame]
  have joined' : s.marked.isJoined = true := joined
  simpa [State.drivesMark, State.marked, State.isJoined, State.held, Config.markTime, Config.bitTime] using joined'

theorem missesSilently_of (few : s.thread.exchange.outstanding = true → s.thread.missCount + 1 ≠ 3) :
    s.MissesSilently :=
  fun waiting => .inl (few waiting)

theorem cadenceExpiry_joined {t0 : Nat} (joined : s.isJoined = true) (keeps : s.keepsCadence = true)
    (timer : s.cadence.timer = some t0) (due : t0 + s.cadence.expiry ≤ s.now) (dominant : Bool) :
    cadenceExpiry s dominant = takeExpiry s dominant := by
  unfold cadenceExpiry
  rw [if_pos ⟨(Timer.reached_iff ..).mpr ⟨t0, timer, due⟩, keeps⟩, if_pos joined]

theorem takeExpiry_recessive (onTime : s.cadence.overdue = false) : takeExpiry s false = sendMark s := by
  simp [takeExpiry, onTime]

theorem cadenceExpiry_silent {t0 : Nat} (free : s.held = false) (silent : s.link.state = .silent)
    (keeps : s.keepsCadence = true) (timer : s.cadence.timer = some t0) (due : t0 + s.cadence.expiry ≤ s.now)
    (dominant : Bool) : cadenceExpiry s dominant = beginPeriod s s.now := by
  unfold cadenceExpiry
  rw [if_pos ⟨(Timer.reached_iff ..).mpr ⟨t0, timer, due⟩, keeps⟩, if_neg (by simp [State.isJoined, silent]),
    if_pos (by simp [State.isSilent, free, silent])]

/-! ## A miss at a period (R80, R81) -/

/-- What a miss always does to the thread record. -/
theorem missReply_record (s : State) (awake : s.quiet.state ≠ .quiet) :
    (missReply s).thread.missCount = countHeld 255 s.thread.missCount ∧ (missReply s).thread.recoveryCount = 0 ∧
    (missReply s).thread.exchange.sent = s.thread.exchange.sent ∧
    (missReply s).thread.validity = s.thread.afterMiss.validity ∧
    (missReply s).thread.portOut = (s.thread.portOut || decide (s.thread.missCount + 1 = 3)) := by
  by_cases third : s.thread.missCount + 1 = 3
  · by_cases out : s.thread.portOut = true
    · rw [missReply_silent (.inr out)]
      exact ⟨rfl, rfl, rfl, rfl, by simp [ThreadControl.afterMiss, out]⟩
    · have inService : s.thread.portOut = false := by simpa using out
      rw [missReply_third third inService]
      split
      · rw [reportWarn_awake _ _ _ _ (by exact awake)]
        exact ⟨rfl, rfl, rfl, rfl, by simp [third]⟩
      case isFalse awakened =>
        rw [reportTrip_awake _ _ rfl (by decide) (by exact awake),
          tripThread_eq (addCause _ _ _) (by exact fun tripped => awakened (.inr tripped))]
        exact ⟨rfl, rfl, rfl, rfl, by simp [third]⟩
  · rw [missReply_silent (.inl third)]
    exact ⟨rfl, rfl, rfl, rfl, by simp [ThreadControl.afterMiss, third]⟩

/-- The thread record of a period, before and after the end of a stop. -/
theorem completeStop_record (s : State) : (completeStop s).thread.missCount = s.thread.missCount ∧
    (completeStop s).thread.recoveryCount = s.thread.recoveryCount ∧
    (completeStop s).thread.exchange = s.thread.exchange ∧
    (completeStop s).thread.validity = s.thread.validity ∧ (completeStop s).thread.portOut = s.thread.portOut := by
  rw [completeStop_eq]
  exact ⟨rfl, rfl, rfl, rfl, rfl⟩

theorem completeStop_other (other : s.thread.state ≠ .stopping) : completeStop s = s := if_neg fun stop => other stop.1

/-- R32: the state of the period of an own mark once its start is judged. -/
def State.markStart (s : State) : State := s.marked.periodStart s.now

theorem markStart_eq (s : State) : s.markStart = { s.marked with
    cadence := s.markStart.cadence
    thread := { s.thread with state := s.markStart.thread.state, stateTimer := s.markStart.thread.stateTimer,
                              breakerStep := s.markStart.thread.breakerStep }
    table := { s.table with changePending := s.markStart.table.changePending } } := by
  have eq := periodStart_eq s.marked s.now
  unfold State.markStart
  rw [eq]
  rfl

theorem markStart_thread (s : State) : s.markStart.thread.state =
    if s.mayStart = true then .precharge else s.thread.state := periodStart_thread s.marked s.now

theorem sendMark_missed (joined : s.isJoined = true) (keeps : s.keepsCadence = true)
    (waiting : s.thread.exchange.outstanding = true) :
    sendMark s = completeStop (allot (sendCommand (missReply s.markStart) s.cadence.pendingOffset)) := by
  have pending : s.marked.cadence.pendingOffset = s.cadence.pendingOffset := (ownPeriod_count s.cadence).2
  have miss : s.markStart.missed = missReply s.markStart := by
    unfold State.missed
    rw [markStart_eq]
    exact if_pos waiting
  rw [sendMark_eq, beginPeriod_works s.now (State.periodWorks_of_joined (s := s.marked) joined keeps), pending]
  exact congrArg (fun u => completeStop (allot (sendCommand u s.cadence.pendingOffset))) miss

/-- R81: the third miss of a thread that a period finds neither OFF nor TRIPPED trips it before the commands. -/
theorem sendMark_trips (joined : s.isJoined = true) (keeps : s.keepsCadence = true)
    (waiting : s.thread.exchange.outstanding = true) (third : s.thread.missCount + 1 = 3)
    (inService : s.thread.portOut = false) (awake : s.thread.state.quietable = false ∨ s.mayStart = true)
    (below : s.log.newest < Config.lastSequence) (room : s.link.queue.length < 8) :
    (sendMark s).thread.state = .tripped ∧ (sendMark s).holdsCause clsStack 3 = true ∧
    (sendMark s).thread.exchange.sent.gates = false ∧ (sendMark s).thread.exchange.sent.breakerClosed = false ∧
    (sendMark s).allotment.pCommand = 0 ∧ (sendMark s).allotment.qCommand = 0 ∧
    s.Logged (sendMark s) s.own clsStack 3 2 2 (some 3) none := by
  have start := markStart_eq s
  have state : s.markStart.thread.state ≠ .off ∧ s.markStart.thread.state ≠ .tripped := by
    rw [markStart_thread]
    rcases awake with busy | able
    · split
      · simp
      · constructor <;> intro eq <;> rw [eq] at busy <;> cases busy
    · simp [able]
  have quiet : s.markStart.quiet.state ≠ .quiet := by
    rw [start]
    exact (s.keepsCadence_iff).mp keeps
  rw [sendMark_missed joined keeps waiting]
  generalize s.markStart = a at start state quiet
  have trip := missReply_third (s := a) (by rw [start]; exact third) (by rw [start]; exact inService)
  rw [if_neg (fun rests => rests.elim state.1 state.2)] at trip
  have fresh : (addCause { a with thread := { a.thread.afterMiss with portOut := true } } clsStack 3).thread.state ≠
    .tripped :=
    state.2
  have action : reportAction { a with thread := { a.thread.afterMiss with portOut := true } } clsStack 3 .tripThread =
      .threadTripped := reportAction_trip state.2 (by decide)
  have log : (missReply a).log = s.log.enter s.now s.own clsStack 3 2 2 (some 3) none := by
    rw [trip, reportFault_apart _ _ _ (by decide), takeReport_log _ _ _ _ (by simp) (by rw [start]; exact room),
      action, start]
    rfl
  have held : (missReply a).holdsCause clsStack 3 = true := by
    rw [trip, reportTrip_awake _ _ rfl (by decide) (by exact quiet)]
    exact (holdsCause_tripThread ..).trans (holdsCause_addCause ..)
  have tripped : (missReply a).thread.state = .tripped := by
    rw [trip, reportTrip_awake _ _ rfl (by decide) (by exact quiet)]
    exact tripThread_state _
  generalize missReply a = b at log held tripped
  rw [completeStop_other (s := allot (sendCommand b s.cadence.pendingOffset))
    (fun stop => absurd (tripped.symm.trans stop) (by simp))]
  have zero := allot_of_zero (s := sendCommand b s.cadence.pendingOffset) (by
    show b.thread.state.zeroCommands = true
    rw [tripped]
    rfl)
  refine ⟨tripped, held, ?_, ?_, ?_, ?_, logged_of_log below log⟩
  · show b.thread.state.gates = false
    rw [tripped]
    rfl
  · show breakerCommand b.thread.state _ = false
    rw [tripped]
    rfl
  · rw [zero]
  · rw [zero]

/-- R81: the third miss of a thread that rests, and starts nothing, is a WARN, and the period goes on. -/
theorem sendMark_warns (joined : s.isJoined = true) (keeps : s.keepsCadence = true)
    (waiting : s.thread.exchange.outstanding = true) (third : s.thread.missCount + 1 = 3)
    (inService : s.thread.portOut = false) (rests : s.thread.state.quietable = true) (unable : s.mayStart = false)
    (below : s.log.newest < Config.lastSequence) (room : s.link.queue.length < 8) :
    s.PeriodBegun (sendMark s) s.now ∧ (sendMark s).thread.state = s.thread.state ∧
    s.Logged (sendMark s) s.own clsStack 3 1 1 (some 3) none := by
  have start := markStart_eq s
  have state : s.markStart.thread.state = s.thread.state := by rw [markStart_thread, unable]; rfl
  have quiet : s.markStart.quiet.state ≠ .quiet := by
    rw [start]
    exact (s.keepsCadence_iff).mp keeps
  have miss : s.markStart.missed = missReply s.markStart := by
    unfold State.missed
    rw [markStart_eq]
    exact if_pos waiting
  have same : s.markStart.SamePeriod (missReply s.markStart) :=
    missReply_warn_samePeriod quiet (by rw [start]; exact third) (by rw [start]; exact inService) (state ▸ rests)
  have begun : s.PeriodBegun (sendMark s) s.now := sendMark_begun joined keeps (miss.symm ▸ same)
  have off : s.markStart.thread.state = .off ∨ s.markStart.thread.state = .tripped := by
    rw [state]
    exact (ThreadState.quietable_iff _).mp rests
  have warn := missReply_third (s := s.markStart) (by rw [start]; exact third) (by rw [start]; exact inService)
  rw [if_pos off] at warn
  have log : (missReply s.markStart).log = s.log.enter s.now s.own clsStack 3 1 1 (some 3) none := by
    rw [warn, reportFault_apart _ _ _ (by decide), takeReport_log _ _ _ _ (by simp) (by rw [start]; exact room)]
    rw [start]
    rfl
  have thread := same.thread.trans state
  refine ⟨begun, ?_, logged_of_log below ?_⟩
  · rw [sendMark_missed joined keeps waiting, completeStop_other]
    · exact thread
    · exact fun stop => by
        have stopping : s.thread.state = .stopping := thread.symm.trans stop
        rw [stopping] at rests
        cases rests
  · rw [sendMark_missed joined keeps waiting, completeStop_eq]
    generalize missReply s.markStart = b at log
    exact log

/-- What every miss of a period leaves, reported or not. -/
theorem sendMark_miss (joined : s.isJoined = true) (keeps : s.keepsCadence = true)
    (waiting : s.thread.exchange.outstanding = true) :
    (sendMark s).thread.missCount = min 255 (s.thread.missCount + 1) ∧ (sendMark s).thread.recoveryCount = 0 ∧
    (sendMark s).thread.exchange.outstanding = true ∧ (sendMark s).thread.exchange.begun = s.now ∧
    (sendMark s).thread.exchange.sent.number = (s.thread.exchange.sent.number + 1) % 256 ∧
    (sendMark s).thread.exchange.sent.offset = s.cadence.pendingOffset ∧
    (sendMark s).thread.validity = s.thread.afterMiss.validity ∧
    (sendMark s).thread.portOut = (s.thread.portOut || decide (s.thread.missCount + 1 = 3)) := by
  have start := markStart_eq s
  have quiet : s.markStart.quiet.state ≠ .quiet := by
    rw [start]
    exact (s.keepsCadence_iff).mp keeps
  obtain ⟨count, recovery, sent, validity, port⟩ := missReply_record s.markStart quiet
  have now : (missReply s.markStart).now = s.now := by
    have kept : (missReply s.markStart).now = s.markStart.now := by
      unfold missReply
      dsimp only
      split <;> simp
    rw [kept, start]
    rfl
  have before : s.markStart.thread.missCount = s.thread.missCount ∧ s.markStart.thread.portOut = s.thread.portOut ∧
      s.markStart.thread.exchange.sent = s.thread.exchange.sent ∧
      s.markStart.thread.afterMiss.validity = s.thread.afterMiss.validity := by
    rw [start]
    exact ⟨rfl, rfl, rfl, rfl⟩
  obtain ⟨missCount, portOut, sent', validity'⟩ := before
  obtain ⟨countKept, recoveryKept, exchangeKept, validityKept, portKept⟩ :=
    completeStop_record (allot (sendCommand (missReply s.markStart) s.cadence.pendingOffset))
  rw [sendMark_missed joined keeps waiting, exchangeKept, countKept, recoveryKept, validityKept, portKept]
  refine ⟨?_, recovery, rfl, now, ?_, rfl, ?_, ?_⟩
  · rw [← missCount]
    exact count
  · rw [← sent', ← sent]
    rfl
  · rw [← validity']
    exact validity
  · rw [← missCount, ← portOut]
    exact port

/-! ## The statement -/

theorem lineIdle_of {r : Nat} (since : s.receiver.recessiveSince = some r) (idle : r + 48 ≤ s.now)
    (unmarked : s.link.ownMark = none) : s.lineIdle false = true :=
  (s.lineIdle_iff false).mpr ⟨rfl, unmarked, r, since, idle⟩

/-- R26: the run of the station's own mark ends it. -/
theorem dominantRunEnd_ownMark {m : Nat} (length : Nat) (early : Fin 4) (on : s.running = true)
    (mark : s.link.ownMark = some m)
    (going : ∀ c, s.quiet.call = some c → c.done < 3) (long : 16 ≤ length)
    (few : s.phaseAt (s.now - (4 * length + early)) = .receiving → s.link.windowDiscards ≠ 50) :
    dominantRunEnd s length early = { s with
      receiver := (dominantRunEnd s length early).receiver,
      link := { s.linkAfterRun (s.now - (4 * length + early)) with ownMark := none } } := by
  have start : runStart s.now length early = s.now - (4 * length + early) := by
    simp [runStart, Config.bitTime, Nat.mul_comm]
  have run := receiveRun_long s length _ long few
  unfold dominantRunEnd
  rw [if_pos on]
  dsimp only
  rw [if_pos (by simp [mark]), start]
  generalize (receiveRun s (classifyRun length) (s.now - (4 * length + ↑early))).receiver = rec at run
  rw [run]
  unfold endOwnMark ownMarkEnds
  dsimp only [endRun]
  split
  · rfl
  case h_2 c call =>
    rw [if_neg (Nat.not_le.mpr (going c call))]

/-- Settles O18: each way a period begins is one `beginPeriod`, with the miss it may find. -/
theorem periodsOfTheOwnTimer : Obligations.PeriodsOfTheOwnTimer := by
  refine ⟨fun s t0 free keeps timer due onTime few => ⟨fun joined => ?expiry, fun silent dominant => ?silent⟩,
    fun s t0 joined keeps late timer few => ?overdue, fun s => ⟨fun m joined mark => ?drives, fun out => ?released⟩,
    fun s t0 joined keeps timer due onTime waiting => ?missed, fun s length early m on mark going long => ?ownMark⟩
  case expiry =>
    have on : s.isJoined = true := (s.isJoined_iff).mpr ⟨free, joined⟩
    have mark := sendMark_mark on keeps (missesSilently_of few)
    have seeks := ownPeriod_seeks s.cadence
    have expiry (dominant : Bool) := cadenceExpiry_joined on keeps timer due dominant
    refine ⟨congrArg Host.Outcome.next ((expiry true).trans (by simp [takeExpiry, onTime])), _,
      congrArg Host.Outcome.next ((expiry false).trans (takeExpiry_recessive onTime)), ?_, mark.1, mark.2.1, ?_, ?_⟩
    · exact (missesSilently_of few).begun on keeps
    · rw [mark.2.2.1, mark.2.2.2]
      exact seeks.1
    · rw [mark.2.2.1, mark.2.2.2]
      exact seeks.2
  case silent =>
    have works : s.periodWorks = true := by simp [State.periodWorks, keeps, State.isSilent, free, silent]
    have same := periodStart_samePeriod s.now (missesSilently_of few)
    have link := (beginPeriod_link s.now works (missesSilently_of few)).1
    obtain ⟨reference, seekCount⟩ := beginPeriod_reference s.now works same
    exact ⟨_, congrArg Host.Outcome.next (cadenceExpiry_silent free silent keeps timer due dominant),
      beginPeriod_begun s.now works same, link, reference, seekCount⟩
  case overdue =>
    have silent := missesSilently_of few
    refine ⟨?_, fun r since early => ?_, fun r since idle unmarked => ?_, fun past => ?_, fun early => ?_⟩
    · exact congrArg Host.Outcome.next (if_neg fun ready => by simp [State.lineIdle] at ready)
    · refine congrArg Host.Outcome.next (if_neg fun ready => ?_)
      obtain ⟨-, -, r', since', idle⟩ := (s.lineIdle_iff false).mp ready.2.2.2
      cases since.symm.trans since'
      omega
    · have eq : overdueMark s false = sendMark s := if_pos ⟨late, joined, keeps, lineIdle_of since idle unmarked⟩
      exact ⟨_, congrArg Host.Outcome.next eq,
        silent.begun joined keeps, (sendMark_mark joined keeps silent).1⟩
    · have eq : standInPeriod s = beginPeriod { s with cadence := s.cadence.seek } s.now :=
        if_pos ⟨late, joined, keeps, (Timer.reached_iff ..).mpr ⟨t0, timer, by rwa [← Nat.add_assoc]⟩⟩
      have works := State.periodWorks_of_joined (s := { s with cadence := s.cadence.seek }) joined keeps
      have same := periodStart_samePeriod (s := { s with cadence := s.cadence.seek }) s.now silent
      have link := (beginPeriod_link s.now works silent).1
      obtain ⟨reference, seekCount⟩ := beginPeriod_reference s.now works same
      exact ⟨_, congrArg Host.Outcome.next eq, (beginPeriod_begun s.now works same).of rfl rfl,
        link, reference, seekCount⟩
    · refine congrArg Host.Outcome.next (if_neg fun ready => ?_)
      obtain ⟨t1, timer', past⟩ := (Timer.reached_iff ..).mp ready.2.2.2
      cases timer.symm.trans timer'
      omega
  case drives => simp [State.drivesMark, joined, mark, Config.markTime, Config.bitTime]
  case released => rcases out with out | none <;> simp [State.drivesMark, *]
  case missed =>
    have eq := (cadenceExpiry_joined joined keeps timer due false).trans (takeExpiry_recessive onTime)
    obtain ⟨count, recovery, outstanding, begun, number, offset, validity, port⟩ := sendMark_miss joined keeps waiting
    refine ⟨_, congrArg Host.Outcome.next eq, count, recovery, outstanding, begun, number, offset, ?_,
      fun other => ⟨?_, ?_⟩,
      fun third => ?_, fun third inService awake below room => ?_, fun third inService rests unable below room => ?_,
      fun third out => ⟨?_, ?_⟩⟩
    · rw [validity]
      have held : countHeld 255 s.thread.missCount ≤ 2 ↔ s.thread.missCount + 1 ≤ 2 := by
        unfold countHeld
        omega
      simp only [ThreadControl.afterMiss, held]
    · exact State.MissesSilently.begun joined keeps fun _ => .inl other
    · rw [port]
      simp [other]
    · rw [port]
      simp [third]
    · exact sendMark_trips joined keeps waiting third inService awake below room
    · exact sendMark_warns joined keeps waiting third inService rests unable below room
    · exact State.MissesSilently.begun joined keeps fun _ => .inr out
    · exact (beginPeriod_link s.now (State.periodWorks_of_joined (s := s.marked) joined keeps) (fun _ => .inr out)).2
  case ownMark =>
    intro first few
    refine ⟨_, rfl, dominantRunEnd_ownMark length early on mark going long few, ?_⟩
    rw [dominantRunEnd_ownMark length early on mark going long few]
    simp [State.drivesMark]

end Sys2Proof.Machine
end

section
/-! What an evaluation of the Cooling Unit leaves of the other blocks, and the start of a thread (R84). -/
namespace Sys2Proof.Machine
variable {may : Part → Prop} {s t u : State}

/-! ## The parts a report of an evaluation leaves -/

/-- What stays, or moves only as a report moves it, over the stages of a cooling evaluation. -/
structure State.Aside (s t : State) : Prop where
  now : t.now = s.now
  resets : t.resets = s.resets
  config : t.config = s.config
  wind : t.wind = s.wind
  yaw : t.yaw = s.yaw
  timer : t.cooling.timer = s.cooling.timer
  state : t.link.state = s.link.state
  listenTimer : t.link.listenTimer = s.link.listenTimer
  ownMark : t.link.ownMark = s.link.ownMark
  statusTimer : t.table.statusTimer = s.table.statusTimer
  pending : s.table.changePending = true → t.table.changePending = true
  restartHold : t.thread.restartHold = s.thread.restartHold
  breakerOpen : t.thread.breakerOpenTimer = s.thread.breakerOpenTimer ∨ t.thread.breakerOpenTimer = some s.now
  active : s.quiet.state = .active → t.quiet = s.quiet ∧ t.cadence = s.cadence

theorem State.Aside.refl (s : State) : s.Aside s :=
  ⟨rfl, rfl, rfl, rfl, rfl, rfl, rfl, rfl, rfl, rfl, id, rfl, .inl rfl, fun _ => ⟨rfl, rfl⟩⟩

theorem State.Aside.trans (st : s.Aside t) (tu : t.Aside u) : s.Aside u where
  now := tu.now.trans st.now
  resets := tu.resets.trans st.resets
  config := tu.config.trans st.config
  wind := tu.wind.trans st.wind
  yaw := tu.yaw.trans st.yaw
  timer := tu.timer.trans st.timer
  state := tu.state.trans st.state
  listenTimer := tu.listenTimer.trans st.listenTimer
  ownMark := tu.ownMark.trans st.ownMark
  statusTimer := tu.statusTimer.trans st.statusTimer
  pending := tu.pending ∘ st.pending
  restartHold := tu.restartHold.trans st.restartHold
  breakerOpen := tu.breakerOpen.elim (fun same => st.breakerOpen.imp same.trans same.trans)
    (fun new => .inr (new.trans (by rw [st.now])))
  active was := by
    obtain ⟨quiet, cadence⟩ := st.active was
    obtain ⟨quiet', cadence'⟩ := tu.active (by rw [quiet]; exact was)
    exact ⟨quiet'.trans quiet, cadence'.trans cadence⟩

theorem offerNotice_aside (s : State) (cls code severity action : Nat) (detail : Int) :
    s.Aside (offerNotice s cls code severity action detail) := by
  have state := (LinkMove.offerNotice (may := fun _ => True) s cls code severity action detail).state
  have timers : (offerNotice s cls code severity action detail).link.listenTimer = s.link.listenTimer ∧
      (offerNotice s cls code severity action detail).link.ownMark = s.link.ownMark := by
    unfold offerNotice
    (repeat' split) <;> exact ⟨rfl, rfl⟩
  rw [offerNotice_footprint] at state timers ⊢
  exact { State.Aside.refl s with state := state, listenTimer := timers.1, ownMark := timers.2 }

theorem wakeCause_aside (s : State) : s.Aside (wakeCause s) := by
  have move := QuietMove.wakeCause (may := fun _ => True) s
  have pending : s.table.changePending = true → (wakeCause s).table.changePending = true := by
    intro on
    unfold wakeCause
    (repeat' split) <;> first | exact on | rfl
  have active : s.quiet.state = .active → wakeCause s = s := wakeCause_active s
  rw [move.footprint] at pending active ⊢
  exact { State.Aside.refl s with pending := pending, active := fun was => by rw [active was]; exact ⟨rfl, rfl⟩ }

theorem tripThread_aside (s : State) : s.Aside (tripThread s) := by
  by_cases tripped : s.thread.state = .tripped
  · rw [tripThread_tripped s tripped]
    exact .refl s
  · have pending : (tripThread s).table.changePending = true := by
      simp [tripThread, setThread, tripped, markChange]
    rw [tripThread_eq s tripped] at pending ⊢
    exact { State.Aside.refl s with pending := fun _ => pending, breakerOpen := .inr rfl }

/-- R151: a report of which Yaw Control is not told. -/
theorem reportFault_aside (s : State) {cls code : Nat} (severity : Severity) (detail : Int) (notNote : severity ≠ .note)
    (apart : barsSession cls code = false) : s.Aside (reportFault s cls code severity detail) := by
  rw [reportFault_apart s severity detail apart, takeReport_eq s cls code detail notNote]
  have first : s.Aside (tripFirst s cls code severity) := by
    unfold tripFirst
    split
    · exact State.Aside.trans (t := addCause s cls code)
        ⟨rfl, rfl, rfl, rfl, rfl, rfl, rfl, rfl, rfl, rfl, id, rfl, .inl rfl, fun _ => ⟨rfl, rfl⟩⟩ (tripThread_aside _)
    · exact .refl s
  have recorded : (tripFirst s cls code severity).Aside (enterRecord (tripFirst s cls code severity) s.own cls code
      severity.code (reportAction s cls code severity).code (some detail) none) :=
    ⟨rfl, rfl, rfl, rfl, rfl, rfl, rfl, rfl, rfl, rfl, id, rfl, .inl rfl, fun _ => ⟨rfl, rfl⟩⟩
  exact first.trans (recorded.trans ((offerNotice_aside ..).trans (wakeCause_aside _)))

/-- The stages write the Cooling Unit but for its timer. -/
theorem cooling_aside (s : State) (c : CoolingUnit) (timer : c.timer = s.cooling.timer) :
    s.Aside { s with cooling := c } :=
  { State.Aside.refl s with timer := timer }

theorem barsSession_of_ne {cls code : Nat} (other : cls ≠ clsPlant) : barsSession cls code = false := by
  simp [barsSession, other]

/-- A report of the Cooling Unit. -/
theorem warn_aside (s : State) (c : CoolingUnit) (timer : c.timer = s.cooling.timer) (cls code : Nat) (detail : Int)
    (other : cls ≠ clsPlant) : s.Aside (reportFault { s with cooling := c } cls code .warn detail) :=
  (cooling_aside s c timer).trans (reportFault_aside _ .warn detail (by simp) (barsSession_of_ne other))

/-! ## The stages of an evaluation -/

theorem reportSensor_aside (before : Sensor) (reading : Option Int) (code : Nat) (c : CoolingUnit)
    (timer : c.timer = s.cooling.timer) : s.Aside (reportSensor before reading code { s with cooling := c }) := by
  unfold reportSensor
  split
  · exact warn_aside s c timer clsThermal code _ (by decide)
  · exact cooling_aside s c timer

theorem senseHeatsink_aside (s : State) : s.Aside (senseHeatsink s) := by
  unfold senseHeatsink
  split
  · exact .refl s
  case h_2 reading _ => exact reportSensor_aside _ reading 2
                          { s.cooling with heatsink := s.cooling.heatsink.step reading } rfl

theorem senseInlet_aside (reading : Option Int) (s : State) : s.Aside (senseInlet reading s) :=
  reportSensor_aside _ reading 3 { s.cooling with inlet := s.cooling.inlet.step reading } rfl

theorem senseOutlet_aside (reading : Option Int) (s : State) : s.Aside (senseOutlet reading s) :=
  reportSensor_aside _ reading 5 { s.cooling with outlet := s.cooling.outlet.step reading } rfl

theorem formFactor_aside (s : State) : s.Aside (formFactor s) := { State.Aside.refl s with timer := rfl }

theorem derateNote_aside (s : State) : s.Aside (derateNote s) := by
  unfold derateNote
  (repeat' split) <;> exact { State.Aside.refl s with timer := rfl }

theorem heatsinkTrip_aside (s : State) : s.Aside (heatsinkTrip s) := by
  unfold heatsinkTrip
  split
  case isFalse => exact .refl s
  split
  · exact (cooling_aside s { s.cooling with thermalFlag := true } rfl).trans
      (reportFault_aside (cls := clsThermal) (code := 1) _ .tripThread _ (by simp) (by decide))
  split
  · exact { State.Aside.refl s with timer := rfl }
  · exact .refl s

theorem formDemands_aside (s : State) : s.Aside (formDemands s) := { State.Aside.refl s with timer := rfl }

theorem mergeCommand_aside (s : State) : s.Aside (mergeCommand s) := by
  unfold mergeCommand
  split
  · exact cooling_aside s _ rfl
  · exact .refl s

theorem judgeProof_aside (command : Nat) (s : State) : s.Aside (judgeProof command s) := by
  unfold judgeProof
  dsimp only
  split
  · exact .refl s
  split
  · exact warn_aside s { s.cooling with
      lowRun := _, highRun := _, tachCount := 0, healthy := false } rfl clsCooling _ _ (by decide)
  split <;> exact cooling_aside s _ rfl

theorem pumpAbsence_aside (s : State) : s.Aside (pumpAbsence s) := by
  unfold pumpAbsence
  dsimp only
  split
  · split
    · exact warn_aside s { s.cooling with absenceRun := _, absenceLogged := true } rfl clsCooling 3 0 (by decide)
    · exact cooling_aside s _ rfl
  · exact cooling_aside s _ rfl

theorem capabilityAtEvaluation_aside (s : State) : s.Aside (capabilityAtEvaluation s) := by
  unfold capabilityAtEvaluation
  split
  · exact { State.Aside.refl s with timer := rfl }
  · exact .refl s

theorem thermalStages_aside (s : State) (inlet outlet : Option Int) : s.Aside (thermalStages s inlet outlet) :=
  (senseHeatsink_aside s).trans <| (senseInlet_aside inlet _).trans <| (senseOutlet_aside outlet _).trans <|
    (formFactor_aside _).trans <| (derateNote_aside _).trans (heatsinkTrip_aside _)

theorem coolingStages_aside (s : State) (inlet outlet : Option Int) : s.Aside (coolingStages s inlet outlet) :=
  (thermalStages_aside s inlet outlet).trans <| (formDemands_aside _).trans <| (mergeCommand_aside _).trans <|
    (judgeProof_aside _ _).trans <| (pumpAbsence_aside _).trans (capabilityAtEvaluation_aside _)

/-! ## The start of a thread (R84) -/

theorem State.mayStart_iff (s : State) : s.mayStart = true ↔
    s.thread.state = .off ∧ s.demand.mode = .produce ∧ s.table.controller.state = .live ∧
    0 < s.allotment.capability ∧ s.fault.causes = [] ∧ s.quiet.state = .active ∧ s.isJoined = true ∧
    s.thread.restartHold.remaining s.now Config.restartHold = 0 ∧ s.thread.portOut = false := by
  simp [State.mayStart, and_assoc]

theorem Timer.remaining_eq_zero (t : Timer) (now length : Nat) :
    t.remaining now length = 0 ↔ ∀ h, t = some h → h + length ≤ now := by
  cases t <;> simp [Timer.remaining]
  omega

/-- R81: what a miss does, by whether it is the third in service. -/
theorem missReply_cases (s : State) : missReply s = { s with thread := s.thread.afterMiss } ∨
    missReply s = reportFault { s with thread := { s.thread.afterMiss with portOut := true } } clsStack 3
      (if s.thread.state = .off ∨ s.thread.state = .tripped then .warn else .tripThread) 3 := by
  by_cases third : s.thread.missCount + 1 = 3
  · cases out : s.thread.portOut with
    | true => exact .inl (missReply_silent (.inr out))
    | false => exact .inr (missReply_third third out)
  · exact .inl (missReply_silent (.inl third))

/-- A miss trips the thread or leaves its state. -/
theorem missed_thread (s : State) : s.missed.thread.state = s.thread.state ∨ s.missed.thread.state = .tripped := by
  unfold State.missed
  split
  case isFalse => exact .inl rfl
  rcases missReply_cases s with silent | report
  · exact .inl (by rw [silent]; rfl)
  · rw [report]
    split
    · exact .inl (reportFault_warn_threadState ..)
    · right
      rw [reportFault_apart _ _ _ (by decide), takeReport_eq _ _ _ _ (by simp)]
      simp [tripFirst, Severity.trips]

/-- A miss leaves an ACTIVE station ACTIVE. -/
theorem missed_active (active : s.quiet.state = .active) : s.missed.quiet.state = .active := by
  unfold State.missed
  split
  case isFalse => exact active
  rcases missReply_cases s with silent | report
  · rw [silent]
    exact active
  · have aside := reportFault_aside { s with thread := { s.thread.afterMiss with portOut := true } } (cls := clsStack)
      (code := 3) (if s.thread.state = .off ∨ s.thread.state = .tripped then .warn else .tripThread) 3
      (by split <;> simp) (by decide)
    rw [report]
    exact (congrArg QuietControl.state (aside.active active).1).trans active

/-- R84: a period leaves a thread that rests OFF or TRIPPED, unless it starts it. -/
theorem beginPeriod_starts (restart : Nat) (rests : s.thread.state.quietable = true)
    (awake : (beginPeriod s restart).thread.state.quietable = false) :
    s.mayStart = true ∧ (beginPeriod s restart).thread.state = .precharge ∧
    (beginPeriod s restart).quiet.state = .active := by
  cases works : s.periodWorks with
  | false =>
    rw [beginPeriod_rests restart works] at awake
    exact absurd (rests.symm.trans awake) (by simp)
  | true =>
    rw [beginPeriod_works restart works] at awake ⊢
    have start := periodStart_thread s restart
    have active : s.quiet.state = .active → (s.periodStart restart).missed.quiet.state = .active := fun was =>
      missed_active (by rw [periodStart_eq]; exact was)
    have missed := missed_thread (s.periodStart restart)
    generalize (s.periodStart restart).missed = b at missed active awake
    have still : b.thread.state ≠ .stopping := by
      rcases missed with same | tripped
      · rw [same, start]
        rcases (ThreadState.quietable_iff _).mp rests with off | tripped <;> split <;> simp [*]
      · simp [tripped]
    rw [completeStop_other (s := allot (sendCommand b s.cadence.pendingOffset)) still] at awake ⊢
    have awake : b.thread.state.quietable = false := awake
    rcases missed with same | tripped
    · rw [same, start] at awake
      by_cases able : s.mayStart = true
      · refine ⟨able, (same.trans start).trans (if_pos able), active ?_⟩
        exact ((s.mayStart_iff).mp able).2.2.2.2.2.1
      · rw [if_neg able] at awake
        exact absurd (rests.symm.trans awake) (by simp)
    · simp [tripped, ThreadState.quietable] at awake

/-- What R84 says of a command that starts the thread, for the state before it. -/
def State.Started (s t : State) : Prop :=
  t.thread.state = .precharge ∧ s.demand.mode = .produce ∧ s.table.controller.state = .live ∧
  0 < s.allotment.capability ∧ s.fault.causes = [] ∧ t.quiet.state = .active ∧ s.isJoined = true ∧
  s.thread.portOut = false ∧ ∀ h, s.thread.restartHold = some h → h + Config.restartHold ≤ s.now

/-- R84: the start conditions are met by a state when they are met by one that differs from it elsewhere. -/
theorem State.Started.of_period {restart : Nat} (rests : u.thread.state.quietable = true)
    (awake : (beginPeriod u restart).thread.state.quietable = false)
    (controller : u.table.controller = s.table.controller) (allotment : u.allotment = s.allotment)
    (fault : u.fault = s.fault)
    (joined : u.isJoined = s.isJoined) (port : u.thread.portOut = s.thread.portOut)
    (hold : u.thread.restartHold = s.thread.restartHold) (now : u.now = s.now) : s.Started (beginPeriod u restart) := by
  obtain ⟨able, precharge, active⟩ := beginPeriod_starts restart rests awake
  obtain ⟨-, produce, live, capable, none, -, on, held, inService⟩ := (u.mayStart_iff).mp able
  have demand : u.demand = s.demand := congrArg Entry.demand controller
  exact ⟨precharge, demand ▸ produce, controller ▸ live, allotment ▸ capable, fault ▸ none, active, joined ▸ on,
    port ▸ inService, (Timer.remaining_eq_zero ..).mp (by rw [← hold, ← now]; exact held)⟩

theorem takeExpiry_started {dominant : Bool} (rests : s.thread.state.quietable = true)
    (awake : (takeExpiry s dominant).thread.state.quietable = false) : s.Started (takeExpiry s dominant) := by
  unfold takeExpiry at awake ⊢
  split
  case isTrue late =>
    rw [if_pos late] at awake
    exact absurd (rests.symm.trans awake) (by simp)
  case isFalse onTime =>
    rw [if_neg onTime] at awake
    split
    case isTrue dominant =>
      rw [if_pos dominant] at awake
      exact absurd (rests.symm.trans awake) (by simp)
    case isFalse recessive =>
      rw [if_neg recessive] at awake
      exact State.Started.of_period (u := s.marked) rests awake rfl rfl rfl rfl rfl rfl rfl

/-! ## The commands that begin a period -/

theorem cadenceExpiry_started {dominant : Bool} (rests : s.thread.state.quietable = true)
    (awake : (cadenceExpiry s dominant).thread.state.quietable = false) : s.Started (cadenceExpiry s dominant) := by
  have still (u : State) (same : u.thread.state = s.thread.state) : u.thread.state.quietable ≠ false := by
    rw [same, rests]
    simp
  unfold cadenceExpiry at awake ⊢
  split
  case isFalse early => exact absurd ((if_neg early : ite _ _ s = s) ▸ awake) (still s rfl)
  case isTrue due =>
    rw [if_pos due] at awake
    split
    case isTrue joined =>
      rw [if_pos joined] at awake
      exact takeExpiry_started rests awake
    case isFalse out =>
      rw [if_neg out] at awake
      split
      case isTrue silent =>
        rw [if_pos silent] at awake
        exact .of_period rests awake rfl rfl rfl rfl rfl rfl rfl
      case isFalse other =>
        rw [if_neg other] at awake
        exact absurd awake (still s rfl)

theorem overdueMark_started {dominant : Bool} (rests : s.thread.state.quietable = true)
    (awake : (overdueMark s dominant).thread.state.quietable = false) : s.Started (overdueMark s dominant) := by
  unfold overdueMark at awake ⊢
  split
  case isFalse waits =>
    rw [if_neg waits] at awake
    exact absurd (rests.symm.trans awake) (by simp)
  case isTrue idle =>
    rw [if_pos idle] at awake
    exact State.Started.of_period (u := s.marked) rests awake rfl rfl rfl rfl rfl rfl rfl

theorem standInPeriod_started (rests : s.thread.state.quietable = true)
    (awake : (standInPeriod s).thread.state.quietable = false) : s.Started (standInPeriod s) := by
  unfold standInPeriod at awake ⊢
  split
  case isFalse waits =>
    rw [if_neg waits] at awake
    exact absurd (rests.symm.trans awake) (by simp)
  case isTrue late =>
    rw [if_pos late] at awake
    exact State.Started.of_period (u := { s with cadence := s.cadence.seek }) rests awake rfl rfl rfl rfl rfl rfl rfl

/-- R98: the restart hold begun at joining bars a start at the first period. -/
theorem listenTimeout_rests (dominant : Bool) (inlet outlet : Option Int) (rests : s.thread.state.quietable = true) :
    (listenTimeout s dominant inlet outlet).thread.state.quietable = true := by
  by_contra awake
  have awake : (listenTimeout s dominant inlet outlet).thread.state.quietable = false := by simpa using awake
  unfold listenTimeout at awake
  split at awake
  case isFalse => exact absurd (rests.symm.trans awake) (by simp)
  have aside := coolingStages_aside (enterJoined s) inlet outlet
  have moves := coolingStages_moves (may := (· = .cooling)) (.refl (enterJoined s)) inlet outlet rfl
  have still := moves.framed.resting (by simp) rests
  generalize coolingStages (enterJoined s) inlet outlet = u at aside still awake
  unfold beginCadence at awake
  split at awake
  · have started := takeExpiry_started still awake
    have held := started.2.2.2.2.2.2.2.2 s.now aside.restartHold
    have now : u.now = s.now := aside.now
    simp only [now, Config.restartHold, Config.ms] at held
    omega
  · exact absurd (still.symm.trans awake) (by simp)

/-- What a discard counted leaves of what a period reads. -/
structure State.PeriodView (s t : State) : Prop where
  controller : t.table.controller = s.table.controller
  allotment : t.allotment = s.allotment
  fault : t.fault = s.fault
  joined : t.isJoined = s.isJoined
  port : t.thread.portOut = s.thread.portOut
  hold : t.thread.restartHold = s.thread.restartHold
  now : t.now = s.now
  thread : t.thread.state = s.thread.state

theorem reportWarn_view (s : State) (cls code : Nat) (detail : Int) :
    s.PeriodView (reportFault s cls code .warn detail) := by
  have state := (reportWarn_moves (may := fun _ => False) (cls := cls) (code := code) (detail := detail)
    (.refl s)).framed
  have aside : (reportFault s cls code .warn detail).isJoined = s.isJoined := by
    refine isJoined_congr state.resets ?_
    rw [reportWarn_eq, takeReport_eq s cls code detail (by simp), wakeCause_footprint]
    exact (offerNotice_aside _ cls code _ _ detail).state
  rw [reportWarn_footprint] at aside ⊢
  exact ⟨rfl, rfl, rfl, aside, rfl, rfl, rfl, rfl⟩

theorem receiveRun_view (s : State) (c : RunClass) (start : Nat) : s.PeriodView (receiveRun s c start) := by
  rcases receiveRun_cases s c start with ⟨-, run⟩ | ⟨-, run⟩
  · rw [run]
    unfold countDiscard
    dsimp only
    split
    · obtain ⟨a, b, c, d, e, f, g, h⟩ := reportWarn_view { s with
        receiver := { s.receiver with phase := phaseAfterRun c (s.phaseAt start) },
        link := { s.link with windowDiscards := countHeld 65535 s.link.windowDiscards } } clsLink 3 51
      exact ⟨a, b, c, d, e, f, g, h⟩
    · exact ⟨rfl, rfl, rfl, rfl, rfl, rfl, rfl, rfl⟩
  · rw [run]
    exact ⟨rfl, rfl, rfl, rfl, rfl, rfl, rfl, rfl⟩

theorem hearMark_started (firstBit : Nat) (view : s.PeriodView t) (rests : s.thread.state.quietable = true)
    (awake : (hearMark t firstBit).thread.state.quietable = false) : s.Started (hearMark t firstBit) := by
  obtain ⟨controller, allotment, fault, joined, port, hold, now, thread⟩ := view
  have resting : t.thread.state.quietable = true := thread ▸ rests
  unfold hearMark at awake ⊢
  split
  case h_1 seeking =>
    simp only [seeking] at awake
    exact State.Started.of_period (u := { t with cadence := { t.cadence with reference := .locked } }) resting awake
      controller allotment fault joined port hold now
  case h_2 locked =>
    simp only [locked] at awake
    split
    case isTrue accepted =>
      rw [if_pos accepted] at awake
      exact State.Started.of_period resting awake controller allotment fault joined port hold now
    case isFalse early =>
      rw [if_neg early] at awake
      have still : (countEarly t).thread.state = t.thread.state := by
        unfold countEarly
        dsimp only
        split
        · exact reportFault_warn_threadState ..
        · rfl
      rw [still, resting] at awake
      cases awake

theorem dominantRunEnd_started (length : Nat) (early : Fin 4) (rests : s.thread.state.quietable = true)
    (awake : (dominantRunEnd s length early).thread.state.quietable = false) :
    s.Started (dominantRunEnd s length early) := by
  have still {u : State} (same : u.thread.state = s.thread.state) : u.thread.state.quietable ≠ false := by
    rw [same, rests]
    simp
  revert awake
  unfold dominantRunEnd
  split
  case isFalse => exact fun awake => absurd awake (still rfl)
  dsimp only
  generalize run : receiveRun s (classifyRun length) (runStart s.now length early) = v
  have view : s.PeriodView (endRun v) := by
    obtain ⟨a, b, c, d, e, f, g, h⟩ := receiveRun_view s (classifyRun length) (runStart s.now length early)
    exact run ▸ ⟨a, b, c, d, e, f, g, h⟩
  split
  · refine fun awake => absurd awake (still ?_)
    unfold endOwnMark ownMarkEnds
    dsimp only
    (repeat' split) <;> exact view.thread
  split
  case isFalse => exact fun awake => absurd awake (still view.thread)
  unfold handMark
  split
  · exact hearMark_started _ view rests
  · split
    · exact hearMark_started _ view rests
    · refine fun awake => absurd awake (still ?_)
      unfold quietHearsMark hearCallMark callHearsMark standForMark
      dsimp only
      (repeat' split) <;> exact view.thread
  all_goals exact fun awake => absurd awake (still view.thread)

/-- R84: a command that takes a thread out of OFF, but by a trip, has found the start conditions met. -/
theorem exec_started {c : Instr} (done : exec c s = .next t) (off : s.thread.state = .off)
    (left : t.thread.state ≠ .off)
    (untripped : t.thread.state ≠ .tripped) : s.Started t := by
  have rests : s.thread.state.quietable = true := by rw [off]; rfl
  have awake : t.thread.state.quietable = false := by
    cases quietable : t.thread.state.quietable with
    | false => rfl
    | true => exact absurd ((ThreadState.quietable_iff _).mp quietable) (by simp [left, untripped])
  cases reset : c.isReset with
  | true =>
    rcases reset_cases reset done with rfl | ⟨r, rfl⟩
    · exact absurd off left
    · exact absurd rfl left
  | false =>
    have starts : .start ∈ c.parts := by_contra fun no =>
      absurd (((does_of_exec done reset).framed.resting no rests).symm.trans awake) (by simp)
    rcases offsets_mem_parts.mp (start_mem_parts.mp starts) with
      ⟨n, x, rfl⟩ | ⟨d, rfl⟩ | ⟨d, rfl⟩ | rfl | ⟨d, i, o, rfl⟩ <;>
      cases Host.Outcome.next.inj done
    · exact dominantRunEnd_started n x rests awake
    · exact cadenceExpiry_started rests awake
    · exact overdueMark_started rests awake
    · exact standInPeriod_started rests awake
    · exact absurd ((listenTimeout_rests d i o rests).symm.trans awake) (by simp)

end Sys2Proof.Machine
end

section
/-! The statement on the start of a thread and the end of its stop (R84, R90). -/
namespace Sys2Proof.Machine
variable {s t u : State}

/-- R81: a miss not reported leaves the thread's own timers. -/
theorem missed_silent (silent : s.MissesSilently) : s.missed.thread.state = s.thread.state ∧
    s.missed.thread.stateTimer = s.thread.stateTimer ∧ s.missed.thread.breakerStep = s.thread.breakerStep := by
  unfold State.missed
  split
  case isTrue waiting =>
    rw [missReply_silent (silent waiting)]
    exact ⟨rfl, rfl, rfl⟩
  case isFalse => exact ⟨rfl, rfl, rfl⟩

theorem markStart_silent (silent : s.MissesSilently) : s.markStart.MissesSilently := by
  rw [markStart_eq]
  exact silent

/-- R32: the period of an own mark, from its start on. -/
theorem sendMark_period (joined : s.isJoined = true) (keeps : s.keepsCadence = true) : sendMark s =
    completeStop (allot (sendCommand s.markStart.missed s.cadence.pendingOffset)) := by
  have pending : s.marked.cadence.pendingOffset = s.cadence.pendingOffset := (ownPeriod_count s.cadence).2
  rw [sendMark_eq, beginPeriod_works s.now (State.periodWorks_of_joined (s := s.marked) joined keeps), pending]
  rfl

/-- R84: the period that starts the thread commands the precharge contactor closed. -/
theorem sendMark_starts (able : s.mayStart = true) (keeps : s.keepsCadence = true) (silent : s.MissesSilently) :
    (sendMark s).thread.state = .precharge ∧ (sendMark s).thread.stateTimer = some s.now ∧
    (sendMark s).thread.breakerStep = .waitCharge ∧ (sendMark s).thread.exchange.sent.contactorClosed = true ∧
    (sendMark s).thread.exchange.sent.gates = false ∧ (sendMark s).thread.exchange.sent.breakerClosed = false ∧
    (sendMark s).allotment.pCommand = 0 ∧ (sendMark s).allotment.qCommand = 0 := by
  have joined := ((s.mayStart_iff).mp able).2.2.2.2.2.2.1
  have started : s.markStart.thread.stateTimer = some s.now ∧ s.markStart.thread.breakerStep = .waitCharge := by
    unfold State.markStart State.periodStart
    rw [startTest_of_mayStart (show State.mayStart (latchOffset (s.marked.timed s.now)) = true from able)]
    exact ⟨rfl, rfl⟩
  obtain ⟨state, timer, step⟩ := missed_silent (markStart_silent silent)
  rw [markStart_thread, if_pos able] at state
  rw [started.1] at timer
  rw [started.2] at step
  rw [sendMark_period joined keeps]
  generalize s.markStart.missed = b at state timer step
  have zero := allot_of_zero (s := sendCommand b s.cadence.pendingOffset) (by
    show b.thread.state.zeroCommands = true
    rw [state]
    rfl)
  rw [completeStop_other (s := allot (sendCommand b s.cadence.pendingOffset))
    (fun stop => absurd (state.symm.trans stop) (by simp))]
  refine ⟨state, timer, step, ?_, ?_, ?_, ?_, ?_⟩
  · exact (congrArg ThreadState.contactor state)
  · exact (congrArg ThreadState.gates state)
  · show breakerCommand b.thread.state b.thread.breakerStep = false
    rw [state, step]
    rfl
  · rw [zero]
  · rw [zero]

/-! ## The end of a stop (R90) -/

theorem ramp_to_zero {step : Nat} {command : Int} (near : command.natAbs ≤ step) : ramp step 0 command = 0 := by
  unfold ramp
  rw [if_pos (by omega)]

/-- R66, R69, R70: the commands of a period in STOPPING fall by the slew. -/
theorem allot_stopping (stopping : s.thread.state = .stopping) :
    ((allot s).allotment.pCommand, (allot s).allotment.qCommand) = envelopeRun
    (capabilityOf s.cfg.rated s.cooling.factor)
      (ramp (slew s.cfg.rated) 0 s.allotment.pCommand).toNat (ramp (slew s.cfg.rated) 0 s.allotment.qCommand) := by
  have targets := State.targets_of_stopping (s := setCapability s) stopping
  have commands := State.commands_of_run (s := setCapability s) (.inr stopping) 0 0
  simp only [allot, targets, commands]
  rfl

theorem enterOff_pending (s : State) (other : s.thread.state ≠ .off) : (enterOff s).table.changePending = true := by
  simp [enterOff, setThread, other, markChange]

theorem completeStop_of (stopping : s.thread.state = .stopping)
    (none : s.allotment.pCommand = 0 ∧ s.allotment.qCommand = 0) :
    completeStop s = enterOff s := if_pos ⟨stopping, none⟩

theorem envelopeRun_of_zero (c : Nat) : envelopeRun c 0 0 = (0, 0) := by
  simp only [envelopeRun, Nat.zero_min, Int.mul_zero, Nat.mul_zero, Nat.sub_zero]
  rw [if_neg (by omega)]

/-- R90, R95: the period of a STOPPING thread. -/
theorem sendMark_stopping (joined : s.isJoined = true) (keeps : s.keepsCadence = true) (silent : s.MissesSilently)
    (stopping : s.thread.state = .stopping) :
    (sendMark s).thread.exchange.sent.gates = true ∧ (sendMark s).thread.exchange.sent.breakerClosed = true ∧
    (s.allotment.pCommand ≤ slew s.cfg.rated → s.allotment.qCommand.natAbs ≤ slew s.cfg.rated →
      (sendMark s).thread.state = .off ∧ (sendMark s).thread.restartHold = some s.now ∧
      (sendMark s).table.changePending = true ∧ (sendMark s).allotment.pCommand = 0 ∧
        (sendMark s).allotment.qCommand = 0) ∧
    (slew s.cfg.rated < s.allotment.pCommand → 0 < s.cfg.rated * s.cooling.factor / 1000 →
      (sendMark s).thread.state = .stopping ∧ 0 < (sendMark s).allotment.pCommand) := by
  have unable : s.mayStart = false := by simp [State.mayStart, stopping]
  have same := missed_samePeriod (markStart_silent silent)
  have start := markStart_eq s
  have state : s.markStart.missed.thread.state = .stopping := by
    rw [same.thread, markStart_thread, unable]
    exact stopping
  have now : s.markStart.missed.now = s.now := by rw [same.now, start]; rfl
  have config : s.markStart.missed.config = s.config := by rw [same.config, start]; rfl
  have cooling : s.markStart.missed.cooling = s.cooling := by rw [same.cooling, start]; rfl
  have allotment : s.markStart.missed.allotment = s.allotment := by rw [same.allotment, start]; rfl
  rw [sendMark_period joined keeps]
  generalize s.markStart.missed = b at state now config cooling allotment
  have cfg : b.cfg = s.cfg := congrArg (fun c : ConfigPort => c.values.getD ConfigValues.none) config
  have commands := allot_stopping (s := sendCommand b s.cadence.pendingOffset) state
  have commands : ((allot (sendCommand b s.cadence.pendingOffset)).allotment.pCommand,
      (allot (sendCommand b s.cadence.pendingOffset)).allotment.qCommand) = envelopeRun
        (capabilityOf s.cfg.rated s.cooling.factor) (ramp (slew s.cfg.rated) 0 s.allotment.pCommand).toNat
        (ramp (slew s.cfg.rated) 0 s.allotment.qCommand) := by
    rw [← cfg, ← cooling, ← allotment]
    exact commands
  have nowSent : (allot (sendCommand b s.cadence.pendingOffset)).now = s.now := now
  have stateSent : (allot (sendCommand b s.cadence.pendingOffset)).thread.state = .stopping := state
  have gates : (allot (sendCommand b s.cadence.pendingOffset)).thread.exchange.sent.gates = true :=
    congrArg ThreadState.gates state
  have breaker : (allot (sendCommand b s.cadence.pendingOffset)).thread.exchange.sent.breakerClosed = true := by
    show breakerCommand b.thread.state b.thread.breakerStep = true
    rw [state]
    rfl
  generalize allot (sendCommand b s.cadence.pendingOffset) = a at commands nowSent stateSent gates breaker
  have exchange := (completeStop_record a).2.2.1
  refine ⟨by rw [exchange]; exact gates, by rw [exchange]; exact breaker, fun p q => ?_, fun p able => ?_⟩
  · rw [ramp_to_zero (command := s.allotment.pCommand) (by omega), ramp_to_zero q, Int.toNat_zero,
      envelopeRun_of_zero] at commands
    have none := Prod.mk.inj commands
    have pending := enterOff_pending a (by simp [stateSent])
    rw [completeStop_of stateSent none]
    rw [enterOff_eq] at pending ⊢
    exact ⟨rfl, congrArg some nowSent, pending, none⟩
  · have active : a.allotment.pCommand = min (ramp (slew s.cfg.rated) 0 s.allotment.pCommand).toNat
        (capabilityOf s.cfg.rated s.cooling.factor) := congrArg Prod.fst commands
    have left := le_ramp (slew s.cfg.rated) 0 s.allotment.pCommand
    have capable : 0 < capabilityOf s.cfg.rated s.cooling.factor := able
    have some : 0 < a.allotment.pCommand := by omega
    have stays : completeStop a = a := if_neg fun stop => absurd stop.2.1 some.ne'
    rw [stays]
    exact ⟨stateSent, some⟩

/-- Settles O23: the period of a start and of a stop by its stages; a start found by no command but one that begins a
period. -/
theorem threadStarts : Obligations.ThreadStarts := by
  refine ⟨fun s t0 joined active timer due onTime few off produce live capable none inService held => ?start,
    fun c s t done off left untripped => exec_started done off left untripped,
    fun s t0 joined keeps timer due onTime few stopping => ?stop⟩
  case start =>
    have keeps : s.keepsCadence = true := (s.keepsCadence_iff).mpr (by simp [active])
    have able : s.mayStart = true := (s.mayStart_iff).mpr
      ⟨off, produce, live, capable, none, active, joined, (Timer.remaining_eq_zero ..).mpr held, inService⟩
    have eq := (cadenceExpiry_joined joined keeps timer due false).trans (takeExpiry_recessive onTime)
    exact ⟨_, congrArg Host.Outcome.next eq, sendMark_starts able keeps (missesSilently_of few)⟩
  case stop =>
    have eq := (cadenceExpiry_joined joined keeps timer due false).trans (takeExpiry_recessive onTime)
    exact ⟨_, congrArg Host.Outcome.next eq, sendMark_stopping joined keeps (missesSilently_of few) stopping⟩

end Sys2Proof.Machine
end

section
/-! Joining (R185, R186, R37), and the marks heard from the line (R18, R29 to R31, R36). -/
namespace Sys2Proof.Machine
variable {s t u : State}

/-! ## Joining -/

theorem missed_aside (s : State) : s.Aside s.missed := by
  unfold State.missed
  split
  case isFalse => exact .refl s
  have written (port : Bool) : s.Aside { s with thread := { s.thread.afterMiss with portOut := port } } :=
    ⟨rfl, rfl, rfl, rfl, rfl, rfl, rfl, rfl, rfl, rfl, id, rfl, .inl rfl, fun _ => ⟨rfl, rfl⟩⟩
  rcases missReply_cases s with silent | report
  · rw [silent]
    exact ⟨rfl, rfl, rfl, rfl, rfl, rfl, rfl, rfl, rfl, rfl, id, rfl, .inl rfl, fun _ => ⟨rfl, rfl⟩⟩
  · rw [report]
    exact (written true).trans (reportFault_aside _ _ _ (by split <;> simp) (by decide))

/-- R37: the first mark of a station that joins, its thread at rest and not started. -/
theorem sendMark_joins (joined : s.isJoined = true) (active : s.quiet.state = .active)
    (rests : s.thread.state.quietable = true)
    (unable : s.mayStart = false) (opened : s.thread.breakerOpenTimer = some s.now) :
    (sendMark s).link.state = s.link.state ∧ (sendMark s).link.listenTimer = s.link.listenTimer ∧
    (sendMark s).link.ownMark = some s.now ∧ (sendMark s).table.statusTimer = s.table.statusTimer ∧
    (s.table.changePending = true → (sendMark s).table.changePending = true) ∧
    (sendMark s).thread.restartHold = s.thread.restartHold ∧ (sendMark s).thread.breakerOpenTimer = some s.now ∧
    (sendMark s).yaw = s.yaw ∧ (sendMark s).cooling.timer = s.cooling.timer ∧ (sendMark s).wind = s.wind ∧
    (sendMark s).cadence.timer = some s.now ∧ (sendMark s).cadence.count = (s.cadence.count + 1) % 65536 ∧
    (sendMark s).cadence.expiry = Config.cadence := by
  have keeps : s.keepsCadence = true := (s.keepsCadence_iff).mpr (by simp [active])
  have startEq : s.markStart = { s.marked with cadence := s.markStart.cadence } := by
    unfold State.markStart State.periodStart
    rw [startTest_of_not_mayStart (show State.mayStart (latchOffset (s.marked.timed s.now)) = false from unable)]
    rfl
  have cadence : s.markStart.cadence.timer = some s.now ∧ s.markStart.cadence.count = (s.cadence.count + 1) % 65536 ∧
      s.markStart.cadence.expiry = Config.cadence := by
    unfold State.markStart
    rw [periodStart_eq]
    exact ⟨rfl, congrArg (fun n => (n + 1) % 65536) (ownPeriod_count s.cadence).1, rfl⟩
  have link : s.markStart.link = s.marked.link := by rw [startEq]
  have table : s.markStart.table = s.table := by rw [startEq]; rfl
  have thread : s.markStart.thread = s.thread := by rw [startEq]; rfl
  have yaw : s.markStart.yaw = s.yaw := by rw [startEq]; rfl
  have cooling : s.markStart.cooling = s.cooling := by rw [startEq]; rfl
  have wind : s.markStart.wind = s.wind := by rw [startEq]; rfl
  have now : s.markStart.now = s.now := by rw [startEq]; rfl
  have quiet : s.markStart.quiet.state = .active := by rw [startEq]; exact active
  have aside := missed_aside s.markStart
  have state := missed_thread s.markStart
  rw [sendMark_period joined keeps]
  generalize s.markStart.missed = b at aside state
  obtain ⟨bNow, -, -, bWind, bYaw, bTimer, bState, bListen, bMark, bStatus, bPending, bHold, bOpen, bActive⟩ := aside
  rw [thread] at state bHold bOpen
  rw [now] at bNow bOpen
  rw [bActive quiet |>.2.symm] at cadence
  have unclosed : breakerCommand b.thread.state b.thread.breakerStep = false := by
    rcases (ThreadState.quietable_iff _).mp rests with off | tripped <;> rcases state with same | trip <;>
      simp [*, breakerCommand]
  have still : (allot (sendCommand b s.cadence.pendingOffset)).thread.state ≠ .stopping := by
    show b.thread.state ≠ .stopping
    rcases (ThreadState.quietable_iff _).mp rests with off | tripped <;> rcases state with same | trip <;> simp [*]
  have open_ : breakerOpenAfter b (breakerCommand b.thread.state b.thread.breakerStep) = some s.now := by
    rw [opened] at bOpen
    rw [unclosed]
    unfold breakerOpenAfter
    split
    · contradiction
    split
    · rw [bNow]
    · exact bOpen.elim id id
  rw [completeStop_other still]
  refine ⟨bState.trans (by rw [link]; rfl), bListen.trans (by rw [link]; rfl), bMark.trans (by rw [link]; rfl),
    bStatus.trans (by rw [table]),
    fun on => bPending (by rw [table]; exact on), bHold, open_, bYaw.trans yaw, bTimer.trans (by rw [cooling]),
      bWind.trans wind, cadence⟩

/-- R186, R95, R98: the timers started at joining. -/
def State.JoinedAs (s t : State) : Prop :=
  t.link.state = .joined ∧ t.link.listenTimer = none ∧ t.table.statusTimer = some s.now ∧
  t.table.changePending = true ∧ t.thread.restartHold = some s.now ∧ t.thread.breakerOpenTimer = some s.now ∧
  t.yaw.checkTimer = some s.now ∧ t.cooling.timer = some s.now ∧ t.wind = s.wind

theorem State.JoinedAs.and (joined : s.JoinedAs t) {p : Prop} (rest : p) :
    t.link.state = .joined ∧ t.link.listenTimer = none ∧ t.table.statusTimer = some s.now ∧
    t.table.changePending = true ∧ t.thread.restartHold = some s.now ∧ t.thread.breakerOpenTimer = some s.now ∧
    t.yaw.checkTimer = some s.now ∧ t.cooling.timer = some s.now ∧ t.wind = s.wind ∧ p := by
  obtain ⟨a, b, c, d, e, f, g, h, i⟩ := joined
  exact ⟨a, b, c, d, e, f, g, h, i, rest⟩

/-- Settles O7: the evaluation at joining leaves the timers just started, and the cadence begins from the state it
leaves. -/
theorem listenEndsInJoined : Obligations.ListenEndsInJoined := by
  intro s dominant inlet outlet t0 free listening timer due active rests
  have eq : listenTimeout s dominant inlet outlet = beginCadence
    (coolingStages (enterJoined s) inlet outlet) dominant :=
    if_pos ⟨free, listening, (Timer.reached_iff ..).mpr ⟨t0, timer, due⟩⟩
  have aside := coolingStages_aside (enterJoined s) inlet outlet
  have resting := (coolingStages_moves (may := (· = .cooling)) (.refl (enterJoined s)) inlet outlet rfl).framed.resting
    (by simp) rests
  refine ⟨_, congrArg Host.Outcome.next eq, ?_⟩
  generalize coolingStages (enterJoined s) inlet outlet = u at aside resting
  obtain ⟨now, resets, -, wind, yaw, cooling, state, listen, mark, status, pending, hold, opened, same⟩ := aside
  obtain ⟨quiet, cadence⟩ := same active
  have now : u.now = s.now := now
  have cadence : u.cadence = s.cadence := cadence
  have pending := pending rfl
  have opened : u.thread.breakerOpenTimer = some u.now := by
    rw [now]
    exact opened.elim id id
  have joined : u.isJoined = true := by
    refine (u.isJoined_iff).mpr ⟨?_, state⟩
    unfold State.held
    rw [resets]
    exact free
  have unable : u.mayStart = false := by
    by_contra able
    have held := (Timer.remaining_eq_zero ..).mp ((u.mayStart_iff).mp (by simpa using able)).2.2.2.2.2.2.2.1 s.now hold
    simp only [now, Config.restartHold, Config.ms] at held
    omega
  have reading : u.takesExpiryAtJoining = true ↔ s.cadence.reference = .seeking ∨
    s.cadence.expiry < s.cadenceReading := by
    simp [State.takesExpiryAtJoining, State.cadenceReading, cadence, now]
  have fixed : s.JoinedAs u := ⟨state, listen, status, pending, hold, now ▸ opened, by rw [yaw]; rfl, cooling, wind⟩
  have ownMark : u.link.ownMark = s.link.ownMark := mark
  unfold beginCadence
  split
  case isFalse waits =>
    refine State.JoinedAs.and fixed ⟨fun _ _ => ⟨cadence, ownMark⟩, fun takes _ => absurd (reading.mpr takes) waits⟩
  case isTrue takes =>
    have other (locked : s.cadence.reference = .locked) (within : s.cadenceReading ≤ s.cadence.expiry) : False := by
      rcases reading.mp takes with seeking | past
      · simp [locked] at seeking
      · omega
    unfold takeExpiry
    split
    case isTrue late =>
      refine State.JoinedAs.and fixed ⟨fun locked within => (other locked within).elim, fun _ onTime => ?_⟩
      rw [cadence, onTime] at late
      cases late
    case isFalse =>
      split
      case isTrue dominated =>
        refine State.JoinedAs.and fixed ⟨fun locked within => (other locked within).elim, fun _ _ =>
          ⟨fun _ => ⟨?_, ownMark⟩, fun no => ?_⟩⟩
        · rw [cadence]
        · rw [no] at dominated
          cases dominated
      case isFalse recessive =>
        obtain ⟨a, b, c, d, e, f, g, h, i, j, k, l, m⟩ :=
          sendMark_joins joined ((congrArg QuietControl.state quiet).trans active) resting unable opened
        obtain ⟨a', b', d', e', f', g', h', i', j'⟩ := fixed
        refine State.JoinedAs.and ⟨a.trans a', b.trans b', d.trans d', e e', f.trans f', now ▸ g, by rw [h]; exact h',
          i.trans i', j.trans j'⟩
          ⟨fun locked within => (other locked within).elim, fun _ _ =>
            ⟨fun yes => absurd yes recessive, fun _ => ⟨?_, ?_, ?_, m⟩⟩⟩
        · rw [c, now]
        · rw [k, now]
        · rw [l, cadence]

end Sys2Proof.Machine
end

section
/-! Marks heard from the line (R18, R29 to R31, R36). -/
namespace Sys2Proof.Machine
variable {s t u : State}

/-! ## A run that is a mark -/

theorem classifyRun_mark {length : Nat} (low : 16 ≤ length) (high : length ≤ 24) : classifyRun length = .mark := by
  unfold classifyRun
  rw [if_neg (by omega), if_neg (by omega), if_pos high]

theorem runStart_eq (now length : Nat) (early : Fin 4) : runStart now length early = now - (4 * length + early) := by
  simp [runStart, Config.bitTime, Nat.mul_comm]

theorem linkAfterRun_eq (s : State) (first : Nat) :
    s.linkAfterRun first = { s.link with windowDiscards := (s.linkAfterRun first).windowDiscards } := by
  unfold State.linkAfterRun
  split <;> rfl

/-- R18: a mark heard is handed on from the state its run leaves. -/
theorem dominantRunEnd_heard {length : Nat} (early : Fin 4) (on : s.running = true) (unmarked : s.link.ownMark = none)
    (low : 16 ≤ length) (high : length ≤ 24) : dominantRunEnd s length early =
      handMark (endRun (receiveRun s .mark (s.now - (4 * length + early)))) (s.now - (4 * length + early)) := by
  unfold dominantRunEnd
  rw [if_pos on]
  dsimp only
  rw [if_neg (by simp [unmarked]), if_pos (classifyRun_mark low high), classifyRun_mark low high, runStart_eq]

/-- The same where the run is not the 51st broken reception. -/
theorem dominantRunEnd_heard_few {length : Nat} (early : Fin 4) (on : s.running = true)
    (unmarked : s.link.ownMark = none)
    (low : 16 ≤ length) (high : length ≤ 24)
    (few : s.phaseAt (s.now - (4 * length + early)) = .receiving → s.link.windowDiscards ≠ 50) :
    ∃ r, dominantRunEnd s length early =
      handMark { s with receiver := r, link := s.linkAfterRun (s.now - (4 * length + early)) }
        (s.now - (4 * length + early)) := by
  have run := receiveRun_long s length _ low few
  rw [classifyRun_mark low high] at run
  rw [dominantRunEnd_heard early on unmarked low high]
  generalize (receiveRun s .mark (s.now - (4 * length + early))).receiver = r at run
  rw [run]
  exact ⟨_, rfl⟩

/-! ## The mark taken by its reading (R29) -/

theorem hearMark_accepted {first : Nat}
    (accepted : s.cadence.reference = .seeking ∨ s.cadence.timer.reached first Config.acceptFrom = true) :
    hearMark s first = beginPeriod { s with cadence := { s.cadence with reference := .locked } } first := by
  unfold hearMark
  cases reference : s.cadence.reference with
  | seeking => rfl
  | locked =>
    have reached := accepted.resolve_left (by simp [reference])
    have same : { s.cadence with reference := .locked } = s.cadence := by rw [← reference]
    rw [same]
    exact if_pos reached

theorem hearMark_early {first : Nat} (locked : s.cadence.reference = .locked)
    (early : s.cadence.timer.reached first Config.acceptFrom = false) : hearMark s first = countEarly s := by
  unfold hearMark
  rw [locked]
  exact if_neg (by simp [early])

theorem countEarly_few (few : s.cadence.earlyMarks ≠ 10) : countEarly s =
    { s with cadence := { s.cadence with earlyMarks := min 255 (s.cadence.earlyMarks + 1) } } := if_neg few

theorem countEarly_many (many : s.cadence.earlyMarks = 10) : countEarly s =
    reportFault { s with cadence := { s.cadence with earlyMarks := 11, reference := .seeking, seekCount := 0 } }
      clsLink 2
      .warn 11 := by
  unfold countEarly
  dsimp only
  rw [if_pos many, many]
  rfl

theorem State.running_iff (s : State) : s.running = true ↔ s.held = false ∧
    (s.link.state = .listen ∨ s.link.state = .joined ∨ s.link.state = .silent) := by
  simp [State.running, or_assoc]

theorem handMark_hears {first : Nat} (state : s.link.state = .listen ∨
    (s.link.state = .joined ∧ s.keepsCadence = true)) :
    handMark s first = hearMark s first := by
  unfold handMark
  rcases state with listen | ⟨joined, keeps⟩
  · rw [listen]
  · rw [joined]
    exact if_pos keeps

theorem beginPeriod_listening (first : Nat) (listening : s.link.state = .listen) :
    beginPeriod s first = s.timed first :=
  beginPeriod_rests first (by simp [State.periodWorks, State.isJoined, State.isSilent, listening])

/-! ## The eleventh early mark and the 51st broken reception (R30, R20) -/

/-- R20: the link while a run breaks the 51st reception of a window, before its report. -/
theorem receiveRun_many {first : Nat} (broken : s.phaseAt first = .receiving) (many : s.link.windowDiscards = 50) :
    receiveRun s .mark first = reportFault { s with
      receiver := { s.receiver with phase := phaseAfterRun .mark .receiving }, link :=
        { s.link with windowDiscards := 51 } }
      clsLink 3 .warn 51 := by
  rcases receiveRun_cases s .mark first with ⟨-, run⟩ | ⟨kept, -⟩
  · rw [run, broken]
    unfold countDiscard
    dsimp only
    rw [if_pos many, many]
    rfl
  · rw [broken] at kept
    cases kept

theorem takesOffers_of (state : s.link.state = .listen ∨ s.link.state = .joined) : s.takesOffers = true := by
  rcases state with h | h <;> simp [State.takesOffers, h]

/-- A WARN that finds room in the log and the queue, from a state that differs in the blocks of a heard mark. -/
theorem reportWarn_made {r : Receiver} {l : LinkControl} {c : CadenceUnit} {code : Nat} {detail : Int}
    (state : s.link.state = .listen ∨ s.link.state = .joined) (can : s.CanReport)
    (same : l = { s.link with windowDiscards := l.windowDiscards }) :
    let u : State := { s with receiver := r, link := l, cadence := c }
    let t := reportFault u clsLink code .warn detail
    t = { s with receiver := r, log := t.log, link := t.link, cadence := c } ∧
    t.link.state = s.link.state ∧ t.link.windowDiscards = l.windowDiscards ∧
    s.Logged t s.own clsLink code 1 1 (some detail) none ∧ s.Noticed t clsLink code 1 1 detail := by
  intro u t
  obtain ⟨below, room, active⟩ := can
  have stateU : u.link.state = .listen ∨ u.link.state = .joined := by
    have : l.state = s.link.state := by rw [same]
    exact this ▸ state
  have queueU : u.link.queue = s.link.queue := by
    show l.queue = _
    rw [same]
  have counterU : u.link.noticeCounter = s.link.noticeCounter := by
    show l.noticeCounter = _
    rw [same]
  have canU : u.CanReport := ⟨below, by rw [queueU]; exact room, active⟩
  have report : t = takeReport u clsLink code .warn detail := reportWarn_eq ..
  have action : (reportAction u clsLink code .warn).code = 1 := by rw [reportAction_warn (by decide)]; rfl
  have logged := takeReport_logged (severity := .warn) u clsLink code detail (by simp) below canU.2.1
  have noticed := takeReport_noticed (severity := .warn) u clsLink code detail (by simp)
    (takesOffers_of stateU) canU.2.1
  rw [← report, action] at logged noticed
  have linkState : u.link.state = s.link.state := by
    show l.state = _
    rw [same]
  have stateKept : t.link.state = s.link.state :=
    (reportFault_aside (cls := clsLink) (code := code) u .warn detail (by simp)
    (barsSession_of_ne (by decide))).state.trans
      linkState
  have discards : t.link.windowDiscards = l.windowDiscards := by
    rw [report, takeReport_link u clsLink code detail (by simp) (takesOffers_of stateU) canU.2.1]
    rfl
  refine ⟨?_, stateKept, discards, logged, ?_⟩
  · have quiet : { s.quiet with state := .active } = s.quiet := by rw [← active]
    have awake := reportWarn_awake u clsLink code detail (by show s.quiet.state ≠ _; simp [active])
    exact awake.trans (congrArg (fun q => { u with link := t.link, log := t.log, quiet := q }) quiet)
  · obtain ⟨number, x, mem, frame⟩ := noticed
    rw [counterU] at number frame
    exact ⟨number, x, mem, frame⟩

/-! ## The statement -/

/-- R29: the state a mark taken leaves of one in LISTEN. -/
theorem hearMark_listening {first : Nat} (listening : s.link.state = .listen)
    (accepted : s.cadence.reference = .seeking ∨ s.cadence.timer.reached first Config.acceptFrom = true) :
    hearMark s first = { s with cadence := { s.cadence with
      reference := .locked, timer := some first, overdue := false, expiry := Config.cadence,
      count := (s.cadence.count + 1) % 65536 } } := by
  rw [hearMark_accepted accepted, beginPeriod_listening first (by exact listening)]
  rfl

/-- R29, R32: the period a mark taken begins of one that is JOINED. -/
theorem hearMark_begins {first : Nat} (joined : s.isJoined = true) (keeps : s.keepsCadence = true)
    (silent : s.MissesSilently)
    (accepted : s.cadence.reference = .seeking ∨ s.cadence.timer.reached first Config.acceptFrom = true) :
    State.PeriodBegun { s with cadence := { s.cadence with reference := .locked } } (hearMark s first) first ∧
    (hearMark s first).cadence.reference = .locked ∧ (hearMark s first).link = s.link ∧
    (hearMark s first).log = s.log := by
  have works : State.periodWorks { s with cadence := { s.cadence with reference := .locked } } = true :=
    State.periodWorks_of_joined joined keeps
  have same := periodStart_samePeriod (s := { s with cadence := { s.cadence with reference := .locked } }) first silent
  rw [hearMark_accepted accepted]
  exact ⟨beginPeriod_begun first works same, (beginPeriod_reference first works same).1,
    beginPeriod_link first works silent⟩

theorem reached_of {t : Timer} {t0 moment limit : Nat} (timer : t = some t0) (due : t0 + limit ≤ moment) :
    t.reached moment limit = true := (Timer.reached_iff ..).mpr ⟨t0, timer, due⟩

theorem not_reached_of {t : Timer} {t0 moment limit : Nat} (timer : t = some t0) (early : moment < t0 + limit) :
    t.reached moment limit = false := by
  rw [timer]
  exact decide_eq_false (by omega)

theorem linkAfterRun_state (s : State) (first : Nat) : (s.linkAfterRun first).state = s.link.state := by
  rw [linkAfterRun_eq]

/-- R2, R20: the state after a run that broke a reception and was reported, with the log and the link of the report. -/
def State.afterReport (s : State) (g : FaultLog) (l : LinkControl) : State :=
  endRun { s with receiver := { s.receiver with phase := phaseAfterRun .mark .receiving }, log := g, link := l }

/-- Settles O9: the state the run of a mark leaves, and then the mark taken, counted as early, or reported. -/
theorem marksHeard : Obligations.MarksHeard := by
  refine ⟨?listen, ?joined, ?reports⟩
  case listen =>
    intro s length early free listening unmarked low high first link few
    have on : s.running = true := (s.running_iff).mpr ⟨free, .inl listening⟩
    obtain ⟨r, heard⟩ := dominantRunEnd_heard_few early on unmarked low high few
    have state : (s.linkAfterRun first).state = .listen := (linkAfterRun_state s first).trans listening
    have hears : handMark { s with receiver := r, link := s.linkAfterRun first } first =
        hearMark { s with receiver := r, link := s.linkAfterRun first } first := handMark_hears (.inl state)
    have taken (accepted : s.cadence.reference = .seeking ∨ s.cadence.timer.reached first Config.acceptFrom = true) :=
      (heard.trans hears).trans (hearMark_listening state accepted)
    refine ⟨fun seeking => ?_, fun t0 locked timer due => ?_, fun t0 locked timer soon few' => ?_⟩
    · exact ⟨_, congrArg Host.Outcome.next (taken (.inl seeking)), rfl⟩
    · refine ⟨_, congrArg Host.Outcome.next (taken (.inr (reached_of timer due))), ?_⟩
      rw [← locked]
    · exact ⟨_, congrArg Host.Outcome.next ((heard.trans hears).trans
        ((hearMark_early (s := { s with receiver := r, link := s.linkAfterRun first }) locked
          (not_reached_of timer soon)).trans (countEarly_few few'))), rfl⟩
  case joined =>
    intro s length early joined keeps unmarked low high first few
    have ⟨free, state⟩ := (s.isJoined_iff).mp joined
    have on : s.running = true := (s.running_iff).mpr ⟨free, .inr (.inl state)⟩
    obtain ⟨r, heard⟩ := dominantRunEnd_heard_few early on unmarked low high few
    have stateRun : (s.linkAfterRun first).state = .joined := (linkAfterRun_state s first).trans state
    have hears : handMark { s with receiver := r, link := s.linkAfterRun first } first =
        hearMark { s with receiver := r, link := s.linkAfterRun first } first := handMark_hears (.inr ⟨stateRun, keeps⟩)
    have joinedRun : State.isJoined { s with receiver := r, link := s.linkAfterRun first } = true :=
      (State.isJoined_iff _).mpr ⟨free, stateRun⟩
    refine ⟨fun calm accepted => ?_, fun locked soon few' => ?_⟩
    · obtain ⟨begun, reference, link, -⟩ := hearMark_begins joinedRun keeps (missesSilently_of calm) accepted
      exact ⟨_, congrArg Host.Outcome.next (heard.trans hears), begun.of rfl rfl, reference, link⟩
    · exact ⟨_, congrArg Host.Outcome.next ((heard.trans hears).trans
        ((hearMark_early (s := { s with receiver := r, link := s.linkAfterRun first }) locked soon).trans
          (countEarly_few few'))), rfl⟩
  case reports =>
    intro s length early on state unmarked low high can first
    have open_ : s.link.state = .listen ∨ s.link.state = .joined := state.imp_right And.left
    refine ⟨fun few locked soon tenth => ?_, fun broken many calm accepted => ?_⟩
    · obtain ⟨r, heard⟩ := dominantRunEnd_heard_few early on unmarked low high few
      have hears : handMark { s with receiver := r, link := s.linkAfterRun first } first =
          hearMark { s with receiver := r, link := s.linkAfterRun first } first :=
        handMark_hears (state.imp (linkAfterRun_state s first).trans (.imp_left (linkAfterRun_state s first).trans))
      obtain ⟨eq, -, discards, logged, noticed⟩ := reportWarn_made (r := r) (c := { s.cadence with
        earlyMarks := 11, reference := .seeking, seekCount := 0 }) (code := 2) (detail := 11) open_ can
          (linkAfterRun_eq s first)
      refine ⟨_, congrArg Host.Outcome.next ((heard.trans hears).trans
        ((hearMark_early (s := { s with receiver := r, link := s.linkAfterRun first }) locked soon).trans
          (countEarly_many tenth))), ?_, discards, logged, noticed⟩
      rw [eq]
    · have heard := dominantRunEnd_heard early on unmarked low high
      rw [receiveRun_many broken many] at heard
      obtain ⟨eq, linkState, discards, logged, noticed⟩ := reportWarn_made
        (r := { s.receiver with phase := phaseAfterRun .mark .receiving }) (l := { s.link with windowDiscards := 51 })
        (c := s.cadence) (code := 3) (detail := 51) open_ can rfl
      generalize reportFault _ clsLink 3 .warn 51 = v at heard eq linkState discards logged noticed
      obtain ⟨g, log⟩ : ∃ g, v.log = g := ⟨_, rfl⟩
      obtain ⟨l, link⟩ : ∃ l, v.link = l := ⟨_, rfl⟩
      rw [log, link] at eq
      rw [eq] at heard linkState discards
      have stateRun : l.state = s.link.state := linkState
      have hears := handMark_hears (s := s.afterReport g l) (first := first)
        (state.imp stateRun.trans (.imp_left stateRun.trans))
      have whole : dominantRunEnd s length early = hearMark (s.afterReport g l) first := heard.trans hears
      refine ⟨_, congrArg Host.Outcome.next whole, ?_⟩
      have loggedAs (t : State) (sameLog : t.log = v.log) : s.Logged t s.own clsLink 3 1 1 (some 51) none := by
        unfold State.Logged
        rw [sameLog]
        exact logged
      have noticedAs (t : State) (sameLog : t.log = v.log) (sameLink : t.link = v.link) :
        s.Noticed t clsLink 3 1 1 51 := by
        unfold State.Noticed
        rw [sameLog, sameLink]
        exact noticed
      rcases state with listening | ⟨joined, keeps⟩
      · rw [hearMark_listening (s := s.afterReport g l) (stateRun.trans listening) accepted]
        exact ⟨discards, loggedAs _ log.symm, noticedAs _ log.symm link.symm, rfl,
          fun joined => absurd (listening.symm.trans joined) (by simp), fun _ => rfl⟩
      · have joinedRun : (s.afterReport g l).isJoined = true :=
          (State.isJoined_iff _).mpr ⟨((s.running_iff).mp on).1, stateRun.trans joined⟩
        obtain ⟨begun, reference, link', log'⟩ := hearMark_begins (first := first)
          joinedRun keeps (missesSilently_of calm) accepted
        exact ⟨(congrArg LinkControl.windowDiscards link').trans discards, loggedAs _ (log'.trans log.symm),
          noticedAs _ (log'.trans log.symm) (link'.trans link.symm), reference, fun _ => begun.of rfl rfl,
          fun listening => absurd (joined.symm.trans listening) (by simp)⟩

end Sys2Proof.Machine
end

section
/-! Offers to the transmit queue (R13 to R16). -/
namespace Sys2Proof.Machine
variable {s : State}

/-! ## The queue's own functions -/

theorem insertSlot_split (own : Nat) (f : Frame) (q : List Slot) : ∃ a b, q = a ++ b ∧
    insertSlot own f q = a ++ { frame := f, onLine := false } :: b ∧
    (∀ x ∈ a, x.frame.precedence own ≤ f.precedence own) ∧
    (∀ x, b.head? = some x → f.precedence own < x.frame.precedence own) := by
  induction q with
  | nil => exact ⟨[], [], by simp [insertSlot]⟩
  | cons x rest ih =>
    unfold insertSlot
    split
    case isTrue notHigher =>
      obtain ⟨a, b, parts, eq, before, after⟩ := ih
      exact ⟨x :: a, b, by rw [parts]; rfl, by rw [eq]; rfl, List.forall_mem_cons.mpr ⟨notHigher, before⟩, after⟩
    case isFalse higher =>
      exact ⟨[], x :: rest, rfl, rfl, by simp, fun y head => by cases head; omega⟩

theorem removeLast_none {p : Slot → Bool} {q : List Slot} (no : ∀ x ∈ q, p x = false) : removeLast p q = none := by
  induction q with
  | nil => rfl
  | cons x rest ih =>
    obtain ⟨head, tail⟩ := List.forall_mem_cons.mp no
    simp [removeLast, ih tail, head]

theorem removeLast_newest {p : Slot → Bool} {x : Slot} {post : List Slot} (pre : List Slot) (is : p x = true)
    (no : ∀ y ∈ post, p y = false) : removeLast p (pre ++ x :: post) = some (pre ++ post) := by
  induction pre with
  | nil => simp [removeLast, removeLast_none no, is]
  | cons y rest ih => simp [removeLast, ih]

theorem replaceStatus_first {x : Slot} {pre : List Slot} (r : StatusRecord) (post : List Slot)
    (no : ∀ y ∈ pre, y.isStatus = false) (is : x.isStatus = true) :
    replaceStatus r (pre ++ x :: post) = pre ++ { x with frame := .threadStatus r } :: post := by
  induction pre with
  | nil => simp [replaceStatus, is]
  | cons y rest ih =>
    obtain ⟨head, tail⟩ := List.forall_mem_cons.mp no
    simp [replaceStatus, head, ih tail]

theorem Slot.isStatus_false_iff {x : Slot} : x.isStatus = false ↔ x.onLine = true ∨ x.frame.kind ≠ 16 := by
  simp only [Slot.isStatus, Bool.and_eq_false_iff, Bool.not_eq_false', beq_eq_false_iff_ne]

theorem Slot.isStatus_of {x : Slot} (off : x.onLine = false) (kind : x.frame.kind = 16) : x.isStatus = true := by
  simp [Slot.isStatus, off, kind]

theorem Slot.isLog_false_iff {x : Slot} : x.isLog = false ↔ x.onLine = true ∨ x.frame.kind ≠ 28 := by
  simp only [Slot.isLog, Bool.and_eq_false_iff, Bool.not_eq_false', beq_eq_false_iff_ne]

theorem Slot.isLog_of {x : Slot} (off : x.onLine = false) (kind : x.frame.kind = 28) : x.isLog = true := by
  simp [Slot.isLog, off, kind]

/-! ## The place a frame finds -/

/-- A queue ends in a slot of a kind, off the line, before slots that are on the line or of other kinds. -/
def NewestOf (q : List Slot) (kind : Nat) (pre : List Slot) (x : Slot) (post : List Slot) : Prop :=
  q = pre ++ x :: post ∧ x.onLine = false ∧ x.frame.kind = kind ∧ ∀ y ∈ post, y.onLine = true ∨ y.frame.kind ≠ kind

theorem removeLast_isLog {q pre post : List Slot} {x : Slot} (newest : NewestOf q 28 pre x post) :
    removeLast Slot.isLog q = some (pre ++ post) := by
  obtain ⟨rfl, off, kind, last⟩ := newest
  exact removeLast_newest pre (Slot.isLog_of off kind) (fun y mem => Slot.isLog_false_iff.mpr (last y mem))

theorem removeLast_isStatus {q pre post : List Slot} {x : Slot} (newest : NewestOf q 16 pre x post) :
    removeLast Slot.isStatus q = some (pre ++ post) := by
  obtain ⟨rfl, off, kind, last⟩ := newest
  exact removeLast_newest pre (Slot.isStatus_of off kind) (fun y mem => Slot.isStatus_false_iff.mpr (last y mem))

theorem removeLast_noLog {q : List Slot} (no : ∀ x ∈ q, x.onLine = true ∨ x.frame.kind ≠ 28) :
    removeLast Slot.isLog q = none :=
  removeLast_none fun x mem => Slot.isLog_false_iff.mpr (no x mem)

theorem removeLast_noStatus {q : List Slot} (no : ∀ x ∈ q, x.onLine = true ∨ x.frame.kind ≠ 16) :
    removeLast Slot.isStatus q = none :=
  removeLast_none fun x mem => Slot.isStatus_false_iff.mpr (no x mem)

theorem roomForUrgent_free {q : List Slot} (free : q.length < 8) : roomForUrgent q = some (q, 0) := if_pos free

theorem roomForUrgent_evicts {q pre post : List Slot} {x : Slot} (full : 8 ≤ q.length)
    (newest : NewestOf q 28 pre x post ∨
      ((∀ y ∈ q, y.onLine = true ∨ y.frame.kind ≠ 28) ∧ NewestOf q 16 pre x post)) :
    roomForUrgent q = some (pre ++ post, 1) := by
  unfold roomForUrgent
  rw [if_neg (Nat.not_lt.mpr full)]
  rcases newest with log | ⟨noLog, status⟩
  · rw [removeLast_isLog log]
  · rw [removeLast_noLog noLog, removeLast_isStatus status]; rfl

theorem roomForUrgent_none {q : List Slot} (full : 8 ≤ q.length)
    (noLog : ∀ y ∈ q, y.onLine = true ∨ y.frame.kind ≠ 28) (noStatus : ∀ y ∈ q, y.onLine = true ∨ y.frame.kind ≠ 16) :
    roomForUrgent q = none := by
  unfold roomForUrgent
  rw [if_neg (Nat.not_lt.mpr full), removeLast_noLog noLog, removeLast_noStatus noStatus]
  rfl

theorem roomForStatus_full {q : List Slot} (full : 8 ≤ q.length) :
    roomForStatus q = (removeLast Slot.isLog q).map (fun q' => (q', 1)) :=
  if_neg (Nat.not_lt.mpr full)

/-! ## A status offered (R14) -/

theorem offerStatus_replaces (r : StatusRecord) {x : Slot} {pre post : List Slot} (takes : s.takesOffers = true)
    (queue : s.link.queue = pre ++ x :: post) (off : x.onLine = false) (kind : x.frame.kind = 16)
    (first : ∀ y ∈ pre, y.onLine = true ∨ y.frame.kind ≠ 16) :
    offerStatus s r = { s with link := { s.link with
      queue := pre ++ { frame := .threadStatus r, onLine := false } :: post,
      superseded := min 255 (s.link.superseded + 1) } } := by
  have is : x.isStatus = true := Slot.isStatus_of off kind
  have eq := replaceStatus_first r post (fun y mem => Slot.isStatus_false_iff.mpr (first y mem)) is
  unfold offerStatus
  rw [if_neg (by simp [takes]), if_pos (by simp [queue, is]), queue, eq, off]
  rfl

theorem offerStatus_enters (r : StatusRecord) {q : List Slot} {n : Nat} (takes : s.takesOffers = true)
    (noStatus : ∀ x ∈ s.link.queue, x.onLine = true ∨ x.frame.kind ≠ 16)
    (room : roomForStatus s.link.queue = some (q, n)) :
    offerStatus s r = { s with link := { s.link.lose n with queue := insertSlot s.own (.threadStatus r) q } } := by
  have noneQueued : s.link.queue.any Slot.isStatus = false :=
    List.any_eq_false.mpr fun x mem => by simp [Slot.isStatus_false_iff.mpr (noStatus x mem)]
  simp [offerStatus, takes, noneQueued, room]

theorem offerStatus_dropped (r : StatusRecord) (takes : s.takesOffers = true)
    (noStatus : ∀ x ∈ s.link.queue, x.onLine = true ∨ x.frame.kind ≠ 16)
    (room : roomForStatus s.link.queue = none) : offerStatus s r = { s with link := s.link.lose 1 } := by
  have noneQueued : s.link.queue.any Slot.isStatus = false :=
    List.any_eq_false.mpr fun x mem => by simp [Slot.isStatus_false_iff.mpr (noStatus x mem)]
  simp [offerStatus, takes, noneQueued, room]

theorem offerYaw_enters (f : Frame) {q : List Slot} {n : Nat} (takes : s.takesOffers = true)
    (room : roomForUrgent s.link.queue = some (q, n)) :
    offerYaw s f = { s with link := { s.link.lose n with queue := insertSlot s.own f q } } := by
  simp [offerYaw, takes, room]

theorem offerYaw_dropped (f : Frame) (takes : s.takesOffers = true) (room : roomForUrgent s.link.queue = none) :
    offerYaw s f = { s with link := s.link.lose 1 } := by
  simp [offerYaw, takes, room]

/-! ## A notice offered (R15) -/

/-- The notice of a report, with the number it takes when it enters. -/
def State.noticeOf (s : State) (cls code severity action : Nat) (detail : Int) : Frame :=
  .faultNotice { number := (s.link.noticeCounter + 1) % 65536, cls := cls, code := code, severity := severity,
                 action := action, detail := detail, logSequence := s.log.newest % 65536 }

theorem offerNotice_enters (cls code severity action : Nat) (detail : Int) {q : List Slot} {n : Nat}
    (takes : s.takesOffers = true) (room : roomForUrgent s.link.queue = some (q, n)) :
    offerNotice s cls code severity action detail = { s with link := { s.link.lose n with
      noticeCounter := (s.link.noticeCounter + 1) % 65536,
      queue := insertSlot s.own (s.noticeOf cls code severity action detail) q } } := by
  simp [offerNotice, takes, room, State.noticeOf]

theorem offerNotice_dropped (cls code severity action : Nat) (detail : Int) (takes : s.takesOffers = true)
    (room : roomForUrgent s.link.queue = none) :
    offerNotice s cls code severity action detail =
      reportNote { s with link := s.link.lose 1 } clsLink 5 (cls * 100 + code) := by
  simp [offerNotice, takes, room]

/-- Settles O15: each offer by the room it finds. -/
theorem offersToTheQueue : Obligations.OffersToTheQueue := by
  refine ⟨insertSlot_split, fun s => ?_⟩
  intro q noStatus noLog newest queued
  refine ⟨?closed, ?status, ?yaw, ?notice⟩
  case closed =>
    intro closed r f cls code severity action detail
    obtain ⟨yaw, status, notice⟩ := offer_closed s closed
    exact ⟨status r, yaw f, notice cls code severity action detail⟩
  case status =>
    intro takes r pre x post
    refine ⟨offerStatus_replaces r takes, fun new free => ?_, fun new full log => ?_, fun new full no => ?_⟩
    · exact offerStatus_enters r takes new (if_pos free)
    · exact offerStatus_enters r takes new ((roomForStatus_full full).trans (congrArg _ (removeLast_isLog log)))
    · exact offerStatus_dropped r takes new ((roomForStatus_full full).trans (congrArg _ (removeLast_noLog no)))
  case yaw =>
    intro takes f pre x post
    exact ⟨fun free => offerYaw_enters f takes (roomForUrgent_free free),
      fun full evicted => offerYaw_enters f takes (roomForUrgent_evicts full evicted),
      fun full noLog noStatus => offerYaw_dropped f takes (roomForUrgent_none full noLog noStatus)⟩
  case notice =>
    intro takes cls code severity action detail pre x post number notice entered
    refine ⟨fun free => offerNotice_enters cls code severity action detail takes (roomForUrgent_free free),
      fun full evicted => offerNotice_enters cls code severity action detail takes (roomForUrgent_evicts full evicted),
      fun full noLog noStatus below => ?_⟩
    intro t
    have eq : t = reportNote { s with link := s.link.lose 1 } clsLink 5 (cls * 100 + code) :=
      offerNotice_dropped cls code severity action detail takes (roomForUrgent_none full noLog noStatus)
    rw [eq]
    exact ⟨rfl, logged_of_log below rfl⟩

end Sys2Proof.Machine
end

section
/-! The header check (R7). -/
namespace Sys2Proof.Machine

/-! ## Bits and bytes -/

@[simp] theorem byteBits_length (b : Byte) : (byteBits b).length = 8 := rfl

theorem bitsByte_byteBits (b : Byte) : bitsByte (byteBits b) = b := by
  revert b
  decide +kernel

theorem bitsByte_append_take (b c : Byte) : bitsByte ((byteBits b ++ byteBits c).take 8) = b :=
  bitsByte_byteBits b

theorem bitsByte_append_drop (b c : Byte) : bitsByte ((byteBits b ++ byteBits c).drop 8) = c :=
  bitsByte_byteBits c

/-- Bit `i` of a byte is the level `i` places before the last of its eight. -/
theorem byteBits_flip {i : Nat} (b : Byte) (low : i < 8) :
    byteBits (b ^^^ (1#8 <<< i)) = (byteBits b).modify (7 - i) not := by
  interval_cases i <;> simp [byteBits, List.modify]

/-! ## Position sums and parities -/

theorem onesXor_append (l m : List (Nat × Level)) : onesXor (l ++ m) = onesXor l ^^^ onesXor m := by
  induction l with
  | nil => simp [onesXor]
  | cons x rest ih =>
    obtain ⟨position, b⟩ := x
    cases b <;> simp [onesXor, ih, Nat.xor_assoc]

theorem onesXor_flip {k : Nat} (positions : List Nat) (l : List Level) (p : Nat) (at_ : positions[k]? = some p)
    (inside : k < l.length) : onesXor (positions.zip (l.modify k not)) = onesXor (positions.zip l) ^^^ p := by
  induction k generalizing positions l with
  | zero =>
    obtain ⟨rest, rfl⟩ : ∃ rest, positions = p :: rest := by
      cases positions with
      | nil => cases at_
      | cons q rest => exact ⟨rest, by cases at_; rfl⟩
    cases l with
    | nil => exact absurd inside (Nat.not_lt_zero _)
    | cons b m => cases b <;> simp [onesXor, Nat.xor_comm]
  | succ k ih =>
    cases positions with
    | nil => cases at_
    | cons q rest =>
      cases l with
      | nil => exact absurd inside (Nat.not_lt_zero _)
      | cons b m =>
        have rest_eq := ih rest m (by simpa using at_) (by simpa using inside)
        cases b <;> simp [onesXor, rest_eq, Nat.xor_assoc]

theorem onesXor_lt {l : List (Nat × Level)} (low : ∀ x ∈ l, x.1 < 2 ^ 5) : onesXor l < 2 ^ 5 := by
  induction l with
  | nil => simp [onesXor]
  | cons x rest ih =>
    obtain ⟨head, tail⟩ := List.forall_mem_cons.mp low
    unfold onesXor
    split
    · exact Nat.xor_lt_two_pow head (ih tail)
    · exact ih tail

theorem oddOnes_append (l m : List Level) : oddOnes (l ++ m) = xor (oddOnes l) (oddOnes m) := by
  induction l with
  | nil => simp [oddOnes]
  | cons b rest ih => simp [oddOnes, ih]

theorem oddOnes_flip {k : Nat} (l : List Level) (inside : k < l.length) : oddOnes (l.modify k not) = !oddOnes l := by
  induction k generalizing l with
  | zero =>
    cases l with
    | nil => exact absurd inside (Nat.not_lt_zero _)
    | cons b m => simp [oddOnes]
  | succ k ih =>
    cases l with
    | nil => exact absurd inside (Nat.not_lt_zero _)
    | cons b m => simp [oddOnes, ih m (by simpa using inside)]

/-! ## The syndrome of a header -/

/-- The sixteen data bits of a header. -/
def headerData (w : Byte × Byte × Byte) : List Level := byteBits w.1 ++ byteBits w.2.1

/-- The sum of the code positions that hold a one. -/
def syndrome (w : Byte × Byte × Byte) : Nat :=
  onesXor (dataPositions.zip (headerData w)) ^^^ onesXor (checkPositions.zip (checkBits w.2.2))

/-- The parity of the 22 bits. -/
def headerOdd (w : Byte × Byte × Byte) : Bool :=
  xor (xor (oddOnes (headerData w)) (oddOnes (checkBits w.2.2))) (w.2.2.getLsbD 5)

/-- The unused bits of the header check are clear. -/
def UnusedClear (w : Byte × Byte × Byte) : Prop := w.2.2.getLsbD 7 = false ∧ w.2.2.getLsbD 6 = false

/-- The place among the data bits of bit `i` of bytes 0 and 1. -/
def dataIndex (i : Nat) : Nat := if i < 8 then 7 - i else 23 - i

/-- The code position of bit `i` of a header; 0 for the parity bit. -/
def codePosition (i : Nat) : Nat :=
  if i < 16 then dataPositions.getD (dataIndex i) 0 else checkPositions.getD (i - 16) 0

theorem dataIndex_lt {i : Nat} (data : i < 16) : dataIndex i < 16 := by
  unfold dataIndex
  split <;> omega

theorem headerData_flip_data {i : Nat} (w : Byte × Byte × Byte) (data : i < 16) :
    headerData (flipHeader i w) = (headerData w).modify (dataIndex i) not := by
  unfold headerData
  interval_cases i <;> simp [flipHeader, dataIndex, byteBits, List.modify]

theorem flipHeader_check {i : Nat} (w : Byte × Byte × Byte) (check : 16 ≤ i) :
    flipHeader i w = (w.1, w.2.1, w.2.2 ^^^ (1#8 <<< (i - 16))) := by
  unfold flipHeader
  rw [if_neg (by omega), if_neg (by omega)]

theorem flipHeader_data_check {i : Nat} (w : Byte × Byte × Byte) (data : i < 16) : (flipHeader i w).2.2 = w.2.2 := by
  unfold flipHeader
  split
  · rfl
  · rfl

theorem checkBits_flip {k : Nat} (h : Byte) (low : k < 5) :
    checkBits (h ^^^ (1#8 <<< k)) = (checkBits h).modify k not := by
  interval_cases k <;> simp [checkBits, List.modify]

theorem checkBits_flip_parity (h : Byte) : checkBits (h ^^^ (1#8 <<< 5)) = checkBits h := by
  simp [checkBits]

theorem unusedClear_flip {i : Nat} {w : Byte × Byte × Byte} (inside : i < 22) (clear : UnusedClear w) :
    UnusedClear (flipHeader i w) := by
  obtain ⟨seven, six⟩ := clear
  rcases Nat.lt_or_ge i 16 with data | check
  · exact ⟨by rw [flipHeader_data_check w data]; exact seven, by rw [flipHeader_data_check w data]; exact six⟩
  · rw [flipHeader_check w check]
    obtain ⟨k, rfl⟩ := Nat.exists_eq_add_of_le check
    have low : k < 6 := by omega
    interval_cases k <;> exact ⟨by simpa using seven, by simpa using six⟩

theorem getElem?_getD {k : Nat} (l : List Nat) (inside : k < l.length) : l[k]? = some (l.getD k 0) := by
  rw [List.getD_eq_getElem?_getD, List.getElem?_eq_getElem inside]
  rfl

theorem syndrome_flip {i : Nat} (w : Byte × Byte × Byte) (inside : i < 22) :
    syndrome (flipHeader i w) = syndrome w ^^^ codePosition i := by
  unfold syndrome codePosition
  rcases Nat.lt_or_ge i 16 with data | check
  · have at_ : dataPositions[dataIndex i]? = some (dataPositions.getD (dataIndex i) 0) := 
      getElem?_getD dataPositions (dataIndex_lt data)
    rw [headerData_flip_data w data, flipHeader_data_check w data, if_pos data,
      onesXor_flip _ _ _ at_ (by simpa [headerData] using dataIndex_lt data), Nat.xor_right_comm]
  · rw [flipHeader_check w check, if_neg (by omega)]
    obtain ⟨k, rfl⟩ := Nat.exists_eq_add_of_le check
    simp only [Nat.add_sub_cancel_left]
    rcases Nat.lt_or_ge k 5 with low | parity
    · have at_ : checkPositions[k]? = some (checkPositions.getD k 0) := 
        getElem?_getD checkPositions low
      rw [checkBits_flip _ low, onesXor_flip _ _ _ at_ (by simpa [checkBits] using low), ← Nat.xor_assoc]
      rfl
    · obtain rfl : k = 5 := by omega
      rw [checkBits_flip_parity]
      exact (Nat.xor_zero _).symm

theorem headerOdd_flip {i : Nat} (w : Byte × Byte × Byte) (inside : i < 22) :
    headerOdd (flipHeader i w) = !headerOdd w := by
  unfold headerOdd
  rcases Nat.lt_or_ge i 16 with data | check
  · rw [headerData_flip_data w data, flipHeader_data_check w data,
      oddOnes_flip _ (by simpa [headerData] using dataIndex_lt data)]
    simp
  · rw [flipHeader_check w check]
    obtain ⟨k, rfl⟩ := Nat.exists_eq_add_of_le check
    simp only [Nat.add_sub_cancel_left]
    rcases Nat.lt_or_ge k 5 with low | parity
    · have five : (w.2.2 ^^^ (1#8 <<< k)).getLsbD 5 = w.2.2.getLsbD 5 := by interval_cases k <;> simp
      rw [checkBits_flip _ low, oddOnes_flip _ (by simpa [checkBits] using low), five]
      simp [headerData]
    · obtain rfl : k = 5 := by omega
      rw [checkBits_flip_parity]
      simp [headerData]

/-! ## The header as sent -/

theorem checkByte_bits : ∀ c < 2 ^ 5, ∀ odd : Bool,
    onesXor (checkPositions.zip (checkBits (BitVec.ofNat 8 (c + 32 * flagBit odd)))) = c ∧
    checkBits (BitVec.ofNat 8 (c + 32 * flagBit odd)) = checkBits (BitVec.ofNat 8 c) ∧
    (BitVec.ofNat 8 (c + 32 * flagBit odd)).getLsbD 5 = odd ∧
    (BitVec.ofNat 8 (c + 32 * flagBit odd)).getLsbD 6 = false ∧
    (BitVec.ofNat 8 (c + 32 * flagBit odd)).getLsbD 7 = false := by decide +kernel

theorem sent_header (b0 b1 : Byte) : UnusedClear (b0, b1, headerCheck b0 b1) ∧
    syndrome (b0, b1, headerCheck b0 b1) = 0 ∧ headerOdd (b0, b1, headerCheck b0 b1) = false := by
  have low : onesXor (dataPositions.zip (byteBits b0 ++ byteBits b1)) < 2 ^ 5 :=
    onesXor_lt fun x mem => by
      have place := (List.of_mem_zip mem).1
      revert place
      generalize x.1 = p
      revert p
      decide
  unfold UnusedClear syndrome headerOdd headerCheck headerData
  dsimp only
  generalize onesXor (dataPositions.zip (byteBits b0 ++ byteBits b1)) = c at low ⊢
  obtain ⟨positions, bits, five, six, seven⟩ :=
    checkByte_bits c low (xor (oddOnes (byteBits b0 ++ byteBits b1)) (oddOnes (checkBits (BitVec.ofNat 8 c))))
  refine ⟨⟨seven, six⟩, by rw [positions, Nat.xor_self], by rw [bits, five, Bool.xor_self]⟩

/-! ## The header as read -/

theorem readHeader_unused {b0 b1 h : Byte} (used : h.getLsbD 7 = true ∨ h.getLsbD 6 = true) :
    readHeader b0 b1 h = none := by
  unfold readHeader
  dsimp only
  rw [if_pos (by simpa using used)]

theorem readHeader_clean {w : Byte × Byte × Byte} (clear : UnusedClear w) (even : headerOdd w = false) :
    readHeader w.1 w.2.1 w.2.2 = if syndrome w = 0 then some (w.1, w.2.1, false) else none := by
  obtain ⟨seven, six⟩ := clear
  unfold headerOdd headerData at even
  unfold readHeader
  simp only [seven, six, even, onesXor_append]
  rfl

/-- The data bits with the one at a code position inverted. -/
def correctedData (w : Byte × Byte × Byte) (position : Nat) : List Level :=
  (dataPositions.zip (headerData w)).map (fun pb => if pb.1 = position then !pb.2 else pb.2)

theorem readHeader_corrects {w : Byte × Byte × Byte} (clear : UnusedClear w) (odd : headerOdd w = true)
    (position : syndrome w ≤ 21) : readHeader w.1 w.2.1 w.2.2 =
      some (bitsByte ((correctedData w (syndrome w)).take 8), bitsByte ((correctedData w (syndrome w)).drop 8),
        true) := by
  obtain ⟨seven, six⟩ := clear
  unfold headerOdd headerData at odd
  unfold syndrome headerData at position
  unfold readHeader
  simp only [seven, six, odd, onesXor_append, if_pos position]
  rfl

theorem codePosition_le : ∀ i < 22, codePosition i ≤ 21 := by decide

theorem codePosition_injective : ∀ j < 22, ∀ i < j, codePosition j ^^^ codePosition i ≠ 0 := by decide

theorem correctedData_flip {i : Nat} (w : Byte × Byte × Byte) (inside : i < 22) :
    correctedData (flipHeader i w) (codePosition i) = headerData w := by
  unfold correctedData headerData
  interval_cases i <;>
    simp [flipHeader, codePosition, dataIndex, dataPositions, checkPositions, byteBits]

/-- Settles O12: by the syndrome and the parity of the header, each flip adding the position of its bit. -/
theorem headerCheckCorrectsOne : Obligations.HeaderCheckCorrectsOne := by
  intro b0 b1
  obtain ⟨clear, zero, even⟩ := sent_header b0 b1
  refine ⟨?clean, ?one, ?two, fun h => readHeader_unused⟩
  case clean => exact (readHeader_clean clear even).trans (if_pos zero)
  case one =>
    intro i inside
    have syndrome_eq : syndrome (flipHeader i (b0, b1, headerCheck b0 b1)) = codePosition i := by
      rw [syndrome_flip _ inside, zero, Nat.zero_xor]
    rw [readHeader_corrects (unusedClear_flip inside clear) (by rw [headerOdd_flip _ inside, even]; rfl)
      (by rw [syndrome_eq]; exact codePosition_le i inside), syndrome_eq, correctedData_flip _ inside]
    exact congrArg some (Prod.ext (bitsByte_append_take b0 b1) (Prod.ext (bitsByte_append_drop b0 b1) rfl))
  case two =>
    intro i j lt inside
    have within : i < 22 := Nat.lt_trans lt inside
    rw [readHeader_clean (unusedClear_flip within (unusedClear_flip inside clear))
      (by rw [headerOdd_flip _ within, headerOdd_flip _ inside, even]; rfl), if_neg]
    rw [syndrome_flip _ within, syndrome_flip _ inside, zero, Nat.zero_xor]
    exact codePosition_injective j inside i lt

end Sys2Proof.Machine
end

section
/-! The allocation of motors (R137): after every round the run counts stand at a level, or at a level and one more. -/
namespace Sys2Proof.Machine

/-- Participants each given up to a level, as far as their offers go. -/
def filledTo (level : Nat) (offers : List (Nat × Nat)) : List Share :=
  offers.map (fun o => { station := o.1, offer := o.2, given := min level o.2 })

/-- The motors given. -/
def givenSum (ps : List Share) : Nat := (ps.map Share.given).sum

@[simp] theorem givenSum_cons (p : Share) (ps : List Share) : givenSum (p :: ps) = p.given + givenSum ps := rfl

theorem giveRound_zero (ps : List Share) : giveRound 0 ps = (0, ps) := by
  induction ps with
  | nil => rfl
  | cons p rest ih => simp [giveRound, ih]

theorem giveRounds_zero (fuel : Nat) (ps : List Share) : giveRounds fuel 0 ps = ps := by
  induction fuel with
  | zero => rfl
  | succ fuel ih => simp [giveRounds, giveRound_zero, ih]

/-- A round takes from what is left what it gives. -/
theorem giveRound_sum (left : Nat) (ps : List Share) :
    (giveRound left ps).1 + givenSum (giveRound left ps).2 = left + givenSum ps := by
  induction ps generalizing left with
  | nil => rfl
  | cons p rest ih =>
    unfold giveRound
    split
    case isTrue gives =>
      obtain ⟨some, _⟩ := gives
      have := ih (left - 1)
      simp only [givenSum_cons]
      omega
    case isFalse =>
      have := ih left
      simp only [givenSum_cons]
      omega

/-- A round raises the participants by one level in order, to the end or until nothing is left. -/
theorem giveRound_filled (left level : Nat) (offers : List (Nat × Nat)) : ∃ raised kept, offers = raised ++ kept ∧
    (giveRound left (filledTo level offers)).2 = filledTo (level + 1) raised ++ filledTo level kept ∧
    (kept = [] ∨ (giveRound left (filledTo level offers)).1 = 0) := by
  induction offers generalizing left with
  | nil => exact ⟨[], [], rfl, rfl, .inl rfl⟩
  | cons o rest ih =>
    rcases Nat.eq_zero_or_pos left with rfl | some
    · exact ⟨[], o :: rest, rfl, by rw [giveRound_zero]; rfl, .inr (by rw [giveRound_zero])⟩
    · by_cases wants : level < o.2
      · obtain ⟨raised, kept, parts, eq, last⟩ := ih (left - 1)
        have one : giveRound left (filledTo level (o :: rest)) =
            ((giveRound (left - 1) (filledTo level rest)).1,
              { station := o.1, offer := o.2, given := min level o.2 + 1 } ::
                (giveRound (left - 1) (filledTo level rest)).2) := by
          unfold filledTo
          rw [List.map_cons, giveRound, if_pos ⟨some, by simp; omega⟩]
        have given : min level o.2 + 1 = min (level + 1) o.2 := by omega
        rw [one]
        exact ⟨o :: raised, kept, by rw [parts]; rfl, by rw [eq, given]; rfl, last⟩
      · obtain ⟨raised, kept, parts, eq, last⟩ := ih left
        have none_ : giveRound left (filledTo level (o :: rest)) =
            ((giveRound left (filledTo level rest)).1,
              { station := o.1, offer := o.2, given := min level o.2 } ::
                (giveRound left (filledTo level rest)).2) := by
          unfold filledTo
          rw [List.map_cons, giveRound, if_neg (by simp; omega)]
        have given : min level o.2 = min (level + 1) o.2 := by omega
        rw [none_]
        exact ⟨o :: raised, kept, by rw [parts]; rfl, by rw [eq, given]; rfl, last⟩

/-- Rounds leave the participants at a level with some first ones raised by one; all that was left is given, unless
every round was gone whole. -/
theorem giveRounds_filled (fuel left level : Nat) (offers : List (Nat × Nat)) : ∃ level' raised kept,
    offers = raised ++ kept ∧
    giveRounds fuel left (filledTo level offers) = filledTo (level' + 1) raised ++ filledTo level' kept ∧
    givenSum (giveRounds fuel left (filledTo level offers)) ≤ left + givenSum (filledTo level offers) ∧
    (givenSum (giveRounds fuel left (filledTo level offers)) = left + givenSum (filledTo level offers) ∨
      giveRounds fuel left (filledTo level offers) = filledTo (level + fuel) offers) := by
  induction fuel generalizing left level with
  | zero => exact ⟨level, [], offers, rfl, rfl, Nat.le_add_left _ _, .inr rfl⟩
  | succ fuel ih =>
    have sum := giveRound_sum left (filledTo level offers)
    obtain ⟨raised, kept, parts, eq, last⟩ := giveRound_filled left level offers
    rw [giveRounds]
    generalize giveRound left (filledTo level offers) = r at sum eq last ⊢
    rcases last with rfl | spent
    · have whole : offers = raised := parts.trans (List.append_nil _)
      have eq : r.2 = filledTo (level + 1) offers := eq.trans (by rw [whole]; exact List.append_nil _)
      obtain ⟨level', raised', kept', parts', eq', most, all⟩ := ih r.1 (level + 1)
      rw [← eq, sum] at most all
      rw [← eq] at eq'
      exact ⟨level', raised', kept', parts', eq', most,
        all.imp_right fun filled => by rw [filled]; exact congrArg (filledTo · offers) (by omega)⟩
    · rw [spent, Nat.zero_add] at sum
      rw [spent, giveRounds_zero]
      exact ⟨level, raised, kept, parts, eq, Nat.le_of_eq sum, .inl sum⟩

/-! ## The allocation -/

/-- Each participant's run count at a level. -/
def runCountsAt (level : Nat) (offers : List (Nat × Nat)) : List (Nat × Nat) :=
  offers.map (fun o => (o.1, min level o.2))

theorem runCounts_filledTo (level : Nat) (offers : List (Nat × Nat)) :
    (filledTo level offers).map (fun p => (p.station, p.given)) = runCountsAt level offers := by
  unfold filledTo runCountsAt
  rw [List.map_map]
  rfl

theorem givenSum_filledTo (level : Nat) (offers : List (Nat × Nat)) :
    givenSum (filledTo level offers) = ((runCountsAt level offers).map (·.2)).sum := by
  rw [← runCounts_filledTo, List.map_map]
  rfl

theorem runCountsAt_sum_le (level : Nat) (offers : List (Nat × Nat)) :
    ((runCountsAt level offers).map (·.2)).sum ≤ (offers.map (·.2)).sum := by
  unfold runCountsAt
  rw [List.map_map]
  exact List.sum_le_sum fun o _ => Nat.min_le_right _ _

/-- A participant that stands at the level with less than its offer makes the sum at least the level. -/
theorem runCountsAt_sum {level : Nat} {offers : List (Nat × Nat)}
    (short : ((runCountsAt level offers).map (·.2)).sum < level) :
    ((runCountsAt level offers).map (·.2)).sum = (offers.map (·.2)).sum := by
  unfold runCountsAt at short ⊢
  rw [List.map_map] at short ⊢
  refine congrArg List.sum (List.map_congr_left fun o mem => ?_)
  have one : min level o.2 ≤ (offers.map ((·.2) ∘ fun o => (o.1, min level o.2))).sum :=
    List.single_le_sum (fun _ _ => Nat.zero_le _) _ (List.mem_map_of_mem mem)
  change min level o.2 = o.2
  omega

theorem allocate_eq (budget : Nat) (offers : List (Nat × Nat)) : ∃ level raised kept, offers = raised ++ kept ∧
    allocate budget offers = runCountsAt (level + 1) raised ++ runCountsAt level kept ∧
    ((allocate budget offers).map (·.2)).sum ≤ budget ∧
    (((allocate budget offers).map (·.2)).sum = budget ∨ allocate budget offers = runCountsAt budget offers) := by
  obtain ⟨level, raised, kept, parts, eq, most, all⟩ := giveRounds_filled budget budget 0 offers
  have start : offers.map (fun p => ({ station := p.1, offer := p.2, given := 0 } : Share)) = filledTo 0 offers := by
    simp [filledTo]
  have nothing : givenSum (filledTo 0 offers) = 0 := by
    simp [givenSum_filledTo, runCountsAt, Function.comp_def]
  have sum : ((allocate budget offers).map (·.2)).sum = givenSum (giveRounds budget budget (filledTo 0 offers)) := by
    unfold allocate
    rw [start, List.map_map]
    rfl
  rw [nothing, ← sum] at most all
  refine ⟨level, raised, kept, parts, ?_, most, all.imp_right fun whole => ?_⟩
  · unfold allocate
    rw [start, eq, List.map_append, runCounts_filledTo, runCounts_filledTo]
  · unfold allocate
    rw [start, whole, runCounts_filledTo, Nat.zero_add]

/-- The level each participant stands at, by its place. -/
theorem runCounts_level {level i : Nat} {raised kept : List (Nat × Nat)} {o a : Nat × Nat}
    (offer : (raised ++ kept)[i]? = some o)
    (given : (runCountsAt (level + 1) raised ++ runCountsAt level kept)[i]? = some a) :
    a.2 = min (if i < raised.length then level + 1 else level) o.2 := by
  unfold runCountsAt at given
  by_cases first : i < raised.length
  · rw [List.getElem?_append_left first] at offer
    rw [List.getElem?_append_left (by simpa using first), List.getElem?_map, offer] at given
    cases given
    rw [if_pos first]
  · rw [List.getElem?_append_right (Nat.not_lt.mp first)] at offer
    rw [List.getElem?_append_right (by simpa using first), List.getElem?_map, List.length_map, offer] at given
    cases given
    rw [if_neg first]

/-- Settles O48: at the end the run counts stand at a level, the first participants at one more. -/
theorem allocationIsFair : Obligations.AllocationIsFair := by
  intro budget offers
  obtain ⟨level, raised, kept, rfl, eq, most, all⟩ := allocate_eq budget offers
  refine ⟨?stations, ?sum, ?offered, ?even⟩
  case stations => simp [eq, runCountsAt, Function.comp_def]
  case sum =>
    rcases all with spent | whole
    · have le : ((allocate budget (raised ++ kept)).map (·.2)).sum ≤ ((raised ++ kept).map (·.2)).sum := by
        rw [eq, List.map_append, List.sum_append, List.map_append, List.sum_append]
        exact Nat.add_le_add (runCountsAt_sum_le _ _) (runCountsAt_sum_le _ _)
      omega
    · have le := runCountsAt_sum_le budget (raised ++ kept)
      rw [whole] at most ⊢
      rcases Nat.lt_or_ge ((runCountsAt budget (raised ++ kept)).map (·.2)).sum budget with short | reached
      · have := runCountsAt_sum short
        omega
      · omega
  case offered =>
    intro i o a offer given
    rw [eq] at given
    rw [runCounts_level offer given]
    exact Nat.min_le_right _ _
  case even =>
    intro i j o a b offer given other could
    rw [eq] at given other
    obtain ⟨p, place⟩ : ∃ p, (raised ++ kept)[j]? = some p := by
      have inside := (List.getElem?_eq_some_iff.mp other).1
      exact ⟨_, List.getElem?_eq_getElem (by simpa [runCountsAt] using inside)⟩
    have first := runCounts_level offer given
    have second := runCounts_level place other
    split at first <;> split at second <;> omega

end Sys2Proof.Machine
end

section
/-! The views of the Peer Table's entries (R55, R57 to R59, R102). -/
namespace Sys2Proof.Machine
variable {s : State}

/-! ## The entries as a list -/

theorem PerThread.mem_toList {α : Type} (p : PerThread α) (n : Nat) (a : α) :
    (n, a) ∈ p.toList ↔ p.get? n = some a := by
  constructor
  · intro mem
    simp only [PerThread.toList, List.mem_cons, Prod.mk.injEq, List.not_mem_nil, or_false] at mem
    rcases mem with ⟨rfl, rfl⟩ | ⟨rfl, rfl⟩ | ⟨rfl, rfl⟩ | ⟨rfl, rfl⟩ | ⟨rfl, rfl⟩ | ⟨rfl, rfl⟩ | ⟨rfl, rfl⟩ <;> rfl
  · intro got
    unfold PerThread.get? at got
    split at got <;> cases got <;> simp [PerThread.toList]

theorem PerThread.toList_ascending {α : Type} (p : PerThread α) : p.toList.Pairwise (fun x y => x.1 < y.1) := by
  simp [PerThread.toList]

theorem PerThread.get?_range {α : Type} {p : PerThread α} {n : Nat} {a : α} (got : p.get? n = some a) :
    1 ≤ n ∧ n ≤ 7 := by
  by_contra out
  rw [(PerThread.get?_eq_none_iff p n).mpr (by omega)] at got
  cases got

/-- A selection that keeps the stations is in ascending order as the entries are. -/
theorem ascending_filterMap {α β : Type} {l : List (Nat × α)} (order : l.Pairwise (fun x y => x.1 < y.1))
    (f : Nat × α → Option β) (station : β → Nat) (kept : ∀ x b, f x = some b → station b = x.1) :
    ((l.filterMap f).map station).Pairwise (· < ·) := by
  refine List.pairwise_map.mpr ?_
  refine List.Pairwise.filterMap f (fun x y lt b hb c hc => ?_) order
  rw [kept x b hb, kept y c hc]
  exact lt

theorem ascending_filter {α : Type} {l : List (Nat × α)} (order : l.Pairwise (fun x y => x.1 < y.1))
    (p : Nat × α → Bool) : ((l.filter p).map (·.1)).Pairwise (· < ·) :=
  List.pairwise_map.mpr (order.filter p)

/-! ## The records of the LIVE entries -/

theorem Entry.liveRecord_iff (e : Entry StatusRecord) (r : StatusRecord) :
    e.liveRecord = some r ↔ e.role = .thread ∧ e.state = .live ∧ e.record = some r := by
  unfold Entry.liveRecord
  split
  case isTrue live => exact ⟨fun record => ⟨live.1, live.2, record⟩, fun ⟨_, _, record⟩ => record⟩
  case isFalse no => exact ⟨(by cases ·), fun ⟨role, live, _⟩ => absurd ⟨role, live⟩ no⟩

theorem State.mem_peers (s : State) (n : Nat) (e : Entry StatusRecord) :
    (n, e) ∈ s.peers ↔ n ≠ s.own ∧ s.table.threads.get? n = some e := by
  simp [State.peers, PerThread.mem_toList, and_comm]

theorem State.mem_liveRecords (s : State) (n : Nat) (r : StatusRecord) : (n, r) ∈ s.liveRecords ↔ n ≠ s.own ∧
    ∃ e, s.table.threads.get? n = some e ∧ e.role = .thread ∧ e.state = .live ∧ e.record = some r := by
  simp only [State.liveRecords, List.mem_filterMap, Option.map_eq_some_iff, Prod.mk.injEq, Prod.exists,
    State.mem_peers, Entry.liveRecord_iff]
  constructor
  · rintro ⟨_, e, ⟨other, got⟩, r, live, rfl, rfl⟩
    exact ⟨other, e, got, live⟩
  · rintro ⟨other, e, got, live⟩
    exact ⟨n, e, ⟨other, got⟩, r, live, rfl, rfl⟩

theorem State.peers_ascending (s : State) : s.peers.Pairwise (fun x y => x.1 < y.1) :=
  (PerThread.toList_ascending _).filter _

theorem State.liveRecords_ascending (s : State) : (s.liveRecords.map (·.1)).Pairwise (· < ·) := by
  refine ascending_filterMap s.peers_ascending _ _ fun x b eq => ?_
  obtain ⟨r, _, rfl⟩ := Option.map_eq_some_iff.mp eq
  rfl

/-! ## The wind sources -/

/-- The source a LIVE entry's record makes. -/
def recordWind (n : Nat) (r : StatusRecord) : WindSource :=
  { station := n, direction := r.direction, speed := r.windSpeed, twist := r.twist }

theorem State.windSources_ascending (s : State) : (s.windSources.map (·.station)).Pairwise (· < ·) := by
  refine ascending_filterMap (PerThread.toList_ascending _) _ _ fun x b eq => ?_
  by_cases own : x.1 = s.own
  · rw [if_pos own] at eq
    cases eq
    exact own.symm
  · rw [if_neg own] at eq
    obtain ⟨r, _, rfl⟩ := Option.map_eq_some_iff.mp eq
    rfl

theorem State.mem_windSources (s : State) (x : WindSource) : x ∈ s.windSources ↔
    (1 ≤ s.own ∧ s.own ≤ 7 ∧ x = s.ownWind) ∨
      ∃ r, (x.station, r) ∈ s.liveRecords ∧ x = recordWind x.station r := by
  simp only [State.windSources, List.mem_filterMap, Prod.exists, PerThread.mem_toList, State.mem_liveRecords]
  constructor
  · rintro ⟨n, e, got, eq⟩
    by_cases own : n = s.own
    · rw [if_pos own] at eq
      cases eq
      obtain ⟨low, high⟩ := PerThread.get?_range got
      exact .inl ⟨own ▸ low, own ▸ high, rfl⟩
    · rw [if_neg own] at eq
      obtain ⟨r, live, rfl⟩ := Option.map_eq_some_iff.mp eq
      exact .inr ⟨r, ⟨own, e, got, (Entry.liveRecord_iff e r).mp live⟩, rfl⟩
  · rintro (⟨low, high, rfl⟩ | ⟨r, ⟨other, e, got, live⟩, eq⟩)
    · obtain ⟨e, got⟩ := PerThread.get?_isSome s.table.threads low high
      exact ⟨s.own, e, got, if_pos rfl⟩
    · refine ⟨x.station, e, got, ?_⟩
      rw [if_neg other, (Entry.liveRecord_iff e r).mpr live]
      exact congrArg some eq.symm

theorem WindSource.eq_iff (x y : WindSource) : x = y ↔
    x.station = y.station ∧ x.direction = y.direction ∧ x.speed = y.speed ∧ x.twist = y.twist :=
  ⟨fun eq => eq ▸ ⟨rfl, rfl, rfl, rfl⟩, fun ⟨a, b, c, d⟩ => by cases x; cases y; simp_all⟩

/-! ## Owners -/

theorem State.mem_ownOwner (s : State) (role : CoolingRole) (n : Nat) (h : Bool) :
    (n, h) ∈ s.ownOwner role ↔ n = s.own ∧ s.cfg.role = role ∧ h = s.cooling.healthy := by
  unfold State.ownOwner
  split
  case isTrue is => simp [is]
  case isFalse no => simp [no]

theorem mem_owners {l : List (Nat × StatusRecord)} {owner healthy : StatusRecord → Bool} {n : Nat} {h : Bool} :
    (n, h) ∈ l.filterMap (fun nr => if owner nr.2 then some (nr.1, healthy nr.2) else none) ↔
      ∃ r, (n, r) ∈ l ∧ owner r = true ∧ h = healthy r := by
  simp only [List.mem_filterMap, Prod.exists, Option.ite_none_right_eq_some, Option.some.injEq, Prod.mk.injEq]
  constructor
  · rintro ⟨_, r, mem, is, rfl, rfl⟩
    exact ⟨r, mem, is, rfl⟩
  · rintro ⟨r, mem, is, rfl⟩
    exact ⟨n, r, mem, is, rfl, rfl⟩

theorem State.flowProven_iff (s : State) : s.flowProven = true ↔ (s.cfg.role = .pump ∧ s.cooling.healthy = true) ∨
    (s.cfg.role ≠ .pump ∧ ∃ n, (n, true) ∈ s.pumpOwners) := by
  unfold State.flowProven
  split
  case h_1 pump => simp [pump]
  case h_2 fan => simp [fan]
  case h_3 none => simp [none]

/-! ## The switching set and the nacelle view -/

theorem ThreadState.switching_of_code (code : Nat) :
    (ThreadState.ofCode code).elim false ThreadState.switching = true ↔ code = 2 ∨ code = 3 ∨ code = 4 := by
  unfold ThreadState.ofCode
  split
  case h_8 no0 no1 no2 no3 no4 no5 no6 =>
    exact ⟨(by cases ·), fun code => by rcases code with rfl | rfl | rfl <;> contradiction⟩
  all_goals simp [ThreadState.switching]

theorem State.switches_own (s : State) (e : Entry StatusRecord) : s.switches s.own e = s.thread.state.switching :=
  if_pos rfl

theorem State.switches_iff {n : Nat} (e : Entry StatusRecord) (other : n ≠ s.own) : s.switches n e = true ↔
    ∃ r, e.liveRecord = some r ∧ (r.threadCode = 2 ∨ r.threadCode = 3 ∨ r.threadCode = 4) := by
  unfold State.switches
  rw [if_neg other]
  cases e.liveRecord with
  | none => simp
  | some r =>
    have code := ThreadState.switching_of_code r.threadCode
    dsimp only
    cases known : ThreadState.ofCode r.threadCode <;> rw [known] at code <;> simpa using code

theorem State.mem_switchingSet (s : State) (n : Nat) : n ∈ s.switchingSet ↔
    (1 ≤ s.own ∧ s.own ≤ 7 ∧ n = s.own ∧ s.thread.state.switching = true) ∨
      ∃ r, (n, r) ∈ s.liveRecords ∧ (r.threadCode = 2 ∨ r.threadCode = 3 ∨ r.threadCode = 4) := by
  simp only [State.switchingSet, List.mem_map, List.mem_filter, Prod.exists, PerThread.mem_toList,
    State.mem_liveRecords]
  constructor
  · rintro ⟨m, e, ⟨got, switches⟩, rfl⟩
    by_cases own : m = s.own
    · obtain ⟨low, high⟩ := PerThread.get?_range got
      subst own
      exact .inl ⟨low, high, rfl, by rwa [State.switches_own] at switches⟩
    · obtain ⟨r, live, code⟩ := (State.switches_iff e own).mp switches
      exact .inr ⟨r, ⟨own, e, got, (Entry.liveRecord_iff e r).mp live⟩, code⟩
  · rintro (⟨low, high, rfl, switching⟩ | ⟨r, ⟨other, e, got, live⟩, code⟩)
    · obtain ⟨e, got⟩ := PerThread.get?_isSome s.table.threads low high
      exact ⟨s.own, e, ⟨got, by rwa [State.switches_own]⟩, rfl⟩
    · exact ⟨n, e, ⟨got, (State.switches_iff e other).mpr ⟨r, (Entry.liveRecord_iff e r).mpr live, code⟩⟩, rfl⟩

theorem Entry.showsNacelleTrip_iff (e : Entry StatusRecord) : e.showsNacelleTrip = true ↔
    ∃ r, e.role = .thread ∧ (e.state = .live ∨ e.state = .stale) ∧ e.record = some r ∧ r.nacelleTrip = true := by
  unfold Entry.showsNacelleTrip
  cases e.record <;> simp [and_assoc]

theorem State.mem_nacelleView (s : State) (n : Nat) : n ∈ s.nacelleView ↔ n ≠ s.own ∧
    ∃ e r, s.table.threads.get? n = some e ∧ e.role = .thread ∧ (e.state = .live ∨ e.state = .stale) ∧
      e.record = some r ∧ r.nacelleTrip = true := by
  simp only [State.nacelleView, List.mem_map, List.mem_filter, Prod.exists, State.mem_peers,
    Entry.showsNacelleTrip_iff]
  constructor
  · rintro ⟨_, e, ⟨⟨other, got⟩, r, shown⟩, rfl⟩
    exact ⟨other, e, r, got, shown⟩
  · rintro ⟨other, e, r, got, shown⟩
    exact ⟨n, e, ⟨⟨other, got⟩, r, shown⟩, rfl⟩

/-- Settles O32: each view read off the list of the entries. -/
theorem viewsOfTheEntries : Obligations.ViewsOfTheEntries := by
  intro s
  refine ⟨s.liveRecords_ascending, s.mem_liveRecords, s.windSources_ascending, fun x => ?sources, fun n h => ?pumps,
    fun n h => ?fans, s.flowProven_iff, ascending_filter (PerThread.toList_ascending _) _, fun n => ?switching,
    s.mem_nacelleView⟩
  case sources =>
    rw [State.mem_windSources]
    refine or_congr (and_congr_right fun _ => and_congr_right fun _ => ?_) (exists_congr fun r =>
      and_congr_right fun _ => ?_)
    · rw [WindSource.eq_iff]
      simp [State.ownWind]
    · rw [WindSource.eq_iff]
      simp [recordWind]
  case pumps =>
    rw [State.pumpOwners, List.mem_append, State.mem_ownOwner]
    exact or_congr Iff.rfl mem_owners
  case fans =>
    rw [State.fanOwners, List.mem_append, State.mem_ownOwner]
    exact or_congr Iff.rfl mem_owners
  case switching =>
    rw [State.mem_switchingSet, ThreadState.switching_iff]

end Sys2Proof.Machine
end

section
/-! The ageing of the entries (R45, R48). -/
namespace Sys2Proof.Machine
variable {s t u : State}

/-! ## Commands that leave the entries -/

/-- The Peer Table stands but for a change told to it (R51). -/
def State.TableKept (s t : State) : Prop := t.table = { s.table with changePending := t.table.changePending }

theorem State.TableKept.trans (st : s.TableKept t) (tu : t.TableKept u) : s.TableKept u := by
  unfold State.TableKept at *
  rw [tu, st]

theorem reportWarn_tableKept (s : State) (cls code : Nat) (detail : Int) :
    s.TableKept (reportFault s cls code .warn detail) := by
  unfold State.TableKept
  rw [reportWarn_footprint]

theorem judgeDemand_tableKept (s : State) : s.TableKept (judgeDemand s) := by
  unfold judgeDemand State.TableKept
  split
  · rfl
  · split
    · rw [enterOff_eq]
    · rw [enterOff_eq]
    · dsimp only; rw [setThread_eq]
    · dsimp only; rw [setThread_eq]
    · rfl
    · rfl
    · rfl

theorem stopSession_tableKept (s : State) : s.TableKept (stopSession s) := by
  have stopping (s : State) : s.TableKept (enterStopping s) := by
    unfold enterStopping State.TableKept
    rw [setYaw_eq]
  have offered : s.TableKept (offerStop s) := by
    unfold State.TableKept offerStop offerYaw
    (repeat' split) <;> rfl
  exact offered.trans (stopping _)

theorem stopForStale_tableKept (s : State) (n : Nat) : s.TableKept (stopForStale s n) :=
  (reportWarn_tableKept s clsYaw 7 n).trans (stopSession_tableKept _)

/-! ## One entry's step -/

/-- R45: what an ageing step makes of an entry, for its STALE and LOST limits. -/
def Entry.Aged {ρ : Type} (e e' : Entry ρ) (limits : Nat × Nat) : Prop :=
  e'.record = e.record ∧ e'.lastTag = e.lastTag ∧ e'.role = e.role ∧ (e.state = .absent → e' = e) ∧
  (e.state ≠ .absent → e'.age = min 65535 (e.age + 1) ∧
    (limits.2 < e'.age → e'.state = .lost ∧ e'.good = 0) ∧
    (e'.age ≤ limits.2 → limits.1 < e'.age → e.state = .live → e'.state = .stale ∧ e'.good = e.good) ∧
    (e'.age ≤ limits.2 → (e'.age ≤ limits.1 ∨ e.state ≠ .live) → e'.state = e.state ∧ e'.good = e.good))

theorem Entry.ageStep_absent {ρ : Type} {e : Entry ρ} (absent : e.state = .absent) (limits : Nat × Nat) :
    e.ageStep limits = e := by
  unfold Entry.ageStep
  rw [absent]

theorem Entry.ageStep_heard {ρ : Type} {e : Entry ρ} (heard : e.state ≠ .absent) (limits : Nat × Nat) :
    e.ageStep limits =
      if limits.2 < min 65535 (e.age + 1) then { e with age := min 65535 (e.age + 1), state := .lost, good := 0 }
      else if limits.1 < min 65535 (e.age + 1) ∧ e.state = .live then
        { e with age := min 65535 (e.age + 1), state := .stale }
      else { e with age := min 65535 (e.age + 1) } := by
  unfold Entry.ageStep
  split
  case h_1 absent => exact absurd absent heard
  all_goals rfl

theorem Entry.ageStep_aged {ρ : Type} (e : Entry ρ) (limits : Nat × Nat) : e.Aged (e.ageStep limits) limits := by
  by_cases absent : e.state = .absent
  · rw [Entry.ageStep_absent absent]
    exact ⟨rfl, rfl, rfl, fun _ => rfl, fun heard => absurd absent heard⟩
  · rw [Entry.ageStep_heard absent]
    split
    case isTrue lost =>
      exact ⟨rfl, rfl, rfl, fun is => absurd is absent, fun _ =>
        ⟨rfl, fun _ => ⟨rfl, rfl⟩, fun within => absurd lost (Nat.not_lt.mpr within),
          fun within => absurd lost (Nat.not_lt.mpr within)⟩⟩
    case isFalse within =>
      split
      case isTrue stale =>
        exact ⟨rfl, rfl, rfl, fun is => absurd is absent, fun _ =>
          ⟨rfl, fun lost => absurd lost within, fun _ _ _ => ⟨rfl, rfl⟩, fun _ fresh =>
            fresh.elim (fun low => absurd stale.1 (Nat.not_lt.mpr low)) (absurd stale.2)⟩⟩
      case isFalse fresh =>
        exact ⟨rfl, rfl, rfl, fun is => absurd is absent, fun _ =>
          ⟨rfl, fun lost => absurd lost within, fun _ low live => absurd ⟨low, live⟩ fresh, fun _ _ => ⟨rfl, rfl⟩⟩⟩

/-! ## The step -/

/-- The entries after a step, the own one as it was. -/
def State.aged (s : State) : State :=
  { s with table := { s.table with
    threads := s.table.threads.map (fun n e => if n = s.own then e else e.ageStep s.quiet.threadLimits),
    controller := s.table.controller.ageStep s.quiet.controllerLimits } }

/-- R48: what follows from the loss of entry 0. -/
def State.controllerJudged (s : State) : State :=
  if s.table.controller.state != .lost && s.aged.table.controller.state == .lost then
    judgeDemand (reportFault s.aged clsPlant 3 .warn (min 32767 s.aged.table.controller.age))
  else s.aged

theorem age_cases (s : State) : age s = s.controllerJudged ∨
    ∃ n, s.staleStops n = true ∧ age s = stopForStale s.controllerJudged n := by
  unfold age
  dsimp only
  split
  case h_1 => exact .inl rfl
  case h_2 n rest some =>
    have stops : n ∈ List.filter s.staleStops _ := some ▸ List.mem_cons_self
    exact .inr ⟨n, (List.mem_filter.mp stops).2, rfl⟩

theorem controllerJudged_tableKept (s : State) : s.aged.TableKept s.controllerJudged := by
  unfold State.controllerJudged
  split
  · exact (reportWarn_tableKept ..).trans (judgeDemand_tableKept _)
  · exact rfl

theorem age_tableKept (s : State) : s.aged.TableKept (age s) := by
  rcases age_cases s with judged | ⟨n, -, stopped⟩
  · rw [judged]
    exact controllerJudged_tableKept s
  · rw [stopped]
    exact (controllerJudged_tableKept s).trans (stopForStale_tableKept ..)

theorem age_idle (idle : s.yaw.state = .idle) : age s = s.controllerJudged := by
  rcases age_cases s with judged | ⟨n, stops, -⟩
  · exact judged
  · simp [State.staleStops, State.inSession, idle] at stops

/-- R50: a LOST controller is read as the fallback demand. -/
theorem demand_of_lost (lost : s.table.controller.state = .lost) : s.demand = EffectiveDemand.fallback := by
  unfold State.demand Entry.demand
  rw [lost]

theorem judgeDemand_stops (mode : s.demand.mode ≠ .produce) (run : s.thread.state = .run) :
    (judgeDemand s).thread.state = .stopping := by
  unfold judgeDemand
  rw [if_neg mode, run]
  dsimp only
  rw [setThread_eq]

/-- R45: the step taken when due. -/
theorem ageingStep_due {t0 : Nat} (on : s.running = true) (timer : s.table.ageTimer = some t0)
    (due : t0 + Config.ageing ≤ s.now) : ageingStep s =
      age { s with table := { s.table with ageTimer := some (t0 + Config.ageing) } } := by
  unfold ageingStep
  rw [if_pos ⟨on, (Timer.reached_iff ..).mpr ⟨t0, timer, due⟩⟩, timer]
  rfl

theorem ageingStep_early {t0 : Nat} (timer : s.table.ageTimer = some t0) (early : s.now < t0 + Config.ageing) :
    ageingStep s = s := by
  unfold ageingStep
  rw [if_neg fun due => ?_]
  rw [not_reached_of timer early] at due
  cases due.2

/-- R48: entry 0 become LOST is reported, and a thread in RUN stops. -/
theorem age_loses (idle : s.yaw.state = .idle) (takes : s.takesOffers = true) (can : s.CanReport)
    (heard : s.table.controller.state ≠ .absent) (fresh : s.table.controller.state ≠ .lost)
    (late : s.quiet.controllerLimits.2 < min 65535 (s.table.controller.age + 1)) :
    (age s).table.controller.state = .lost ∧
    s.Logged (age s) s.own clsPlant 3 1 1 (some (min 32767 (s.table.controller.age + 1) : Nat)) none ∧
    s.Noticed (age s) clsPlant 3 1 1 (min 32767 (s.table.controller.age + 1) : Nat) ∧
    (s.thread.state = .run → (age s).thread.state = .stopping) := by
  have step : s.aged.table.controller = { s.table.controller with
      age := min 65535 (s.table.controller.age + 1), state := .lost, good := 0 } :=
    (Entry.ageStep_heard heard _).trans (if_pos late)
  have detail : min 32767 (s.aged.table.controller.age : Int) =
      (min 32767 (s.table.controller.age + 1) : Nat) := by
    rw [step]
    dsimp only
    omega
  have judged : s.controllerJudged = judgeDemand (reportFault s.aged clsPlant 3 .warn
      (min 32767 (s.table.controller.age + 1) : Nat)) := by
    unfold State.controllerJudged
    rw [if_pos (by simp [step, fresh]), detail]
  have canAged : s.aged.CanReport := can
  have action : (reportAction s.aged clsPlant 3 .warn).code = 1 := by rw [reportAction_warn (by decide)]; rfl
  have logged := takeReport_logged (severity := .warn) s.aged clsPlant 3 (min 32767 (s.table.controller.age + 1) : Nat)
    (by simp) canAged.1 canAged.2.1
  have noticed := takeReport_noticed (severity := .warn) s.aged clsPlant 3
    (min 32767 (s.table.controller.age + 1) : Nat) (by simp) takes canAged.2.1
  rw [← reportWarn_eq, action] at logged noticed
  have table := reportWarn_tableKept s.aged clsPlant 3 (min 32767 (s.table.controller.age + 1) : Nat)
  have thread := reportFault_warn_threadState s.aged clsPlant 3 (min 32767 (s.table.controller.age + 1) : Nat)
  rw [age_idle idle, judged]
  generalize reportFault s.aged clsPlant 3 .warn (min 32767 (s.table.controller.age + 1) : Nat) = u at *
  have lost : u.table.controller.state = .lost := by rw [table, step]
  have log : (judgeDemand u).log = u.log := by simp
  have link : (judgeDemand u).link = u.link := by simp
  refine ⟨by rw [judgeDemand_tableKept u]; exact lost, ?_, ?_, fun run => ?_⟩
  · unfold State.Logged at logged ⊢
    rw [log]
    exact logged
  · unfold State.Noticed at noticed ⊢
    rw [log, link]
    exact noticed
  · refine judgeDemand_stops ?_ (thread.trans run)
    rw [demand_of_lost lost]
    simp [EffectiveDemand.fallback]

/-- Settles O33: each entry by its step, and the loss of entry 0 by its report. -/
theorem entriesAge : Obligations.EntriesAge := by
  intro s t0 on timer
  refine ⟨fun early => congrArg Host.Outcome.next (ageingStep_early timer early), fun due => ?_⟩
  have eq := ageingStep_due on timer due
  generalize begun : ({ s with table := { s.table with ageTimer := some (t0 + Config.ageing) } } : State) = u at eq
  have kept := age_tableKept u
  have aged : u.aged.table = { s.table with
      ageTimer := some (t0 + Config.ageing),
      threads := s.table.threads.map (fun n e => if n = s.own then e else e.ageStep s.quiet.threadLimits),
      controller := s.table.controller.ageStep s.quiet.controllerLimits } := by
    subst begun
    rfl
  have threads : (age u).table.threads =
      s.table.threads.map (fun n e => if n = s.own then e else e.ageStep s.quiet.threadLimits) := by rw [kept, aged]
  have controller : (age u).table.controller = s.table.controller.ageStep s.quiet.controllerLimits := by
    rw [kept, aged]
  obtain ⟨record, tag, role, absent, heard⟩ := Entry.ageStep_aged s.table.controller s.quiet.controllerLimits
  refine ⟨age u, congrArg Host.Outcome.next eq, by rw [kept, aged], ?own, ?others, by rw [controller, record],
    by rw [controller, tag], by rw [controller, role], by rw [controller]; exact absent,
    by rw [controller]; exact heard, ?lost⟩
  case own =>
    rw [threads, PerThread.get?_map]
    cases s.table.threads.get? s.own <;> simp
  case others =>
    intro n e other got
    refine ⟨_, ?_, Entry.ageStep_aged e s.quiet.threadLimits⟩
    rw [threads, PerThread.get?_map, got, Option.map_some, if_neg other]
  case lost =>
    intro idle takes can heard fresh late
    subst begun
    exact age_loses (s := { s with table := { s.table with ageTimer := some (t0 + Config.ageing) } }) idle takes can
      heard fresh late

end Sys2Proof.Machine
end

section
/-! A status built (R51 to R53), a status and a demand taken (R43, R44, R49). -/
namespace Sys2Proof.Machine
variable {s t u : State}

/-! ## The own status -/

theorem State.statusPeriod_eq (s : State) :
    s.statusPeriod = if s.quiet.state = .quiet then s.quiet.interval * 40000000 else 80000 := by
  unfold State.statusPeriod
  split
  case h_1 active => exact (if_neg (by simp [active])).symm
  case h_2 pending => exact (if_neg (by simp [pending])).symm
  case h_3 quiet => exact (if_pos quiet).symm

theorem State.statusDue_iff {t0 : Nat} (timer : s.table.statusTimer = some t0) : s.statusDue = true ↔
    t0 + s.statusPeriod ≤ s.now ∨ (s.table.changePending = true ∧ t0 + 20000 ≤ s.now) := by
  have reached (limit : Nat) : s.table.statusTimer.reached s.now limit = true ↔ t0 + limit ≤ s.now := by
    rw [Timer.reached_iff, timer]
    exact ⟨fun ⟨_, eq, due⟩ => by cases eq; exact due, fun due => ⟨t0, rfl, due⟩⟩
  unfold State.statusDue
  rw [Bool.or_eq_true, Bool.and_eq_true, reached, reached]
  rfl

theorem offerStatus_footprint (s : State) (r : StatusRecord) :
    offerStatus s r = { s with link := (offerStatus s r).link } := by
  unfold offerStatus
  (repeat' split) <;> rfl

/-- R14: the queue a status finds is the Link Controller's own. -/
theorem offerStatus_table (s : State) (p : PeerTable) (r : StatusRecord) :
    offerStatus { s with table := p } r = { s with link := (offerStatus s r).link, table := p } := by
  have takes : ({ s with table := p } : State).takesOffers = s.takesOffers := rfl
  have own : ({ s with table := p } : State).own = s.own := rfl
  unfold offerStatus
  rw [takes, own]
  dsimp only
  split
  · rfl
  · split
    · rfl
    · cases roomForStatus s.link.queue <;> rfl

theorem buildStatus_eq {e : Entry StatusRecord} (own : s.table.threads.get? s.own = some e) :
    buildStatus s = { s with
      link := (offerStatus s (s.statusNow ((s.table.statusTag + 1) % 256))).link,
      table := { s.table with
        threads := s.table.threads.set s.own { e with
          record := some (s.statusNow ((s.table.statusTag + 1) % 256)),
          lastTag := some ((s.table.statusTag + 1) % 256) },
        statusTag := (s.table.statusTag + 1) % 256, statusTimer := some s.now, changePending := false } } := by
  unfold buildStatus
  dsimp only
  rw [offerStatus_table, own]

/-- Settles O34: the time of a status, its fields and its offer. -/
theorem statusBuilt : Obligations.StatusBuilt := by
  intro s t0 e joined timer own period tag
  have dueIff : s.statusDue = true ↔ t0 + period ≤ s.now ∨ (s.table.changePending = true ∧ t0 + 20000 ≤ s.now) := by
    rw [State.statusDue_iff timer, s.statusPeriod_eq]
  refine ⟨fun early => congrArg Host.Outcome.next ?_, fun due =>
    ⟨buildStatus s, congrArg Host.Outcome.next ?_, ?_, ?_⟩, ?_⟩
  · refine if_neg fun ready => ?_
    obtain ⟨before, calm⟩ := early
    rcases dueIff.mp ready.2 with due | ⟨pending, due⟩
    · omega
    · rcases calm with calm | calm
      · rw [pending] at calm; cases calm
      · omega
  · exact if_pos ⟨joined, dueIff.mpr due⟩
  · rw [buildStatus_eq own]
  · rw [buildStatus_eq own]
  · simp [State.statusNow, State.nacelleFlag, State.ownWind, Bool.beq_eq_decide_eq]

/-! ## A good frame handed on -/

/-- R9, R18: a good frame with no correction is dispatched as it stands. -/
theorem frameReceived_dispatch {levels : List Level} {n : Nat} {f : Frame} (on : s.running = true)
    (receives : s.receives = true) (good : receive levels = (false, .good n f)) :
    frameReceived s levels = dispatch s.received n f := by
  rw [frameReceived_taken s levels on receives, good]
  rfl

/-! ## The entry of a frame -/

/-- R43: what a new frame makes of the state and the consecutive-good count of its entry. -/
def Entry.Advanced {ρ : Type} (e e' : Entry ρ) (stale : Nat) : Prop :=
  ((e.state = .absent ∨ e.state = .lost) → e'.state = .heard ∧ e'.good = 1) ∧
  (e.state = .heard → stale < e.age → e'.state = .heard ∧ e'.good = 1) ∧
  (e.state = .heard → e.age ≤ stale → e.good + 1 < 3 → e'.state = .heard ∧ e'.good = e.good + 1) ∧
  (e.state = .heard → e.age ≤ stale → 3 ≤ e.good + 1 → e'.state = .live ∧ e'.good = 3) ∧
  ((e.state = .live ∨ e.state = .stale) → e'.state = .live ∧ e'.good = 3)

theorem Entry.isRepeat_iff {ρ : Type} (e : Entry ρ) (tag : Nat) :
    e.isRepeat tag = true ↔ e.record.isSome = true ∧ e.lastTag = some tag := by
  simp [Entry.isRepeat]

theorem Entry.not_isRepeat {ρ : Type} {e : Entry ρ} {tag : Nat} (new : e.record = none ∨ e.lastTag ≠ some tag) :
    e.isRepeat tag = false := by
  rcases new with none | other
  · simp [Entry.isRepeat, none]
  · simp [Entry.isRepeat, other]

theorem Entry.take_repeat {ρ : Type} {e : Entry ρ} {tag : Nat} (again : e.isRepeat tag = true) (role : Role)
    (record : ρ) (stale : Nat) : e.take role tag record stale = { e with age := 0 } := by
  unfold Entry.take
  rw [if_pos again]

theorem Entry.take_new {ρ : Type} {e : Entry ρ} {tag : Nat} (new : e.isRepeat tag = false) (role : Role)
    (record : ρ) (stale : Nat) : e.take role tag record stale =
      { role := role, state := (e.advance stale).1, age := 0, good := (e.advance stale).2, record := some record,
        lastTag := some tag } := by
  unfold Entry.take
  rw [if_neg (by simp [new])]

theorem Entry.take_advanced {ρ : Type} {e : Entry ρ} {tag : Nat} (new : e.isRepeat tag = false) (role : Role)
    (record : ρ) (stale : Nat) : e.Advanced (e.take role tag record stale) stale := by
  rw [Entry.take_new new]
  refine ⟨fun was => ?_, fun heard old => ?_, fun heard young few => ?_, fun heard young third => ?_, fun was => ?_⟩
  · rcases was with was | was <;> exact ⟨by simp [Entry.advance, was], by simp [Entry.advance, was]⟩
  · simp [Entry.advance, heard, old]
  · simp [Entry.advance, heard, Nat.not_lt.mpr young, Nat.not_le.mpr few]
  · simp [Entry.advance, heard, Nat.not_lt.mpr young, third]
  · rcases was with was | was <;> exact ⟨by simp [Entry.advance, was], by simp [Entry.advance, was]⟩

/-! ## A status taken -/

/-- The table with a status's entry replaced. -/
def State.withStatus (s : State) (n : Nat) (e : Entry StatusRecord) : State :=
  { s with table := { s.table with threads := s.table.threads.set n e } }

theorem takeStatus_repeat {n : Nat} {r : StatusRecord} {e : Entry StatusRecord}
    (got : s.table.threads.get? n = some e) (again : e.isRepeat r.tag = true) :
    takeStatus s n r = s.withStatus n { e with age := 0 } := by
  simp only [takeStatus, got, Entry.take_repeat again, if_pos again]
  rfl

theorem takeStatus_new {n : Nat} {r : StatusRecord} {e : Entry StatusRecord}
    (got : s.table.threads.get? n = some e) (new : e.isRepeat r.tag = false) :
    let e' := e.take .thread r.tag r s.quiet.threadLimits.1
    takeStatus s n r = judgeStatus
      (if tellsNacelleTrip e e' r then takeNacelleStatus (s.withStatus n e') n else s.withStatus n e') n := by
  simp only [takeStatus, got, new, Bool.false_eq_true, if_false]
  rfl

theorem takeStatus_entries {n : Nat} {r : StatusRecord} {e : Entry StatusRecord}
    (got : s.table.threads.get? n = some e) :
    (takeStatus s n r).table.threads = s.table.threads.set n (e.take .thread r.tag r s.quiet.threadLimits.1) ∧
    (takeStatus s n r).table.controller = s.table.controller := by
  cases again : e.isRepeat r.tag with
  | true =>
    rw [takeStatus_repeat got again, Entry.take_repeat again]
    exact ⟨rfl, rfl⟩
  | false =>
    rw [takeStatus_new got again]
    generalize e.take .thread r.tag r s.quiet.threadLimits.1 = e'
    have told : Moves (· = Part.driving) (s.withStatus n e')
        (if tellsNacelleTrip e e' r then takeNacelleStatus (s.withStatus n e') n else s.withStatus n e') := by
      split
      · exact takeNacelleStatus_moves (.refl _) n
      · exact .refl _
    have framed := (judgeStatus_moves told rfl n).framed
    exact ⟨framed.threads (by simp) (by simp) (by simp), framed.controller (by simp)⟩

theorem judgeStatus_idle (idle : s.yaw.state = .idle) (n : Nat) : judgeStatus s n = s := by
  unfold judgeStatus judgeDriving
  (repeat' split) <;> simp_all [State.inSession]

/-- Settles O29: a status by its entry. -/
theorem statusTaken : Obligations.StatusTaken := by
  intro s levels n r e on receives good other got
  have eq : frameReceived s levels = takeStatus s.received n r := by
    rw [frameReceived_dispatch on receives good]
    exact if_neg other
  have got' : s.received.table.threads.get? n = some e := got
  obtain ⟨threads, controller⟩ := takeStatus_entries (s := s.received) (r := r) got'
  have limits : s.received.quiet.threadLimits = s.quiet.threadLimits := rfl
  refine ⟨takeStatus s.received n r, e.take .thread r.tag r s.quiet.threadLimits.1, congrArg Host.Outcome.next eq, ?_,
    fun m apart => ?_, controller, fun again => ?_, fun new => ?_, fun plain idle => ?_⟩
  · rw [threads, PerThread.get?_set_self, got']
    rfl
  · rw [threads, PerThread.get?_set_ne _ _ (Ne.symm apart)]
    rfl
  · have again := (Entry.isRepeat_iff e r.tag).mpr again
    exact ⟨Entry.take_repeat again _ _ _, by rw [takeStatus_repeat got' again]; rfl⟩
  · have new := Entry.not_isRepeat new
    have parts := Entry.take_new new .thread r s.quiet.threadLimits.1
    exact ⟨by rw [parts], by rw [parts], by rw [parts], by rw [parts], Entry.take_advanced new ..⟩
  · cases again : e.isRepeat r.tag with
    | true => rw [takeStatus_repeat got' again]; rfl
    | false =>
      have silent : tellsNacelleTrip e (e.take .thread r.tag r s.received.quiet.threadLimits.1) r = false := by
        simp [tellsNacelleTrip, plain]
      rw [takeStatus_new got' again, silent, if_neg (by simp), judgeStatus_idle (by exact idle)]
      rfl

end Sys2Proof.Machine
end

section
/-! A demand taken and read (R49, R50, R87, R90, R160, R177). -/
namespace Sys2Proof.Machine
variable {s t u : State}

/-! ## The demand as read -/

theorem Entry.demand_none {e : Entry DemandRecord} (none : e.state = .absent ∨ e.state = .lost) :
    e.demand = EffectiveDemand.fallback := by
  unfold Entry.demand
  rcases none with state | state <;> rw [state]

theorem Entry.demand_read {e : Entry DemandRecord} {d : DemandRecord} (record : e.record = some d)
    (there : e.state ≠ .absent) (held : e.state ≠ .lost) : e.demand = d.read := by
  unfold Entry.demand
  rw [record]
  cases state : e.state <;> first | rfl | contradiction

theorem PlantMode.read_eq (code : Nat) :
    PlantMode.read code = if code = 1 then .produce else if code = 2 then .storm else .park := by
  unfold PlantMode.read
  split <;> simp_all

theorem YawOrder.read_eq (code : Nat) : YawOrder.read code = if code = 0 then .auto else if code = 2 then .untwist
    else if code = 3 then .turnCw else if code = 4 then .turnCcw else .hold := by
  unfold YawOrder.read
  split <;> simp_all

theorem auxIsGrid_eq (code : Nat) : auxIsGrid code = decide (code = 0) := by
  rfl

theorem DemandRecord.wakes_iff (d : DemandRecord) : d.wakes = true ↔ d.read.mode ≠ .park := by
  change (PlantMode.read d.modeCode == .produce || PlantMode.read d.modeCode == .storm) = true ↔
    PlantMode.read d.modeCode ≠ .park
  cases PlantMode.read d.modeCode <;> decide

/-! ## A new demand taken -/

/-- The table with entry 0 replaced. -/
def State.withController (s : State) (e : Entry DemandRecord) : State :=
  { s with table := { s.table with controller := e } }

/-- R49: a new demand is the effective demand at once. -/
theorem Entry.take_demand {e : Entry DemandRecord} {d : DemandRecord} (new : e.isRepeat d.tag = false) (stale : Nat) :
    (e.take .turbineController d.tag d stale).demand = d.read := by
  have parts := Entry.take_new new .turbineController d stale
  refine Entry.demand_read (by rw [parts]) ?_ ?_ <;> rw [parts] <;> unfold Entry.advance <;>
    (repeat' split) <;> simp

/-- R160: the acknowledge tag judged. -/
def State.acked (s : State) (d : DemandRecord) : State :=
  let t := s.withController (s.table.controller.take .turbineController d.tag d s.quiet.controllerLimits.1)
  if tellsAcknowledge s.table.controller d then takeAcknowledge t else t

theorem takeDemand_repeat {d : DemandRecord} (again : s.table.controller.isRepeat d.tag = true) :
    takeDemand s d = s.withController { s.table.controller with age := 0 } := by
  unfold takeDemand
  dsimp only
  rw [if_pos again, Entry.take_repeat again]
  rfl

theorem takeDemand_new {d : DemandRecord} (new : s.table.controller.isRepeat d.tag = false) :
    takeDemand s d = if d.wakes then wakeCause (judgeDemand (s.acked d)) else judgeDemand (s.acked d) := by
  unfold takeDemand
  dsimp only
  rw [if_neg (by simp [new])]
  rfl

/-- R160: what the acknowledge tag may change. -/
theorem acked_eq (s : State) (d : DemandRecord) : s.acked d = { s with
    table := { s.table with
      controller := s.table.controller.take .turbineController d.tag d s.quiet.controllerLimits.1 },
    fault := { s.fault with pendingAck :=
      (if tellsAcknowledge s.table.controller d = true ∧ s.thread.state = .tripped then some s.now
       else s.fault.pendingAck) } } := by
  unfold State.acked takeAcknowledge
  by_cases tells : tellsAcknowledge s.table.controller d = true <;> by_cases tripped : s.thread.state = .tripped <;>
    simp [tells, tripped, State.withController]

theorem tellsAcknowledge_iff (e : Entry DemandRecord) (d : DemandRecord) : tellsAcknowledge e d = true ↔
    (e.state = .live ∨ e.state = .stale) ∧ ∃ o, e.record = some o ∧ o.ackTag ≠ d.ackTag := by
  unfold tellsAcknowledge
  cases e.record <;> simp

theorem judgeDemand_off (mode : s.demand.mode ≠ .produce) (was : s.thread.state = .precharge ∨ s.thread.state = .sync) :
    judgeDemand s = enterOff s := by
  unfold judgeDemand
  rw [if_neg mode]
  rcases was with state | state <;> rw [state]

theorem judgeDemand_stopping (mode : s.demand.mode ≠ .produce)
    (was : s.thread.state = .run ∨ s.thread.state = .rideThrough) : (judgeDemand s).thread =
      { s.thread with state := .stopping, stateTimer := none, recoveryTimer := none } := by
  unfold judgeDemand
  rw [if_neg mode]
  rcases was with state | state <;> rw [state] <;> dsimp only <;> rw [setThread_eq]

/-- R177: what a wake cause leaves of the thread. -/
theorem wakeCause_threadKept (s : State) :
    (wakeCause s).thread = { s.thread with quietTimer := (wakeCause s).thread.quietTimer } := by
  rw [wakeCause_footprint]

/-- R177: what a wake cause after the judgement of a demand leaves. -/
theorem wakeIf_kept (c : Bool) (s : State) :
    (if c then wakeCause s else s).table.controller = s.table.controller ∧
    (if c then wakeCause s else s).table.threads = s.table.threads ∧
    (if c then wakeCause s else s).thread.state = s.thread.state ∧
    (if c then wakeCause s else s).thread.stateTimer = s.thread.stateTimer ∧
    (if c then wakeCause s else s).thread.recoveryTimer = s.thread.recoveryTimer ∧
    (if c then wakeCause s else s).thread.restartHold = s.thread.restartHold ∧
    (if c then wakeCause s else s).allotment = s.allotment ∧ (if c then wakeCause s else s).fault = s.fault := by
  split
  · rw [wakeCause_footprint]
    simp
  · simp

/-- R49, R87, R90, R160, R177: a new demand taken, entry 0 as it leaves it, and what follows. -/
theorem takeDemand_taken {d : DemandRecord} (new : s.table.controller.isRepeat d.tag = false) :
    let e := s.table.controller
    let t := takeDemand s d
    t.table.threads = s.table.threads ∧
    t.table.controller = e.take .turbineController d.tag d s.quiet.controllerLimits.1 ∧
    (d.read.mode ≠ .produce → (s.thread.state = .precharge ∨ s.thread.state = .sync) →
      t.thread.state = .off ∧ t.thread.stateTimer = none ∧ t.thread.restartHold = some s.now) ∧
    (d.read.mode ≠ .produce → (s.thread.state = .run ∨ s.thread.state = .rideThrough) →
      t.thread.state = .stopping ∧ t.thread.stateTimer = none ∧ t.thread.recoveryTimer = none ∧
      t.allotment = s.allotment) ∧
    (d.read.mode = .produce → t.thread.state = s.thread.state) ∧
    (d.read.mode ≠ .park → s.WakeTaken t) ∧
    (d.read.mode = .park → t.quiet = s.quiet ∧ t.cadence = s.cadence) ∧
    t.fault.pendingAck =
      (if tellsAcknowledge e d = true ∧ s.thread.state = .tripped then some s.now else s.fault.pendingAck) := by
  intro e t
  have eq : t = if d.wakes then wakeCause (judgeDemand (s.acked d)) else judgeDemand (s.acked d) := takeDemand_new new
  obtain ⟨controller, threads, state, stateTimer, recoveryTimer, restartHold, allotment, fault⟩ :=
    wakeIf_kept d.wakes (judgeDemand (s.acked d))
  rw [← eq] at controller threads state stateTimer recoveryTimer restartHold allotment fault
  have acked := acked_eq s d
  have table := judgeDemand_tableKept (s.acked d)
  have demand : (s.acked d).demand = d.read := by
    rw [acked]
    exact Entry.take_demand new _
  have thread : (s.acked d).thread = s.thread := by rw [acked]
  refine ⟨by rw [threads, table, acked], by rw [controller, table, acked], fun mode was => ?_, fun mode was => ?_,
    fun mode => ?_, fun mode => ?_, fun mode => ?_, ?_⟩
  · have off := judgeDemand_off (by rwa [demand]) (by rwa [thread])
    rw [state, stateTimer, restartHold, off, enterOff_eq, acked]
    exact ⟨rfl, rfl, rfl⟩
  · have stopping := judgeDemand_stopping (by rwa [demand]) (by rwa [thread])
    rw [state, stateTimer, recoveryTimer, allotment, stopping]
    exact ⟨rfl, rfl, rfl, by rw [(judgeDemand_frame _).2.2.2.2.2.2.2.2.2.1, acked]⟩
  · rw [state]
    unfold judgeDemand
    rw [if_pos (by rw [demand]; exact mode), thread]
  · have quiet : (judgeDemand (s.acked d)).quiet = s.quiet := by simp [acked]
    have cadence : (judgeDemand (s.acked d)).cadence = s.cadence := by simp [acked]
    have link : (judgeDemand (s.acked d)).link = s.link := by simp [acked]
    have now : (judgeDemand (s.acked d)).now = s.now := by simp [acked]
    rw [eq, if_pos (d.wakes_iff.mpr mode)]
    exact (wakeCause_taken _).congr quiet cadence (congrArg _ link) now
  · have asleep : ¬d.wakes = true := fun wakes => d.wakes_iff.mp wakes mode
    rw [eq, if_neg asleep]
    simp [acked]
  · rw [fault]
    simp [acked, e]

/-- Settles O30: a demand by its entry, and the demand as its users read it. -/
theorem demandTakenAndRead : Obligations.DemandTakenAndRead := by
  refine ⟨fun s levels d on receives good => ?_, fun s =>
    ⟨fun none => Entry.demand_none none, fun d record there held => ?_⟩⟩
  · have eq : frameReceived s levels = takeDemand s.received d := frameReceived_dispatch on receives good
    refine ⟨takeDemand s.received d, congrArg Host.Outcome.next eq, ?_, fun again => ?_, fun new => ?_⟩
    · cases again : s.received.table.controller.isRepeat d.tag with
      | true => rw [takeDemand_repeat again]; rfl
      | false => exact (takeDemand_taken again).1
    · exact takeDemand_repeat ((Entry.isRepeat_iff _ _).mpr again)
    · have new : s.received.table.controller.isRepeat d.tag = false := Entry.not_isRepeat new
      obtain ⟨-, controller, off, stopping, same, woken, asleep, ack⟩ := takeDemand_taken new
      have advanced := Entry.take_advanced new .turbineController d s.received.quiet.controllerLimits.1
      rw [← controller] at advanced
      have parts := controller.trans (Entry.take_new new .turbineController d s.received.quiet.controllerLimits.1)
      have demand : (takeDemand s.received d).demand = d.read := by
        unfold State.demand
        rw [controller]
        exact Entry.take_demand new _
      refine ⟨by rw [parts], by rw [parts], by rw [parts], by rw [parts], advanced, demand, off, stopping, same,
        fun mode pending => ?_, woken, asleep, fun o tripped record other state => ?_, fun none => ?_⟩
      · rw [((woken mode).2.1 pending).1]
      · rw [ack, if_pos ⟨(tellsAcknowledge_iff _ _).mpr ⟨state, o, record, other⟩, tripped⟩]
        rfl
      · rw [ack, if_neg]
        · rfl
        · rintro ⟨tells, tripped⟩
          obtain ⟨state, o, record, other⟩ := (tellsAcknowledge_iff _ _).mp tells
          rcases none with untripped | heard | lost | absent | same
          · exact untripped tripped
          · rcases state with h | h <;> exact absurd (h.symm.trans heard) (by simp)
          · rcases state with h | h <;> exact absurd (h.symm.trans lost) (by simp)
          · rcases state with h | h <;> exact absurd (h.symm.trans absent) (by simp)
          · exact other (same o record)
  · have read : s.demand = d.read := Entry.demand_read record there held
    rw [read]
    refine ⟨PlantMode.read_eq _, rfl, rfl, rfl, YawOrder.read_eq _, ?_⟩
    change min 28 d.budget = _
    split <;> omega

end Sys2Proof.Machine
end

section
/-!
What reports and ends of conditions leave: the causes held for one fault (R152, R153), and the part of the thread's
record that neither a trip nor a change of the thread's state touches.
-/
namespace Sys2Proof.Machine
variable {s t u : State} {cls code : Nat}

/-! ## The causes held for one fault -/

/-- R152: the causes held for a class and code; R149 keeps them at one. -/
def State.causesOf (s : State) (cls code : Nat) : List Cause :=
  s.fault.causes.filter (fun c => c.cls == cls && c.code == code)

theorem State.holdsCause_iff (s : State) (cls code : Nat) :
    s.holdsCause cls code = true ↔ s.causesOf cls code ≠ [] := by
  rw [State.holdsCause, State.causesOf, ne_eq, List.filter_eq_nil_iff, List.any_eq_true]
  push Not
  rfl

theorem holdsCause_congr (same : t.causesOf cls code = s.causesOf cls code) :
    t.holdsCause cls code = s.holdsCause cls code := by
  rw [Bool.eq_iff_iff, State.holdsCause_iff, State.holdsCause_iff, same]

theorem not_holdsCause_of (none : s.causesOf cls code = []) : s.holdsCause cls code = false := by
  rw [Bool.eq_false_iff]
  exact fun held => (State.holdsCause_iff s cls code).mp held none

theorem ended_of_causesOf (ended : ∀ c ∈ s.causesOf cls code, c.ended = true) :
    ∀ c ∈ s.fault.causes, c.cls = cls → c.code = code → c.ended = true :=
  fun c mem hcls hcode => ended c (List.mem_filter.mpr ⟨mem, by simp [hcls, hcode]⟩)

theorem causesOf_congr (fault : t.fault = s.fault) (cls code : Nat) : t.causesOf cls code = s.causesOf cls code := by
  rw [State.causesOf, fault]
  rfl

/-- R153: what the end of its condition makes of the causes held for a fault. -/
def endingOf : List Cause → List Cause
  | [] => []
  | c :: rest =>
    match c.kind with
    | .condition => rest
    | .latched => { c with ended := true } :: rest

theorem endingOf_cons_condition {c : Cause} (condition : c.kind = .condition) (rest : List Cause) :
    endingOf (c :: rest) = rest := by
  rw [endingOf, condition]

theorem endingOf_cons_latched {c : Cause} (latched : c.kind = .latched) (rest : List Cause) :
    endingOf (c :: rest) = { c with ended := true } :: rest := by
  rw [endingOf, latched]

theorem causesOf_endCondition (s : State) (cls code : Nat) :
    (endCondition s cls code).causesOf cls code = endingOf (s.causesOf cls code) := by
  unfold State.causesOf endCondition
  dsimp only
  generalize s.fault.causes = l
  induction l with
  | nil => rfl
  | cons c rest ih =>
    unfold endConditionIn
    by_cases same : c.cls = cls ∧ c.code = code
    · rw [if_pos same, List.filter_cons_of_pos (by simpa using same)]
      cases kind : c.kind with
      | condition => rw [endingOf_cons_condition kind]
      | latched =>
        rw [endingOf_cons_latched kind]
        dsimp only
        rw [List.filter_cons_of_pos (by simpa using same), kind]
    · rw [if_neg same, List.filter_cons_of_neg (by simpa using same), List.filter_cons_of_neg (by simpa using same), ih]

theorem causesOf_endCondition_other {other k : Nat} (s : State) (apart : (cls, code) ≠ (other, k)) :
    (endCondition s cls code).causesOf other k = s.causesOf other k := by
  unfold State.causesOf endCondition
  dsimp only
  generalize s.fault.causes = l
  induction l with
  | nil => rfl
  | cons c rest ih =>
    unfold endConditionIn
    split
    case isTrue same =>
      have out : (c.cls == other && c.code == k) = false := by simpa [same.1, same.2] using apart
      split <;> simp [out]
    case isFalse => rw [List.filter_cons, List.filter_cons, ih]

theorem causesOf_addCause_other {other k : Nat} (s : State) (apart : (cls, code) ≠ (other, k)) :
    (addCause s cls code).causesOf other k = s.causesOf other k := by
  unfold State.causesOf addCause
  dsimp only
  generalize s.fault.causes = l
  induction l with
  | nil =>
    have out : (cls == other && code == k) = false := by simpa using apart
    simp [addCauseTo, out]
  | cons c rest ih =>
    unfold addCauseTo
    split
    case isTrue same =>
      have out : (c.cls == other && c.code == k) = false := by simpa [same.1, same.2] using apart
      split <;> simp [out]
    case isFalse => rw [List.filter_cons, List.filter_cons, ih]

theorem causeKind_of_row {cls code : Nat} {kind : CauseKind} (row : (cls, code, kind) ∈ causeTable) :
    kind = causeKind cls code := by
  have table : ∀ row ∈ causeTable, row.2.2 = causeKind row.1 row.2.1 := by decide
  exact table _ row

/-- R149: at most one cause is held for a fault, and it has the kind of R148. -/
theorem State.CausesKept.causesOf (kept : s.CausesKept) (cls code : Nat) : s.causesOf cls code = [] ∨
    ∃ c, s.causesOf cls code = [c] ∧ c.kind = causeKind cls code := by
  obtain ⟨nodup, listed, -⟩ := kept
  unfold State.causesOf
  generalize s.fault.causes = l at nodup listed ⊢
  induction l with
  | nil => exact .inl rfl
  | cons c rest ih =>
    obtain ⟨row, rows⟩ := List.forall_mem_cons.mp listed
    rw [List.map_cons, List.nodup_cons] at nodup
    by_cases same : c.cls = cls ∧ c.code = code
    · rw [List.filter_cons_of_pos (by simpa using same)]
      have others : rest.filter (fun c => c.cls == cls && c.code == code) = [] := by
        refine List.filter_eq_nil_iff.mpr fun d mem key => nodup.1 ?_
        simp only [Bool.and_eq_true, beq_iff_eq] at key
        exact List.mem_map.mpr ⟨d, mem, Prod.ext (key.1.trans same.1.symm) (key.2.trans same.2.symm)⟩
      rw [others]
      exact .inr ⟨c, rfl, by rw [causeKind_of_row row, same.1, same.2]⟩
    · rw [List.filter_cons_of_neg (by simpa using same)]
      exact ih nodup.2 rows

theorem endingOf_condition (kept : s.CausesKept) (condition : causeKind cls code = .condition) :
    endingOf (s.causesOf cls code) = [] := by
  rcases kept.causesOf cls code with none | ⟨c, one, kind⟩
  · rw [none]; rfl
  · rw [one, endingOf_cons_condition (kind.trans condition)]

theorem endingOf_latched (kept : s.CausesKept) (latched : causeKind cls code = .latched) :
    (endingOf (s.causesOf cls code) = [] ↔ s.causesOf cls code = []) ∧
      ∀ c ∈ endingOf (s.causesOf cls code), c.ended = true := by
  rcases kept.causesOf cls code with none | ⟨c, one, kind⟩
  · rw [none]
    exact ⟨Iff.rfl, by simp [endingOf]⟩
  · rw [one, endingOf_cons_latched (kind.trans latched)]
    exact ⟨by simp, by simp⟩

/-! ## A report's trip -/

theorem reportFault_fault (s : State) (cls code : Nat) (severity : Severity) (detail : Int) :
    (reportFault s cls code severity detail).fault =
      if severity.trips = true then (addCause s cls code).fault else s.fault := by
  unfold reportFault
  have tripped : (tripThread (addCause s cls code)).fault = (addCause s cls code).fault := by simp
  have taken := (takeReport_fault s cls code severity detail).trans (by rw [tripped])
  dsimp only
  split
  · rw [(barSession_frame _).2.2.2.2.2.2.2.2.2, taken]
  · exact taken

theorem causesOf_reportFault_other {other k : Nat} (s : State) (severity : Severity) (detail : Int)
    (apart : (cls, code) ≠ (other, k)) :
    (reportFault s cls code severity detail).causesOf other k = s.causesOf other k := by
  rw [State.causesOf, reportFault_fault]
  split
  · exact causesOf_addCause_other s apart
  · rfl

/-- What trips, changes of the thread's state and wake causes leave of the thread's record: the exchange, the reply
record, the counts of misses and replies, and the marks of grid and stack faults. -/
def State.PortKept (s t : State) : Prop := t.thread = { s.thread with
  state := t.thread.state, stateTimer := t.thread.stateTimer, breakerStep := t.thread.breakerStep,
  lockCount := t.thread.lockCount, recoveryTimer := t.thread.recoveryTimer,
  breakerOpenTimer := t.thread.breakerOpenTimer, restartHold := t.thread.restartHold,
  quietTimer := t.thread.quietTimer }

theorem State.PortKept.refl (s : State) : s.PortKept s := rfl

theorem State.PortKept.trans (st : s.PortKept t) (tu : t.PortKept u) : s.PortKept u := by
  unfold State.PortKept at *
  rw [tu, st]

theorem State.PortKept.of_thread (thread : t.thread = s.thread) : s.PortKept t := by
  unfold State.PortKept
  rw [thread]

theorem setThread_portKept (s : State) (next : ThreadState) : s.PortKept (setThread s next) := by
  unfold State.PortKept
  rw [setThread_eq]

theorem wakeCause_portKept (s : State) : s.PortKept (wakeCause s) := by
  unfold State.PortKept
  rw [wakeCause_footprint]

theorem tripFirst_portKept (s : State) (cls code : Nat) (severity : Severity) :
    s.PortKept (tripFirst s cls code severity) := by
  unfold tripFirst
  split
  case isFalse => exact .refl s
  case isTrue =>
    by_cases tripped : (addCause s cls code).thread.state = .tripped
    · rw [tripThread, if_pos tripped]
      exact .refl s
    · unfold State.PortKept
      rw [tripThread_eq _ tripped]
      rfl

theorem reportFault_portKept {severity : Severity} (s : State) (detail : Int) (notNote : severity ≠ .note)
    (apart : barsSession cls code = false) : s.PortKept (reportFault s cls code severity detail) := by
  rw [reportFault_apart s severity detail apart, takeReport_eq s cls code detail notNote]
  exact (tripFirst_portKept s cls code severity).trans
    ((State.PortKept.of_thread (by rw [offerNotice_footprint]; rfl)).trans (wakeCause_portKept _))

end Sys2Proof.Machine
end

section
/-! Replies of the stack port (R80, R81, R85 to R93). -/
namespace Sys2Proof.Machine
variable {s t u : State} {r : StackReply}

/-! ## When a reply is good -/

theorem State.goodReply_iff (s : State) (r : StackReply) : s.goodReply r = true ↔
    s.thread.exchange.outstanding = true ∧ s.now ≤ s.thread.exchange.begun + Config.replyWait ∧
    r.checkPassed = true ∧ r.number = s.thread.exchange.sent.number := by
  simp [State.goodReply, and_assoc]

theorem stackReply_good (on : s.running = true) (good : s.goodReply r = true) : stackReply s r = takeReply s r :=
  if_pos ⟨on, good⟩

theorem stackReply_bad (bad : s.goodReply r = false) : stackReply s r = s := by
  unfold stackReply
  rw [if_neg (by simp [bad])]

/-! ## The reply taken -/

/-- R81: the port comes back into service with this reply. -/
def State.portBack (s : State) : Bool := s.thread.portOut && decide (25 ≤ s.thread.recoveryCount + 1)

/-- R81, R91 to R93: the thread's record after a good reply, before any trip. -/
def State.replied (s : State) (r : StackReply) : ThreadControl :=
  { s.thread with
    exchange := { s.thread.exchange with outstanding := false },
    reply := some r, validity := .valid, missCount := 0,
    portOut := s.thread.portOut && !s.portBack,
    recoveryCount := if s.thread.portOut && !s.portBack then s.thread.recoveryCount + 1 else 0,
    overvoltageCount := overvoltageAfter s.thread.overvoltageCount r.grid,
    gridTimer := gridTimerAfter s.thread.gridTimer s.now r.grid,
    dcLinkFault := (s.thread.dcLinkFault && !(s.thread.dcLinkFault && decide (r.dcLink ≤ 1100))) ||
      (replyFaults s r).stack4,
    breakerFault := (s.thread.breakerFault && !(s.thread.breakerFault && breakerAgrees s r)) ||
      (replyFaults s r).stack7.isSome }

/-- R81, R91 to R93: the conditions that a good reply ends. -/
def State.replyEnds (s : State) (r : StackReply) : State :=
  endIf (s.thread.breakerFault && breakerAgrees s r) clsStack 7
    (endIf (s.thread.dcLinkFault && decide (r.dcLink ≤ 1100)) clsStack 4
      (endIf (lineEnd (·.desaturation) s.thread.reply r) clsStack 2
        (endIf (lineEnd (·.overcurrent) s.thread.reply r) clsStack 1
          (endIf s.portBack clsStack 3 { s with thread := s.replied r }))))

/-- R91 to R93: the trips that a good reply shows. -/
def ReplyFaults.report (f : ReplyFaults) (r : StackReply) (s : State) : State :=
  reportIf f.stack7.isSome clsStack 7 (f.stack7.getD 0)
    (reportIf f.stack2 clsStack 2 0
      (reportIf f.stack1 clsStack 1
        (isqrt (r.active.natAbs * r.active.natAbs + r.reactive.natAbs * r.reactive.natAbs))
        (reportIf f.stack4 clsStack 4 r.dcLink (reportIf f.grid2 clsGrid 2 r.grid s))))

@[simp] theorem endIf_false (cls code : Nat) (s : State) : endIf false cls code s = s := rfl

@[simp] theorem endIf_true (cls code : Nat) (s : State) : endIf true cls code s = endCondition s cls code := rfl

theorem endIf_thread (c : Bool) (cls code : Nat) (s : State) : endIf c cls code s =
    { s with fault := (endIf c cls code s).fault } := by
  unfold endIf
  split <;> rfl

theorem judgeReplyFaults_eq (s : State) (r : StackReply) :
    judgeReplyFaults s r (recordReply s r) = (replyFaults s r).report r (s.replyEnds r) := by
  unfold judgeReplyFaults recordReply State.replyEnds ReplyFaults.report State.replied State.portBack
  dsimp only
  cases s.thread.portOut && decide (25 ≤ s.thread.recoveryCount + 1) <;> rfl

theorem takeReply_eq (s : State) (r : StackReply) : takeReply s r =
    if (replyFaults s r).any then (replyFaults s r).report r (s.replyEnds r)
    else replyTransition ((replyFaults s r).report r (s.replyEnds r)) r := by
  unfold takeReply
  dsimp only
  rw [judgeReplyFaults_eq]

theorem replyEnds_eq (s : State) (r : StackReply) :
    s.replyEnds r = { s with thread := s.replied r, fault := (s.replyEnds r).fault } := by
  unfold State.replyEnds
  rw [endIf_thread, endIf_thread, endIf_thread, endIf_thread, endIf_thread]

theorem report_none {f : ReplyFaults} (none : f.any = false) (r : StackReply) (s : State) : f.report r s = s := by
  simp only [ReplyFaults.any, Bool.or_eq_false_iff] at none
  obtain ⟨⟨⟨⟨grid2, stack4⟩, stack1⟩, stack2⟩, stack7⟩ := none
  simp [ReplyFaults.report, reportIf, grid2, stack4, stack1, stack2, stack7]

theorem takeReply_calm (none : (replyFaults s r).any = false) :
    takeReply s r = replyTransition (s.replyEnds r) r := by
  rw [takeReply_eq, report_none none, if_neg (by simp [none])]

/-! ## What the reply leaves of the thread's record -/

theorem report_portKept (f : ReplyFaults) (r : StackReply) (s : State) : s.PortKept (f.report r s) := by
  have one {cls code : Nat} (c : Bool) (detail : Int) (apart : barsSession cls code = false) (s : State) :
      s.PortKept (reportIf c cls code detail s) := by
    unfold reportIf
    split
    · exact reportFault_portKept s detail (by simp) apart
    · exact .refl s
  exact ((((one _ _ (by decide) s).trans (one _ _ (by decide) _)).trans (one _ _ (by decide) _)).trans
    (one _ _ (by decide) _)).trans (one _ _ (by decide) _)

theorem replyTransition_portKept (s : State) (r : StackReply) : s.PortKept (replyTransition s r) := by
  unfold replyTransition
  split
  · split
    · split <;> exact rfl
    · split
      · exact (setThread_portKept s .sync).trans rfl
      · exact .refl s
  · split
    · dsimp only
      split
      · exact State.PortKept.trans (t := { s with thread := { s.thread with lockCount := s.thread.lockCount + 1 } }) rfl
          ((setThread_portKept _ .run).trans rfl)
      · exact rfl
    · exact rfl
  · split
    · exact (setThread_portKept s .rideThrough).trans rfl
    · exact .refl s
  · exact rfl
  all_goals exact .refl s

/-- R81, R91 to R93: the thread's record after a good reply, but for what trips and transitions touch. -/
theorem takeReply_thread (s : State) (r : StackReply) : (takeReply s r).thread = { s.replied r with
    state := (takeReply s r).thread.state, stateTimer := (takeReply s r).thread.stateTimer,
    breakerStep := (takeReply s r).thread.breakerStep, lockCount := (takeReply s r).thread.lockCount,
    recoveryTimer := (takeReply s r).thread.recoveryTimer,
    breakerOpenTimer := (takeReply s r).thread.breakerOpenTimer,
    restartHold := (takeReply s r).thread.restartHold, quietTimer := (takeReply s r).thread.quietTimer } := by
  have kept : (s.replyEnds r).PortKept (takeReply s r) := by
    rw [takeReply_eq]
    split
    · exact report_portKept ..
    · exact (report_portKept ..).trans (replyTransition_portKept ..)
  have thread : (s.replyEnds r).thread = s.replied r := by rw [replyEnds_eq]
  unfold State.PortKept at kept
  rwa [thread] at kept

/-! ## What the reply leaves of the causes -/

theorem causesOf_endIf_other {cls code other k : Nat} (c : Bool) (s : State) (apart : (cls, code) ≠ (other, k)) :
    (endIf c cls code s).causesOf other k = s.causesOf other k := by
  unfold endIf
  split
  · exact causesOf_endCondition_other s apart
  · rfl

theorem causesOf_reportIf_other {cls code other k : Nat} (c : Bool) (detail : Int) (s : State)
    (apart : (cls, code) ≠ (other, k)) : (reportIf c cls code detail s).causesOf other k = s.causesOf other k := by
  unfold reportIf
  split
  · exact causesOf_reportFault_other s .tripThread detail apart
  · rfl

theorem reportIf_false {cls code : Nat} (detail : Int) (s : State) : reportIf false cls code detail s = s := rfl

theorem replyTransition_fault (s : State) (r : StackReply) : (replyTransition s r).fault = s.fault := by
  unfold replyTransition
  dsimp only
  (repeat' split) <;> simp

/-- A fault that the reply does not report is held as the ends of its conditions leave it. -/
theorem causesOf_takeReply {cls code : Nat} (grid2 : (replyFaults s r).grid2 = false ∨ (clsGrid, 2) ≠ (cls, code))
    (stack4 : (replyFaults s r).stack4 = false ∨ (clsStack, 4) ≠ (cls, code))
    (stack1 : (replyFaults s r).stack1 = false ∨ (clsStack, 1) ≠ (cls, code))
    (stack2 : (replyFaults s r).stack2 = false ∨ (clsStack, 2) ≠ (cls, code))
    (stack7 : (replyFaults s r).stack7 = none ∨ (clsStack, 7) ≠ (cls, code)) :
    (takeReply s r).causesOf cls code = (s.replyEnds r).causesOf cls code := by
  have one {cls' code' : Nat} {c : Bool} {detail : Int} (s : State) (other : c = false ∨ (cls', code') ≠ (cls, code)) :
      (reportIf c cls' code' detail s).causesOf cls code = s.causesOf cls code := by
    rcases other with none | apart
    · rw [none]; rfl
    · exact causesOf_reportIf_other c detail s apart
  have reported : ((replyFaults s r).report r (s.replyEnds r)).causesOf cls code =
      (s.replyEnds r).causesOf cls code := by
    unfold ReplyFaults.report
    rw [one _ (stack7.imp_left fun none => by rw [none]; rfl), one _ stack2, one _ stack1, one _ stack4, one _ grid2]
  rw [takeReply_eq]
  split
  · exact reported
  · rw [causesOf_congr (replyTransition_fault ..), reported]

/-! ## Misses -/

theorem stackReplyTimeout_due (on : s.running = true) (waiting : s.thread.exchange.outstanding = true)
    (due : s.thread.exchange.begun + Config.replyWait ≤ s.now) : stackReplyTimeout s = missReply s :=
  if_pos ⟨on, waiting, due⟩

theorem missReply_third_rests (third : s.thread.missCount + 1 = 3) (inService : s.thread.portOut = false)
    (rests : s.thread.state.quietable = true) : missReply s =
      reportFault { s with thread := { s.thread.afterMiss with portOut := true } } clsStack 3 .warn 3 := by
  rw [missReply_third third inService, if_pos ((ThreadState.quietable_iff _).mp rests)]

theorem missReply_third_works (third : s.thread.missCount + 1 = 3) (inService : s.thread.portOut = false)
    (works : s.thread.state.quietable = false) : missReply s =
      reportFault { s with thread := { s.thread.afterMiss with portOut := true } } clsStack 3 .tripThread 3 := by
  rw [missReply_third third inService, if_neg]
  intro rests
  rw [(ThreadState.quietable_iff _).mpr rests] at works
  cases works

/-- R81: the thread's record after the third miss in service. -/
theorem missReply_third_portKept (third : s.thread.missCount + 1 = 3) (inService : s.thread.portOut = false) :
    State.PortKept { s with thread := { s.thread.afterMiss with portOut := true } } (missReply s) := by
  rw [missReply_third third inService]
  exact reportFault_portKept _ _ (by split <;> simp) (by decide)

theorem ThreadControl.afterMiss_early {c : ThreadControl} (early : c.missCount + 1 ≤ 2) : c.afterMiss = { c with
    exchange := { c.exchange with outstanding := false }, missCount := c.missCount + 1,
    validity := if c.validity = .absent then .absent else .held, recoveryCount := 0 } := by
  have count : countHeld 255 c.missCount = c.missCount + 1 := Nat.min_eq_right (by omega)
  simp [ThreadControl.afterMiss, count, early]

theorem ThreadControl.afterMiss_late {c : ThreadControl} (late : 3 ≤ c.missCount + 1) : c.afterMiss = { c with
    exchange := { c.exchange with outstanding := false }, missCount := min 255 (c.missCount + 1),
    validity := if c.validity = .absent then .absent else .expired, recoveryCount := 0,
    recoveryTimer := none, gridTimer := none } := by
  have count : ¬countHeld 255 c.missCount ≤ 2 := by
    unfold countHeld
    omega
  simp [ThreadControl.afterMiss, count]
  rfl

theorem missReply_third_record (third : s.thread.missCount + 1 = 3) (inService : s.thread.portOut = false) :
    (missReply s).thread.exchange = { s.thread.exchange with outstanding := false } ∧
    (missReply s).thread.validity = (if s.thread.validity = .absent then .absent else .expired) ∧
    (missReply s).thread.missCount = 3 ∧ (missReply s).thread.portOut = true ∧
    (missReply s).thread.recoveryCount = 0 ∧ (missReply s).thread.gridTimer = none := by
  have kept := missReply_third_portKept third inService
  unfold State.PortKept at kept
  rw [kept, ThreadControl.afterMiss_late (by omega)]
  exact ⟨rfl, rfl, by simp [third], rfl, rfl, rfl⟩

theorem missReply_third_recoveryTimer (third : s.thread.missCount + 1 = 3) (inService : s.thread.portOut = false)
    (can : s.CanReport) : (missReply s).thread.recoveryTimer = none := by
  have before : s.thread.afterMiss.recoveryTimer = none := by rw [ThreadControl.afterMiss_late (by omega)]
  cases rests : s.thread.state.quietable with
  | true =>
    rw [missReply_third_rests third inService rests, reportWarn_footprint]
    exact before
  | false =>
    have fresh : s.thread.state ≠ .tripped := fun tripped => by simp [tripped, ThreadState.quietable] at rests
    have awake : s.quiet.state ≠ .quiet := by simp [can.2.2]
    rw [missReply_third_works third inService rests, reportTrip_awake _ _ rfl (by decide) (by exact awake),
      tripThread_eq (addCause _ _ _) (by exact fresh)]

theorem missReply_third_kept (third : s.thread.missCount + 1 = 3) (inService : s.thread.portOut = false)
    (rests : s.thread.state.quietable = true) :
    (missReply s).thread.state = s.thread.state ∧ (missReply s).fault = s.fault := by
  rw [missReply_third_rests third inService rests, reportWarn_footprint]
  exact ⟨rfl, rfl⟩

theorem missReply_third_logged (third : s.thread.missCount + 1 = 3) (inService : s.thread.portOut = false)
    (rests : s.thread.state.quietable = true) (below : s.log.newest < Config.lastSequence)
    (room : s.link.queue.length < Config.queueSlots) :
    s.Logged (missReply s) s.own clsStack 3 1 1 (some 3) none := by
  rw [missReply_third_rests third inService rests, reportWarn_eq]
  exact takeReport_logged (severity := .warn)
    { s with thread := { s.thread.afterMiss with portOut := true } } clsStack 3 3
    (by simp) below room

theorem missReply_third_noticed (third : s.thread.missCount + 1 = 3) (inService : s.thread.portOut = false)
    (rests : s.thread.state.quietable = true) (takes : s.takesOffers = true)
    (room : s.link.queue.length < Config.queueSlots) : s.Noticed (missReply s) clsStack 3 1 1 3 := by
  rw [missReply_third_rests third inService rests, reportWarn_eq]
  exact takeReport_noticed (severity := .warn)
    { s with thread := { s.thread.afterMiss with portOut := true } } clsStack 3 3
    (by simp) takes room

/-- Settles O20: a good reply by the record it leaves, a miss by whether it is the third in service. -/
theorem repliesAndMisses : Obligations.RepliesAndMisses := by
  refine ⟨fun s r on => ⟨fun bad => congrArg Host.Outcome.next (stackReply_bad ?bad), fun waiting check number within =>
    ⟨takeReply s r, congrArg Host.Outcome.next (stackReply_good on
      ((State.goodReply_iff s r).mpr ⟨waiting, within, check, number⟩)), ?good⟩⟩, fun s on waiting due => ?miss⟩
  case bad =>
    rw [Bool.eq_false_iff]
    intro good
    obtain ⟨waiting, within, check, number⟩ := (State.goodReply_iff s r).mp good
    rcases bad with none | none | other | late
    · rw [waiting] at none; cases none
    · rw [check] at none; cases none
    · exact other number
    · omega
  case good =>
    have thread := takeReply_thread s r
    refine ⟨by rw [thread]; rfl, by rw [thread]; rfl, by rw [thread]; rfl, by rw [thread]; rfl, fun inService => ?_,
      fun out early => ?_, fun out back => ?_, ?_⟩
    · rw [thread]
      simp [State.replied, inService]
    · have early : ¬24 ≤ s.thread.recoveryCount := by omega
      rw [thread]
      simp [State.replied, State.portBack, out, early]
    · have back : s.portBack = true := by simp [State.portBack, out, back]
      refine ⟨by rw [thread]; simp [State.replied, back], by rw [thread]; simp [State.replied, back], fun kept => ?_⟩
      refine not_holdsCause_of ?_
      rw [causesOf_takeReply (.inr (by decide)) (.inr (by decide)) (.inr (by decide)) (.inr (by decide))
        (.inr (by decide)), State.replyEnds, causesOf_endIf_other _ _ (by decide), causesOf_endIf_other _ _ (by decide),
        causesOf_endIf_other _ _ (by decide), causesOf_endIf_other _ _ (by decide), back, endIf_true,
        causesOf_endCondition]
      exact endingOf_condition (s := s) kept (by decide)
    · have framed := (stackReply_moves (may := (· = Part.reply)) (.refl s) r rfl).framed
      rw [stackReply_good on ((State.goodReply_iff s r).mpr ⟨waiting, within, check, number⟩)] at framed
      exact ⟨framed.cooling (by simp) (by simp), framed.wind (by simp) (by simp)⟩
  case miss =>
    rw [show exec .stackReplyTimeout s = .next (missReply s) from
      congrArg Host.Outcome.next (stackReplyTimeout_due on waiting due)]
    refine ⟨fun early => ?_, fun third inService takes can => ?_, fun third inService => ?_, fun silent => ?_⟩
    · rw [missReply_silent (.inl (by omega)), ThreadControl.afterMiss_early early]
    · obtain ⟨exchange, validity, missCount, portOut, recoveryCount, gridTimer⟩ :=
        missReply_third_record third inService
      refine ⟨_, rfl, portOut, missCount, recoveryCount, missReply_third_recoveryTimer third inService can, gridTimer,
        exchange, validity, fun works => ?_, fun rests => ?_⟩
      · rw [missReply_third_works third inService works]
        exact reportFault_tripThread (s := { s with thread := { s.thread.afterMiss with portOut := true } }) clsStack 3
          3
          can takes (by decide) (by decide)
      · obtain ⟨state, fault⟩ := missReply_third_kept third inService rests
        exact ⟨state, fault, missReply_third_logged third inService rests can.1 can.2.1⟩
    · obtain ⟨-, -, missCount, portOut, -, -⟩ := missReply_third_record third inService
      refine ⟨_, rfl, ?_, portOut, missCount, missReply_third_kept third inService, fun rests takes below room => ?_⟩
      · rw [missReply_third third inService, reportFault_apart _ _ _ (by decide)]
        exact (takeReport_wakes_taken _ _ _ _ (by split <;> simp)).congr rfl rfl rfl rfl
      · exact ⟨missReply_third_logged third inService rests below room,
          missReply_third_noticed third inService rests takes room⟩
    · rw [missReply_silent (silent.imp (by omega) (·.2)), ThreadControl.afterMiss_late (by omega)]

end Sys2Proof.Machine
end

section
/-! The transitions a good reply makes, and the faults it shows (R85 to R93). -/
namespace Sys2Proof.Machine
variable {s t u : State} {r : StackReply}

/-! ## The transition of each state -/

theorem replyTransition_waitCharge (state : u.thread.state = .precharge) (step : u.thread.breakerStep = .waitCharge) :
    replyTransition u r = if r.contactorClosed = true ∧ 850 ≤ r.dcLink then
      { u with thread := { u.thread with breakerStep := .waitBreaker } } else u := by
  unfold replyTransition
  rw [state, step]

theorem replyTransition_waitBreaker (state : u.thread.state = .precharge) (step : u.thread.breakerStep = .waitBreaker)
    (open_ : r.breakerClosed = false) : replyTransition u r = u := by
  unfold replyTransition
  rw [state, step]
  exact if_neg (by simp [open_])

theorem replyTransition_synchronise (state : u.thread.state = .precharge)
    (step : u.thread.breakerStep = .waitBreaker) (closed : r.breakerClosed = true) :
    (replyTransition u r).thread = { u.thread with state := .sync, stateTimer := some u.now, lockCount := 0 } ∧
    (replyTransition u r).table.changePending = true := by
  unfold replyTransition
  rw [state, step]
  simp [closed, setThread, state, markChange]

theorem replyTransition_locking (state : u.thread.state = .sync) (locked : r.locked = true)
    (early : u.thread.lockCount + 1 < 25) :
    replyTransition u r = { u with thread := { u.thread with lockCount := u.thread.lockCount + 1 } } := by
  unfold replyTransition
  rw [state]
  dsimp only
  rw [if_pos locked, if_neg (Nat.not_le.mpr early)]

theorem replyTransition_locked (state : u.thread.state = .sync) (locked : r.locked = true)
    (enough : 25 ≤ u.thread.lockCount + 1) :
    (replyTransition u r).thread =
      { u.thread with state := .run, stateTimer := none, lockCount := u.thread.lockCount + 1 } ∧
    (replyTransition u r).allotment = u.allotment := by
  unfold replyTransition
  rw [state]
  dsimp only
  rw [if_pos locked, if_pos enough, setThread_eq]
  exact ⟨rfl, rfl⟩

theorem replyTransition_unlocked (state : u.thread.state = .sync) (unlocked : r.locked = false) :
    replyTransition u r = { u with thread := { u.thread with lockCount := 0 } } := by
  unfold replyTransition
  rw [state]
  exact if_neg (by simp [unlocked])

theorem replyTransition_runs (state : u.thread.state = .run) (healthy : 850 ≤ r.grid) : replyTransition u r = u := by
  unfold replyTransition
  rw [state]
  exact if_neg (Nat.not_lt.mpr healthy)

theorem replyTransition_dips (state : u.thread.state = .run) (low : r.grid < 850) :
    (replyTransition u r).thread =
      { u.thread with state := .rideThrough, stateTimer := some u.now, recoveryTimer := none } ∧
    (replyTransition u r).log = u.log.enter u.now u.own clsGrid 3 0 1 (some r.grid) none := by
  unfold replyTransition
  rw [state]
  dsimp only
  rw [if_pos low, setThread_eq]
  exact ⟨rfl, rfl⟩

theorem replyTransition_rides (state : u.thread.state = .rideThrough) : replyTransition u r =
    { u with thread := { u.thread with recoveryTimer :=
        if r.grid < 900 then none else if u.thread.recoveryTimer.isSome then u.thread.recoveryTimer else some u.now }
          } := by
  unfold replyTransition
  rw [state]

theorem replyTransition_stays (state : u.thread.state = .stopping ∨ u.thread.state = .off ∨ u.thread.state = .tripped) :
    replyTransition u r = u := by
  unfold replyTransition
  rcases state with state | state | state <;> rw [state]

/-! ## The faults a reply shows -/

theorem lineOnset_false {line : StackReply → Bool} (clear : line r = false) (previous : Option StackReply) :
    lineOnset line previous r = false := by
  simp [lineOnset, clear]

theorem replyFaults_stack7_none (none : breakerMismatch s r = none ∨ s.thread.breakerFault = true) :
    (replyFaults s r).stack7 = Option.none := by
  rcases none with none | held
  · simp [replyFaults, none]
  · simp [replyFaults, held]

theorem replyFaults_grid2_false (low : r.grid ≤ 1200) : (replyFaults s r).grid2 = false := by
  simp [replyFaults, low]

theorem replyFaults_stack4_false (low : r.dcLink ≤ 1100) : (replyFaults s r).stack4 = false := by
  have : r.dcLink ≤ 1150 := by omega
  simp [replyFaults, this]

theorem replyFaults_calm (calm : r.Calm) (none : breakerMismatch s r = none ∨ s.thread.breakerFault = true) :
    (replyFaults s r).any = false := by
  obtain ⟨overcurrent, desaturation, dcLink, grid⟩ := calm
  unfold ReplyFaults.any
  rw [replyFaults_grid2_false grid, replyFaults_stack4_false dcLink, replyFaults_stack7_none none]
  simp [replyFaults, lineOnset_false (line := (·.overcurrent)) overcurrent,
    lineOnset_false (line := (·.desaturation)) desaturation]

/-- Settles O21: the transition of the state the reply finds, its record changed by R81 and R91 to R93 only. -/
theorem repliesMoveTheThread : Obligations.RepliesMoveTheThread := by
  intro s r on good calm none
  have eq : stackReply s r = replyTransition (s.replyEnds r) r :=
    (stackReply_good on good).trans (takeReply_calm (replyFaults_calm calm none))
  rw [replyEnds_eq] at eq
  generalize (s.replyEnds r).fault = fault at eq
  refine ⟨_, congrArg Host.Outcome.next eq, fun state step closed charged => ?_, fun state step waits => ?_,
    fun state step waits => ?_, fun state step closed => ?_, fun state locked early => ?_,
      fun state locked enough => ?_,
    fun state unlocked => ?_, fun state healthy => ?_, fun state low below => ?_, fun state => ?_, fun state => ?_⟩
  · rw [replyTransition_waitCharge (by exact state) (by exact step), if_pos ⟨closed, charged⟩]
    exact ⟨state, rfl⟩
  · rw [replyTransition_waitCharge (by exact state) (by exact step), if_neg]
    · exact ⟨state, step⟩
    · rintro ⟨closed, charged⟩
      rcases waits with open_ | low
      · rw [closed] at open_; cases open_
      · omega
  · rw [replyTransition_waitBreaker (by exact state) (by exact step) waits]
    exact ⟨state, step, rfl⟩
  · obtain ⟨thread, pending⟩ := replyTransition_synchronise (r := r)
      (u := { s with thread := s.replied r, fault := fault }) state step closed
    rw [thread]
    exact ⟨rfl, rfl, rfl, pending⟩
  · rw [replyTransition_locking (by exact state) locked (by exact early)]
    exact ⟨state, rfl⟩
  · obtain ⟨thread, allotment⟩ := replyTransition_locked (r := r)
      (u := { s with thread := s.replied r, fault := fault }) state locked enough
    rw [thread]
    exact ⟨rfl, rfl, allotment⟩
  · rw [replyTransition_unlocked (by exact state) unlocked]
    exact ⟨state, rfl⟩
  · rw [replyTransition_runs (by exact state) healthy]
    exact state
  · obtain ⟨thread, log⟩ := replyTransition_dips (r := r)
      (u := { s with thread := s.replied r, fault := fault }) state low
    rw [thread]
    exact ⟨rfl, rfl, rfl, logged_of_log below log⟩
  · rw [replyTransition_rides (by exact state)]
    exact ⟨state, rfl⟩
  · rw [replyTransition_stays (by exact state)]
    exact ⟨rfl, rfl, rfl, rfl⟩

end Sys2Proof.Machine
end

section
/-! The trips a good reply shows, and the conditions it ends (R91 to R93). -/
namespace Sys2Proof.Machine
variable {s t u : State} {r : StackReply}

/-! ## The one fault shown -/

theorem takeReply_report (shows : (replyFaults s r).any = true) :
    takeReply s r = (replyFaults s r).report r (s.replyEnds r) := by
  rw [takeReply_eq, if_pos shows]

/-- A trip reported at the state the reply leaves is a trip of the state it found. -/
theorem reportFault_replyEnds (cls code : Nat) (detail : Int) (takes : s.takesOffers = true) (can : s.CanReport)
    (apart : barsSession cls code = false) (link : ¬(cls = clsLink ∧ code = 1)) :
    s.Tripped (reportFault (s.replyEnds r) cls code .tripThread detail) cls code detail := by
  rw [replyEnds_eq]
  exact reportFault_tripThread { s with thread := s.replied r, fault := (s.replyEnds r).fault } cls code
    detail can takes
    apart link

theorem replyFaults_stack1 (r : StackReply) : (replyFaults s r).stack1 = lineOnset
    (·.overcurrent) s.thread.reply r := rfl

theorem replyFaults_stack2 (r : StackReply) : (replyFaults s r).stack2 = lineOnset
    (·.desaturation) s.thread.reply r := rfl

theorem lineOnset_of {line : StackReply → Bool} {previous : Option StackReply} (active : line r = true)
    (before : ∀ o, previous = some o → line o = false) : lineOnset line previous r = true := by
  unfold lineOnset
  cases previous with
  | none => simp [active]
  | some o => simp [active, before o rfl]

theorem lineEnd_of {line : StackReply → Bool} {previous : Option StackReply} (clear : line r = false)
    (before : ∃ o, previous = some o ∧ line o = true) : lineEnd line previous r = true := by
  obtain ⟨o, rfl, active⟩ := before
  simp [lineEnd, clear, active]

theorem takeReply_stack1 (onset : (replyFaults s r).stack1 = true)
    (calm : StackReply.Calm { r with overcurrent := false })
    (none : breakerMismatch s r = none) : takeReply s r = reportFault (s.replyEnds r) clsStack 1 .tripThread
      (isqrt (r.active.natAbs * r.active.natAbs + r.reactive.natAbs * r.reactive.natAbs)) := by
  obtain ⟨-, desaturation, dcLink, grid⟩ := calm
  have stack2 : (replyFaults s r).stack2 = false := lineOnset_false (line := (·.desaturation)) desaturation _
  rw [takeReply_report (by simp [ReplyFaults.any, onset]), ReplyFaults.report, onset, stack2,
    replyFaults_grid2_false (r := r) grid, replyFaults_stack4_false (r := r) dcLink,
      replyFaults_stack7_none (.inl none)]
  rfl

theorem takeReply_stack2 (onset : (replyFaults s r).stack2 = true)
    (calm : StackReply.Calm { r with desaturation := false })
    (none : breakerMismatch s r = none) :
    takeReply s r = reportFault (s.replyEnds r) clsStack 2 .tripThread 0 := by
  obtain ⟨overcurrent, -, dcLink, grid⟩ := calm
  have stack1 : (replyFaults s r).stack1 = false := lineOnset_false (line := (·.overcurrent)) overcurrent _
  rw [takeReply_report (by simp [ReplyFaults.any, onset]), ReplyFaults.report, onset, stack1,
    replyFaults_grid2_false (r := r) grid, replyFaults_stack4_false (r := r) dcLink,
      replyFaults_stack7_none (.inl none)]
  rfl

theorem takeReply_stack4 (shown : (replyFaults s r).stack4 = true) (calm : StackReply.Calm { r with dcLink := 0 })
    (none : breakerMismatch s r = none) :
    takeReply s r = reportFault (s.replyEnds r) clsStack 4 .tripThread r.dcLink := by
  obtain ⟨overcurrent, desaturation, -, grid⟩ := calm
  have stack1 : (replyFaults s r).stack1 = false := lineOnset_false (line := (·.overcurrent)) overcurrent _
  have stack2 : (replyFaults s r).stack2 = false := lineOnset_false (line := (·.desaturation)) desaturation _
  rw [takeReply_report (by simp [ReplyFaults.any, shown]), ReplyFaults.report, shown, stack1, stack2,
    replyFaults_grid2_false (r := r) grid, replyFaults_stack7_none (.inl none)]
  rfl

theorem takeReply_grid2 (shown : (replyFaults s r).grid2 = true) (calm : StackReply.Calm { r with grid := 0 })
    (none : breakerMismatch s r = none) :
    takeReply s r = reportFault (s.replyEnds r) clsGrid 2 .tripThread r.grid := by
  obtain ⟨overcurrent, desaturation, dcLink, -⟩ := calm
  have stack1 : (replyFaults s r).stack1 = false := lineOnset_false (line := (·.overcurrent)) overcurrent _
  have stack2 : (replyFaults s r).stack2 = false := lineOnset_false (line := (·.desaturation)) desaturation _
  rw [takeReply_report (by simp [ReplyFaults.any, shown]), ReplyFaults.report, shown, stack1, stack2,
    replyFaults_stack4_false (r := r) dcLink, replyFaults_stack7_none (.inl none)]
  rfl

theorem takeReply_stack7 {detail : Int} (shown : (replyFaults s r).stack7 = some detail) (calm : r.Calm) :
    takeReply s r = reportFault (s.replyEnds r) clsStack 7 .tripThread detail := by
  obtain ⟨overcurrent, desaturation, dcLink, grid⟩ := calm
  have stack1 : (replyFaults s r).stack1 = false := lineOnset_false (line := (·.overcurrent)) overcurrent _
  have stack2 : (replyFaults s r).stack2 = false := lineOnset_false (line := (·.desaturation)) desaturation _
  rw [takeReply_report (by simp [ReplyFaults.any, shown]), ReplyFaults.report, shown, stack1, stack2,
    replyFaults_grid2_false (r := r) grid, replyFaults_stack4_false (r := r) dcLink]
  rfl

theorem breakerHeldClosed_of_gates {state : ThreadState} (gates : state.gates = true) :
    state.breakerHeldClosed = true := by
  cases state <;> first | rfl | cases gates

theorem ThreadState.breakerHeldOpen_eq (state : ThreadState) : state.breakerHeldOpen = state.quietable := by
  cases state <;> rfl

theorem breakerMismatch_open (gates : s.thread.state.gates = true) (open_ : r.breakerClosed = false) :
    breakerMismatch s r = some 1 :=
  if_pos ⟨breakerHeldClosed_of_gates gates, open_⟩

theorem breakerMismatch_closed {t0 : Nat} (rests : s.thread.state.quietable = true) (closed : r.breakerClosed = true)
    (timer : s.thread.breakerOpenTimer = some t0) (late : t0 + Config.breakerTime < s.now) :
    breakerMismatch s r = some 2 := by
  unfold breakerMismatch
  rw [if_neg (by simp [closed]), if_pos]
  refine ⟨(ThreadState.breakerHeldOpen_eq _).trans rests, closed, by rw [timer]; rfl, ?_⟩
  rw [timer]
  change Config.breakerTime < s.now - t0
  omega

/-! ## The marks and the causes a reply leaves -/

theorem takeReply_marks (s : State) (r : StackReply) :
    (takeReply s r).thread.overvoltageCount = overvoltageAfter s.thread.overvoltageCount r.grid ∧
    (takeReply s r).thread.gridTimer = gridTimerAfter s.thread.gridTimer s.now r.grid ∧
    (takeReply s r).thread.dcLinkFault = ((s.thread.dcLinkFault && !decide (r.dcLink ≤ 1100)) ||
      (replyFaults s r).stack4) ∧
    (takeReply s r).thread.breakerFault = ((s.thread.breakerFault && !breakerAgrees s r) ||
      (replyFaults s r).stack7.isSome) := by
  rw [takeReply_thread]
  refine ⟨rfl, rfl, ?_, ?_⟩
  · simp only [State.replied]
    cases s.thread.dcLinkFault <;> simp
  · simp only [State.replied]
    cases s.thread.breakerFault <;> simp

theorem causesOf_endIf (c : Bool) (s : State) (cls code : Nat) : (endIf c cls code s).causesOf cls code =
    if c = true then endingOf (s.causesOf cls code) else s.causesOf cls code := by
  unfold endIf
  split
  · exact causesOf_endCondition ..
  · rfl

theorem causesOf_replyEnds (s : State) (r : StackReply) :
    (s.replyEnds r).causesOf clsStack 1 =
      (if lineEnd (·.overcurrent) s.thread.reply r = true then endingOf (s.causesOf clsStack 1)
       else s.causesOf clsStack 1) ∧
    (s.replyEnds r).causesOf clsStack 2 =
      (if lineEnd (·.desaturation) s.thread.reply r = true then endingOf (s.causesOf clsStack 2)
       else s.causesOf clsStack 2) ∧
    (s.replyEnds r).causesOf clsStack 4 =
      (if (s.thread.dcLinkFault && decide (r.dcLink ≤ 1100)) = true then endingOf (s.causesOf clsStack 4)
       else s.causesOf clsStack 4) ∧
    (s.replyEnds r).causesOf clsStack 7 =
      (if (s.thread.breakerFault && breakerAgrees s r) = true then endingOf (s.causesOf clsStack 7)
       else s.causesOf clsStack 7) := by
  have start (cls code : Nat) : ({ s with thread := s.replied r } : State).causesOf cls code = s.causesOf cls code :=
    rfl
  unfold State.replyEnds
  refine ⟨?_, ?_, ?_, ?_⟩
  · rw [causesOf_endIf_other _ _ (by decide), causesOf_endIf_other _ _ (by decide),
      causesOf_endIf_other _ _ (by decide),
      causesOf_endIf, causesOf_endIf_other _ _ (by decide), start]
  · rw [causesOf_endIf_other _ _ (by decide), causesOf_endIf_other _ _ (by decide), causesOf_endIf,
      causesOf_endIf_other _ _ (by decide), causesOf_endIf_other _ _ (by decide), start]
  · rw [causesOf_endIf_other _ _ (by decide), causesOf_endIf, causesOf_endIf_other _ _ (by decide),
      causesOf_endIf_other _ _ (by decide), causesOf_endIf_other _ _ (by decide), start]
  · rw [causesOf_endIf, causesOf_endIf_other _ _ (by decide), causesOf_endIf_other _ _ (by decide),
      causesOf_endIf_other _ _ (by decide), causesOf_endIf_other _ _ (by decide), start]

theorem breakerAgrees_iff (s : State) (r : StackReply) : breakerAgrees s r = true ↔
    ((s.thread.state.gates = true ∨ s.thread.state = .sync) ∧ r.breakerClosed = true) ∨
      (s.thread.state.quietable = true ∧ r.breakerClosed = false) := by
  unfold breakerAgrees
  cases s.thread.state <;>
    simp [ThreadState.breakerHeldClosed, ThreadState.breakerHeldOpen, ThreadState.gates, ThreadState.quietable]

/-- Settles O22: the one fault shown is reported at the state the reply leaves; what it ends, by each fault's causes. -/
theorem replyFaultsTrip : Obligations.ReplyFaultsTrip := by
  refine ⟨fun s r on good takes can => ?_, fun s r on good => ?_⟩
  · rw [show exec (.stackReply r) s = .next (takeReply s r) from congrArg Host.Outcome.next (stackReply_good on good)]
    obtain ⟨overvoltage, -, dcLinkMark, breakerMark⟩ := takeReply_marks s r
    refine ⟨fun active before calm none => ⟨_, rfl, ?_⟩, fun active before calm none => ⟨_, rfl, ?_⟩,
      fun high unmarked calm none => ⟨_, rfl, ?_⟩, fun high first calm none => ⟨_, rfl, ?_⟩,
      fun calm unmarked gates open_ => ⟨_, rfl, ?_⟩, fun calm unmarked rests closed late => ⟨_, rfl, ?_⟩⟩
    · rw [takeReply_stack1 (lineOnset_of (line := (·.overcurrent)) active before) calm none]
      exact reportFault_replyEnds _ _ _ takes can (by decide) (by decide)
    · rw [takeReply_stack2 (lineOnset_of (line := (·.desaturation)) active before) calm none]
      exact reportFault_replyEnds _ _ _ takes can (by decide) (by decide)
    · have shown : (replyFaults s r).stack4 = true := by simp [replyFaults, unmarked, high]
      refine ⟨?_, by rw [dcLinkMark, shown, Bool.or_true]⟩
      rw [takeReply_stack4 shown calm none]
      exact reportFault_replyEnds _ _ _ takes can (by decide) (by decide)
    · have shown : (replyFaults s r).grid2 = true := by simp [replyFaults, first, high]
      refine ⟨?_, by rw [overvoltage, first, overvoltageAfter, if_pos high]; rfl⟩
      rw [takeReply_grid2 shown calm none]
      exact reportFault_replyEnds _ _ _ takes can (by decide) (by decide)
    · have shown : (replyFaults s r).stack7 = some 1 := by
        simp [replyFaults, unmarked, breakerMismatch_open gates open_]
      refine ⟨?_, by rw [breakerMark, shown]; simp⟩
      rw [takeReply_stack7 shown calm]
      exact reportFault_replyEnds _ _ _ takes can (by decide) (by decide)
    · obtain ⟨t0, timer, late⟩ := late
      have shown : (replyFaults s r).stack7 = some 2 := by
        simp [replyFaults, unmarked, breakerMismatch_closed rests closed timer late]
      refine ⟨?_, by rw [breakerMark, shown]; simp⟩
      rw [takeReply_stack7 shown calm]
      exact reportFault_replyEnds _ _ _ takes can (by decide) (by decide)
  · intro agrees
    obtain ⟨overvoltage, gridTimer, dcLinkMark, breakerMark⟩ := takeReply_marks s r
    obtain ⟨stack1, stack2, stack4, stack7⟩ := causesOf_replyEnds s r
    refine ⟨takeReply s r, congrArg Host.Outcome.next (stackReply_good on good), overvoltage, fun low high => ?_,
      fun out => ?_, fun kept clear before => ?_, fun kept clear before => ?_, fun marked low => ?_,
        fun marked high => ?_,
      fun marked agree => ?_, fun marked disagree => ?_, fun calm none unmarked unmarked' inService before => ?_⟩
    · rw [gridTimer, gridTimerAfter, if_pos ⟨low, high⟩]
      exact ⟨fun none => by rw [none]; rfl, fun t0 timer => by rw [timer]; rfl⟩
    · rw [gridTimer, gridTimerAfter, if_neg (by omega)]
    · have same := causesOf_takeReply (s := s) (r := r) (cls := clsStack) (code := 1) (.inr (by decide))
        (.inr (by decide))
        (.inl (lineOnset_false (line := (·.overcurrent)) clear _)) (.inr (by decide)) (.inr (by decide))
      rw [stack1, if_pos (lineEnd_of (line := (·.overcurrent)) clear before)] at same
      obtain ⟨empty, ended⟩ := endingOf_latched (cls := clsStack) (code := 1) kept (by decide)
      refine ⟨?_, ended_of_causesOf (by rw [same]; exact ended)⟩
      rw [Bool.eq_iff_iff, State.holdsCause_iff, State.holdsCause_iff, same]
      exact not_congr empty
    · have same := causesOf_takeReply (s := s) (r := r) (cls := clsStack) (code := 2) (.inr (by decide))
        (.inr (by decide))
        (.inr (by decide)) (.inl (lineOnset_false (line := (·.desaturation)) clear _)) (.inr (by decide))
      rw [stack2, if_pos (lineEnd_of (line := (·.desaturation)) clear before)] at same
      obtain ⟨empty, ended⟩ := endingOf_latched (cls := clsStack) (code := 2) kept (by decide)
      refine ⟨?_, ended_of_causesOf (by rw [same]; exact ended)⟩
      rw [Bool.eq_iff_iff, State.holdsCause_iff, State.holdsCause_iff, same]
      exact not_congr empty
    · refine ⟨by rw [dcLinkMark, replyFaults_stack4_false low]; simp [low], fun kept => not_holdsCause_of ?_⟩
      rw [causesOf_takeReply (.inr (by decide)) (.inl (replyFaults_stack4_false low)) (.inr (by decide))
        (.inr (by decide)) (.inr (by decide)), stack4, if_pos (by simp [marked, low])]
      exact endingOf_condition kept (by decide)
    · have none : (replyFaults s r).stack4 = false := by simp [replyFaults, marked]
      refine ⟨by rw [dcLinkMark]; simp [marked, high], holdsCause_congr ?_⟩
      rw [causesOf_takeReply (.inr (by decide)) (.inl none) (.inr (by decide)) (.inr (by decide)) (.inr (by decide)),
        stack4, if_neg (by simp [high])]
    · have agree := (breakerAgrees_iff s r).mpr agree
      have none := replyFaults_stack7_none (s := s) (r := r) (.inr marked)
      refine ⟨by rw [breakerMark, agree, none]; simp, fun kept => not_holdsCause_of ?_⟩
      rw [causesOf_takeReply (.inr (by decide)) (.inr (by decide)) (.inr (by decide)) (.inr (by decide)) (.inl none),
        stack7, if_pos (by simp [marked, agree])]
      exact endingOf_condition kept (by decide)
    · have disagree : breakerAgrees s r = false :=
        Bool.eq_false_iff.mpr fun agree => disagree ((breakerAgrees_iff s r).mp agree)
      refine ⟨by rw [breakerMark, disagree, marked]; simp, holdsCause_congr ?_⟩
      rw [causesOf_takeReply (.inr (by decide)) (.inr (by decide)) (.inr (by decide)) (.inr (by decide))
        (.inl (replyFaults_stack7_none (.inr marked))), stack7, if_neg (by simp [disagree])]
    · have line {line : StackReply → Bool} (quiet : ∀ o, s.thread.reply = some o → line o = false) :
          lineEnd line s.thread.reply r = false := by
        unfold lineEnd
        cases reply : s.thread.reply with
        | none => simp
        | some o => simp [quiet o reply]
      have back : s.portBack = false := by simp [State.portBack, inService]
      rw [takeReply_calm (replyFaults_calm calm (.inl none)), replyTransition_fault, State.replyEnds,
        unmarked, unmarked',
        line (line := (·.desaturation)) (fun o is => (before o is).2),
        line (line := (·.overcurrent)) (fun o is => (before o is).1), back]
      rfl

end Sys2Proof.Machine
end

section
/-! The timers of a start, a ride-through, the grid and the restart hold (R85, R86, R89, R91, R95). -/
namespace Sys2Proof.Machine
variable {s t u : State}

/-- R152, R153: a trip whose condition has ended at the moment it is reported. -/
theorem State.Tripped.endCondition {cls code : Nat} {detail : Int} (tripped : s.Tripped t cls code detail)
    (held : (Machine.endCondition t cls code).holdsCause cls code = true) :
    s.Tripped (Machine.endCondition t cls code) cls code detail := by
  obtain ⟨state, line, -, breaker, allotment, zero, logged⟩ := tripped
  exact ⟨state, line, held, breaker, allotment, zero, logged⟩

theorem reportFault_causes_first (none : s.fault.causes = []) (cls code : Nat) (detail : Int) :
    (reportFault s cls code .tripThread detail).fault.causes =
      [{ cls := cls, code := code, kind := causeKind cls code, ended := false }] := by
  rw [reportFault_fault, if_pos (show Severity.tripThread.trips = true from rfl)]
  unfold addCause
  rw [none]
  rfl

/-- R152: a latched trip whose condition has ended, in a set that was empty. -/
theorem endCondition_first_trip {code : Nat} (none : s.fault.causes = []) (detail : Int)
    (latched : causeKind clsStack code = .latched) :
    (endCondition (reportFault s clsStack code .tripThread detail) clsStack code).fault.causes =
      [{ cls := clsStack, code := code, kind := .latched, ended := true }] := by
  unfold endCondition
  dsimp only
  rw [reportFault_causes_first none, latched]
  simp [endConditionIn]

theorem first_trip_ended {code : Nat} (none : s.fault.causes = []) (takes : s.takesOffers = true) (can : s.CanReport)
    (detail : Int) (latched : causeKind clsStack code = .latched) :
    s.Tripped (endCondition (reportFault s clsStack code .tripThread detail) clsStack code) clsStack code detail := by
  refine (reportFault_tripThread s clsStack code detail can takes ?_ ?_).endCondition ?_
  · simp [barsSession, clsStack, clsPlant]
  · exact fun h => absurd h.1 (by decide)
  · rw [State.holdsCause, endCondition_first_trip none detail latched]
    simp

theorem rideThroughRecovery_due {t0 t1 : Nat} (on : s.running = true) (state : s.thread.state = .rideThrough)
    (since : s.thread.stateTimer = some t0) (timer : s.thread.recoveryTimer = some t1)
    (due : t1 + Config.recoveryTime ≤ s.now) :
    (rideThroughRecovery s).thread = { s.thread with state := .run, stateTimer := none, recoveryTimer := none } ∧
    (rideThroughRecovery s).allotment = s.allotment ∧
    (rideThroughRecovery s).log =
      s.log.enter s.now s.own clsGrid 4 0 1 (some (min 32767 ((s.now - t0) / 40000) : Nat)) none := by
  unfold rideThroughRecovery
  rw [if_pos ⟨state, reached_of timer due, on⟩, since]
  dsimp only
  rw [setThread_eq]
  exact ⟨rfl, rfl, rfl⟩

theorem gridHealthyTimer_due {t0 : Nat} (on : s.running = true) (timer : s.thread.gridTimer = some t0)
    (due : t0 + Config.gridHealthy ≤ s.now) :
    gridHealthyTimer s = endCondition (endCondition s clsGrid 1) clsGrid 2 :=
  if_pos ⟨reached_of timer due, on⟩

/-- Settles O24: each timer by the moment it runs out. -/
theorem startAndRideThroughTimers : Obligations.StartAndRideThroughTimers := by
  refine ⟨fun s t0 on takes can timer none => ⟨fun state due => ?_, fun state early => ?_, fun state due => ?_,
    fun state early => ?_⟩, fun s t0 on state since => ⟨fun t1 timer due below => ?_, fun t1 timer early => ?_,
    fun early => ?_, fun late takes can unhealthy => ?_⟩, fun s t0 on => ⟨fun timer due kept => ?_,
    fun timer early => ?_, fun timer due => ?_, fun timer early => ?_⟩⟩
  · have eq : prechargeTimeout s = endCondition (reportFault s clsStack 5 .tripThread
        (if s.thread.breakerStep = .waitCharge then 1 else 2)) clsStack 5 := by
      unfold prechargeTimeout
      rw [if_pos ⟨state, reached_of timer due, on⟩]
      cases s.thread.breakerStep <;> rfl
    exact ⟨_, congrArg Host.Outcome.next eq, first_trip_ended none takes can _ (by decide),
      endCondition_first_trip none _ (by decide)⟩
  · refine congrArg Host.Outcome.next (if_neg fun due => ?_)
    rw [not_reached_of timer early] at due
    cases due.2.1
  · have eq : syncTimeout s = endCondition (reportFault s clsStack 6 .tripThread s.thread.lockCount) clsStack 6 :=
      if_pos ⟨state, reached_of timer due, on⟩
    exact ⟨_, congrArg Host.Outcome.next eq, first_trip_ended none takes can _ (by decide),
      endCondition_first_trip none _ (by decide)⟩
  · refine congrArg Host.Outcome.next (if_neg fun due => ?_)
    rw [not_reached_of timer early] at due
    cases due.2.1
  · obtain ⟨thread, allotment, log⟩ := rideThroughRecovery_due on state since timer due
    exact ⟨_, rfl, by rw [thread], by rw [thread], by rw [thread], allotment, logged_of_log below log⟩
  · refine congrArg Host.Outcome.next (if_neg fun due => ?_)
    rw [not_reached_of timer early] at due
    cases due.2.1
  · refine congrArg Host.Outcome.next (if_neg fun due => ?_)
    rw [not_reached_of since (by omega)] at due
    cases due.2.1
  · have eq : rideThroughTooLong s = reportFault s clsGrid 1 .tripThread (s.gridVoltage.getD 0) := by
      unfold rideThroughTooLong
      rw [if_pos ⟨state, reached_of since (by omega), on⟩, unhealthy]
      rfl
    exact ⟨_, congrArg Host.Outcome.next eq, reportFault_tripThread s clsGrid 1 _ can takes (by decide) (by decide)⟩
  · have first : (endCondition (endCondition s clsGrid 1) clsGrid 2).causesOf clsGrid 1 = [] := by
      rw [causesOf_endCondition_other _ (by decide), causesOf_endCondition]
      exact endingOf_condition kept (by decide)
    have second : (endCondition (endCondition s clsGrid 1) clsGrid 2).causesOf clsGrid 2 = [] := by
      rw [causesOf_endCondition, causesOf_endCondition_other _ (by decide)]
      exact endingOf_condition kept (by decide)
    refine ⟨_, congrArg Host.Outcome.next (gridHealthyTimer_due on timer due), rfl, not_holdsCause_of first,
      not_holdsCause_of second, fun cls code other other' => holdsCause_congr ?_⟩
    rw [causesOf_endCondition_other _ (Ne.symm other'), causesOf_endCondition_other _ (Ne.symm other)]
  · refine congrArg Host.Outcome.next (if_neg fun due => ?_)
    rw [not_reached_of timer early] at due
    cases due.1
  · exact congrArg Host.Outcome.next (if_pos ⟨reached_of timer due, ((State.running_iff s).mp on).1⟩)
  · refine congrArg Host.Outcome.next (if_neg fun due => ?_)
    rw [not_reached_of timer early] at due
    cases due.1

end Sys2Proof.Machine
end

section
/-!
The records one command writes (R166): the log takes them whole, behind those it held, so what a command reports is read
off the list of what it wrote.
-/
namespace Sys2Proof.Machine
variable {s t u : State}

/-! ## Records written one after the other -/

/-- A record but for its number and its time. -/
structure Written where
  origin : Nat
  cls : Nat
  code : Nat
  severity : Nat
  action : Nat
  detail : Option Int
  noticeNumber : Option Nat

/-- The record with its number and its time. -/
def Written.record (w : Written) (sequence stamp : Nat) : LogRecord :=
  { sequence := sequence, stamp := stamp, origin := w.origin, cls := w.cls, code := w.code, severity := w.severity,
    action := w.action, detail := w.detail, noticeNumber := w.noticeNumber }

def FaultLog.write (l : FaultLog) (now : Nat) (w : Written) : FaultLog :=
  l.enter now w.origin w.cls w.code w.severity w.action w.detail w.noticeNumber

def FaultLog.writeAll (l : FaultLog) (now : Nat) (ws : List Written) : FaultLog := ws.foldl (·.write now ·) l

/-- The records of a list, numbered on from a number. -/
def recordsFrom (n stamp : Nat) : List Written → List LogRecord
  | [] => []
  | w :: ws => w.record (n + 1) stamp :: recordsFrom (n + 1) stamp ws

theorem FaultLog.write_eq {l : FaultLog} (now : Nat) (w : Written) (size : l.records.length ≤ Config.logSize)
    (below : l.newest < Config.lastSequence) :
    (l.write now w).newest = l.newest + 1 ∧
    (l.write now w).records =
      l.records.drop (l.records.length + 1 - Config.logSize) ++ [w.record (l.newest + 1) (millisecondCount now)] := by
  unfold FaultLog.write FaultLog.enter
  rw [if_neg (Nat.not_le.mpr below)]
  dsimp only
  split
  case isTrue full =>
    have one : l.records.length + 1 - Config.logSize = 1 := by omega
    rw [one]
    exact ⟨rfl, rfl⟩
  case isFalse free =>
    have zero : l.records.length + 1 - Config.logSize = 0 := by omega
    rw [zero]
    exact ⟨rfl, rfl⟩

/-- R166: as many of the oldest records are overwritten as the log has no room for. -/
theorem FaultLog.writeAll_records (now : Nat) (ws : List Written) {l : FaultLog}
    (size : l.records.length ≤ Config.logSize) (few : ws.length ≤ Config.logSize)
    (below : l.newest + ws.length ≤ Config.lastSequence) : (l.writeAll now ws).records =
      l.records.drop (l.records.length + ws.length - Config.logSize) ++
        recordsFrom l.newest (millisecondCount now) ws := by
  induction ws generalizing l with
  | nil =>
    have none : l.records.length + 0 - Config.logSize = 0 := by omega
    rw [List.length_nil, none]
    exact (List.append_nil _).symm
  | cons w ws ih =>
    simp only [List.length_cons] at few below ⊢
    obtain ⟨newest, records⟩ := FaultLog.write_eq now w size (by omega)
    have length : (l.write now w).records.length =
        l.records.length - (l.records.length + 1 - Config.logSize) + 1 := by simp [records]
    have rest := ih (l := l.write now w) (by omega) (by omega) (by omega)
    change ((l.write now w).writeAll now ws).records = _
    rw [rest, newest, length, records, recordsFrom, List.drop_append_of_le_length (by simp; omega), List.drop_drop,
      List.append_assoc]
    congr 2
    omega

theorem mem_recordsFrom {n stamp : Nat} {ws : List Written} {r : LogRecord} (mem : r ∈ recordsFrom n stamp ws) :
    n < r.sequence ∧ ∃ w ∈ ws, r = w.record r.sequence stamp := by
  induction ws generalizing n with
  | nil => cases mem
  | cons w ws ih =>
    rcases List.mem_cons.mp mem with rfl | later
    · exact ⟨Nat.lt_succ_self n, w, List.mem_cons_self, rfl⟩
    · obtain ⟨lt, v, written, eq⟩ := ih later
      exact ⟨by omega, v, List.mem_cons_of_mem _ written, eq⟩

theorem recordsFrom_mem {stamp : Nat} {ws : List Written} {w : Written} (written : w ∈ ws) (n : Nat) :
    ∃ sequence, n < sequence ∧ w.record sequence stamp ∈ recordsFrom n stamp ws := by
  induction ws generalizing n with
  | nil => cases written
  | cons v ws ih =>
    rcases List.mem_cons.mp written with rfl | later
    · exact ⟨n + 1, Nat.lt_succ_self n, List.mem_cons_self⟩
    · obtain ⟨sequence, lt, mem⟩ := ih later (n + 1)
      exact ⟨sequence, by omega, List.mem_cons_of_mem _ mem⟩

/-! ## What a command has written -/

/-- A command has written at most so many records, the given ones and those of LINK, of notices dropped (R15). -/
def State.Writes (s t : State) (most : Nat) (ws : List Written) : Prop :=
  t.now = s.now ∧ ∃ all, t.log = s.log.writeAll s.now all ∧ all.length ≤ most ∧
    all.filter (fun w => w.cls != clsLink) = ws

theorem State.Writes.of_log (now : t.now = s.now) (log : t.log = s.log) : s.Writes t 0 [] :=
  ⟨now, [], log, Nat.le_refl 0, rfl⟩

theorem State.Writes.trans {m n : Nat} {a b : List Written} (st : s.Writes t m a) (tu : t.Writes u n b) :
    s.Writes u (m + n) (a ++ b) := by
  obtain ⟨now, first, log, most, kept⟩ := st
  obtain ⟨now', second, log', most', kept'⟩ := tu
  refine ⟨now'.trans now, first ++ second, ?_, by rw [List.length_append]; omega, by rw [List.filter_append, kept,
    kept']⟩
  rw [log', log, now]
  exact (List.foldl_append ..).symm

theorem State.Writes.mono {m n : Nat} {ws : List Written} (writes : s.Writes t m ws) (le : m ≤ n) :
    s.Writes t n ws := by
  obtain ⟨now, all, log, most, kept⟩ := writes
  exact ⟨now, all, log, Nat.le_trans most le, kept⟩

/-- A record entered. -/
theorem State.Writes.enter {origin cls code severity action : Nat} {detail : Option Int} {noticeNumber : Option Nat}
    (now : t.now = s.now) (log : t.log = s.log.enter s.now origin cls code severity action detail noticeNumber)
    (other : cls ≠ clsLink) : s.Writes t 1 [.mk origin cls code severity action detail noticeNumber] :=
  ⟨now, [.mk origin cls code severity action detail noticeNumber], log, Nat.le_refl 1,
    List.filter_cons_of_pos (by simpa using other)⟩

theorem offerNotice_writes (s : State) (cls code severity action : Nat) (detail : Int) :
    s.Writes (offerNotice s cls code severity action detail) 1 [] := by
  unfold offerNotice
  split
  · exact (State.Writes.of_log rfl rfl).mono (Nat.zero_le 1)
  · split
    · exact (State.Writes.of_log rfl rfl).mono (Nat.zero_le 1)
    · exact ⟨rfl, [.mk s.own clsLink 5 Severity.note.code FaultAction.logged.code (some (cls * 100 + code)) none], rfl,
        Nat.le_refl 1, rfl⟩

/-- What a report of WARN or above writes. -/
theorem takeReport_writes {cls code : Nat} {severity : Severity} (s : State) (detail : Int) (notNote : severity ≠ .note)
    (other : cls ≠ clsLink) : s.Writes (takeReport s cls code severity detail) 2
      [.mk s.own cls code severity.code (reportAction s cls code severity).code (some detail) none] := by
  obtain ⟨-, log, -, -, now, -⟩ := tripFirst_frame s cls code severity
  have entered : s.Writes (enterRecord (tripFirst s cls code severity) s.own cls code severity.code
      (reportAction s cls code severity).code (some detail) none) 1
      [.mk s.own cls code severity.code (reportAction s cls code severity).code (some detail) none] :=
    .enter (by simpa using now) (by rw [enterRecord, log, now]) other
  rw [takeReport_eq s cls code detail notNote]
  exact (entered.trans (offerNotice_writes ..)).trans (.of_log (wakeCause_frame _).2.1 (by simp))

theorem reportFault_writes {cls code : Nat} {severity : Severity} (s : State) (detail : Int)
    (notNote : severity ≠ .note)
    (apart : barsSession cls code = false) (other : cls ≠ clsLink) :
    s.Writes (reportFault s cls code severity detail) 2
      [.mk s.own cls code severity.code (reportAction s cls code severity).code (some detail) none] := by
  rw [reportFault_apart s severity detail apart]
  exact takeReport_writes s detail notNote other

/-! ## Reports read off what was written -/

theorem State.Writes.new_records {ws : List Written} (writes : s.Writes t 16 ws) (log : s.LogOpen) (r : LogRecord)
    (other : r.cls ≠ clsLink) : (r ∈ t.log.records ∧ s.log.newest < r.sequence) →
      ∃ w ∈ ws, r = w.record r.sequence (millisecondCount s.now) := by
  obtain ⟨-, all, eq, most, rfl⟩ := writes
  obtain ⟨⟨size, count, -, sequences⟩, open_⟩ := log
  have few : all.length ≤ Config.logSize := by have : Config.logSize = 64 := rfl; omega
  have records := s.log.writeAll_records s.now all size few (by omega)
  rintro ⟨mem, new⟩
  rw [eq, records] at mem
  rcases List.mem_append.mp mem with old | mem
  · have within : r.sequence ∈ s.log.records.map (·.sequence) := List.mem_map_of_mem (List.mem_of_mem_drop old)
    rw [sequences, List.mem_range'_1] at within
    omega
  · obtain ⟨-, w, written, is⟩ := mem_recordsFrom mem
    refine ⟨w, List.mem_filter.mpr ⟨written, ?_⟩, is⟩
    have cls : r.cls = w.cls := by rw [is]; rfl
    simpa [← cls] using other

theorem State.Writes.written {ws : List Written} {w : Written} (writes : s.Writes t 16 ws) (log : s.LogOpen)
    (mem : w ∈ ws) : ∃ sequence, s.log.newest < sequence ∧
      w.record sequence (millisecondCount s.now) ∈ t.log.records := by
  obtain ⟨-, all, eq, most, rfl⟩ := writes
  obtain ⟨⟨size, -⟩, open_⟩ := log
  have few : all.length ≤ Config.logSize := by have : Config.logSize = 64 := rfl; omega
  obtain ⟨sequence, lt, there⟩ := recordsFrom_mem (stamp := millisecondCount s.now)
    (List.mem_filter.mp mem).1 s.log.newest
  refine ⟨sequence, lt, ?_⟩
  rw [eq, s.log.writeAll_records s.now all size few (by omega)]
  exact List.mem_append_right _ there

theorem State.Writes.reports {ws : List Written} {cls code severity action : Nat} {detail : Int}
    (writes : s.Writes t 16 ws) (log : s.LogOpen)
    (mem : .mk s.own cls code severity action (some detail) none ∈ ws) :
    s.Reports t cls code severity action detail := by
  obtain ⟨sequence, lt, there⟩ := writes.written log mem
  exact ⟨_, there, lt, rfl, rfl, rfl, rfl, rfl, rfl, rfl⟩

theorem State.Writes.noReport {ws : List Written} {cls code : Nat} (writes : s.Writes t 16 ws) (log : s.LogOpen)
    (other : cls ≠ clsLink) (none : ∀ w ∈ ws, w.cls = cls → w.code ≠ code) : s.NoReport t cls code := by
  intro r mem new hcls hcode
  obtain ⟨w, written, is⟩ := writes.new_records log r (hcls ▸ other) ⟨mem, new⟩
  have wcls : r.cls = w.cls := by rw [is]; rfl
  have wcode : r.code = w.code := by rw [is]; rfl
  exact none w written (wcls ▸ hcls) (wcode ▸ hcode)

end Sys2Proof.Machine
end

section
/-! The stages of a cooling evaluation (R98 to R104, R110, R111): what each leaves of the Cooling Unit. -/
namespace Sys2Proof.Machine
variable {s t u : State}

/-! ## Sensors -/

theorem classifyReading_some {v : Int} (low : -400 ≤ v) (high : v ≤ 1500) : classifyReading (some v) = some v := by
  simp [classifyReading, validTemperature, low, high]

theorem classifyReading_none {reading : Option Int}
    (out : reading = none ∨ ∃ v, reading = some v ∧ (v < -400 ∨ 1500 < v)) : classifyReading reading = none := by
  rcases out with rfl | ⟨v, rfl, out⟩
  · rfl
  · simp only [classifyReading, validTemperature, Option.filter_eq_none_iff, Option.some.injEq, forall_eq',
      decide_eq_true_eq]
    omega

theorem Sensor.step_valid (x : Sensor) {reading : Option Int} {v : Int} (valid : classifyReading reading = some v) :
    x.step reading = { state := .valid, last := v, hold := 0 } := by
  unfold Sensor.step
  rw [valid]

/-- R99: the record after a reading that is no valid temperature. -/
theorem Sensor.step_invalid (x : Sensor) {reading : Option Int} (invalid : classifyReading reading = none) :
    (x.step reading).last = x.last ∧
    (x.state = .notRead → (x.step reading).state = .failed) ∧
    (x.state = .valid → (x.step reading).state = .holding ∧ (x.step reading).hold = 1) ∧
    (x.state = .holding → 10 ≤ x.hold → (x.step reading).state = .failed) ∧
    (x.state = .holding → x.hold < 10 → (x.step reading).state = .holding ∧ (x.step reading).hold = x.hold + 1) ∧
    (x.state = .failed → (x.step reading).state = .failed) := by
  unfold Sensor.step
  rw [invalid]
  cases state : x.state with
  | notRead => simp
  | valid => simp
  | failed => simp [state]
  | holding =>
    by_cases long : 10 < x.hold + 1
    · simp [long, Nat.lt_succ_iff.mp long]
    · have short : x.hold < 10 := by omega
      simp [long, short]

theorem Sensor.step_moved (x : Sensor) (reading : Option Int) : x.Moved (x.step reading) reading := by
  refine ⟨fun v is low high => ?_, fun out => x.step_invalid (classifyReading_none out)⟩
  subst is
  exact x.step_valid (classifyReading_some low high)

/-! ## What each stage writes of the unit -/

@[simp] theorem reportSensor_cooling (before : Sensor) (reading : Option Int) (code : Nat) (s : State) :
    (reportSensor before reading code s).cooling = s.cooling := by
  unfold reportSensor
  split <;> simp

theorem senseHeatsink_unread (none : s.heatsinkReading = none) : senseHeatsink s = s := by
  unfold senseHeatsink
  rw [none]

theorem senseHeatsink_read {reading : Option Int} (read : s.heatsinkReading = some reading) :
    senseHeatsink s = reportSensor s.cooling.heatsink reading 2
      { s with cooling := { s.cooling with heatsink := s.cooling.heatsink.step reading } } := by
  unfold senseHeatsink
  rw [read]

theorem senseHeatsink_cooling (s : State) :
    (senseHeatsink s).cooling = { s.cooling with heatsink := (senseHeatsink s).cooling.heatsink } := by
  cases read : s.heatsinkReading with
  | none => rw [senseHeatsink_unread read]
  | some reading => rw [senseHeatsink_read read, reportSensor_cooling]

theorem senseInlet_cooling (reading : Option Int) (s : State) :
    (senseInlet reading s).cooling = { s.cooling with inlet := s.cooling.inlet.step reading } := by
  unfold senseInlet
  rw [reportSensor_cooling]

theorem senseOutlet_cooling (reading : Option Int) (s : State) :
    (senseOutlet reading s).cooling = { s.cooling with outlet := s.cooling.outlet.step reading } := by
  unfold senseOutlet
  rw [reportSensor_cooling]

theorem derateNote_cooling (s : State) : (derateNote s).cooling = { s.cooling with
    derateArmed := (derateNote s).cooling.derateArmed, derateCount := (derateNote s).cooling.derateCount } := by
  unfold derateNote
  (repeat' split) <;> rfl

theorem heatsinkTrip_cooling (s : State) : (heatsinkTrip s).cooling =
    { s.cooling with thermalFlag := (heatsinkTrip s).cooling.thermalFlag } := by
  unfold heatsinkTrip
  split
  · split
    · simp
    · split <;> rfl
  · rfl

theorem mergeCommand_cooling (s : State) : (mergeCommand s).cooling = { s.cooling with
    command := (mergeCommand s).cooling.command, nextDuty := (mergeCommand s).cooling.nextDuty } := by
  unfold mergeCommand
  split <;> rfl

theorem judgeProof_cooling (command : Nat) (s : State) : (judgeProof command s).cooling = { s.cooling with
    lowRun := (judgeProof command s).cooling.lowRun, highRun := (judgeProof command s).cooling.highRun,
    tachCount := (judgeProof command s).cooling.tachCount, healthy := (judgeProof command s).cooling.healthy } := by
  unfold judgeProof
  dsimp only
  split
  · rfl
  · split
    · simp
    · split <;> rfl

theorem pumpAbsence_cooling (s : State) : (pumpAbsence s).cooling = { s.cooling with
    absenceRun := (pumpAbsence s).cooling.absenceRun,
    absenceLogged := (pumpAbsence s).cooling.absenceLogged } := by
  unfold pumpAbsence
  dsimp only
  split
  · split
    · simp
    · rfl
  · rfl

theorem capabilityAtEvaluation_cooling (s : State) : (capabilityAtEvaluation s).cooling = s.cooling := by
  simp

/-! ## The stages by name -/

/-- R99, R100: the sensors judged. -/
def sensedStages (s : State) (inlet outlet : Option Int) : State :=
  senseOutlet outlet (senseInlet inlet (senseHeatsink s))

/-- R101 to R103: the thermal factor and the derate note. -/
def deratedStages (s : State) (inlet outlet : Option Int) :
    State := derateNote (formFactor (sensedStages s inlet outlet))

/-- R105 to R108: the demands and the command. -/
def commandedStages (s : State) (inlet outlet : Option Int) : State :=
  mergeCommand (formDemands (heatsinkTrip (deratedStages s inlet outlet)))

/-- R110: the proof of the actuator. -/
def provenStages (s : State) (inlet outlet : Option Int) : State :=
  judgeProof s.cooling.command (commandedStages s inlet outlet)

theorem coolingStages_proven (s : State) (inlet outlet : Option Int) :
    coolingStages s inlet outlet = capabilityAtEvaluation (pumpAbsence (provenStages s inlet outlet)) := rfl

/-- The part that the Cooling Unit's stages may write. -/
def coolingPart (p : Part) : Prop := p = .cooling

theorem sensedStages_moves (s : State) (inlet outlet : Option Int) :
    Moves coolingPart s (sensedStages s inlet outlet) :=
  senseOutlet_moves (senseInlet_moves (senseHeatsink_moves (may := coolingPart) (.refl s) rfl) inlet rfl) outlet rfl

theorem deratedStages_moves (s : State) (inlet outlet : Option Int) :
    Moves coolingPart s (deratedStages s inlet outlet) :=
  derateNote_moves (formFactor_moves (sensedStages_moves s inlet outlet) rfl) rfl

theorem commandedStages_moves (s : State) (inlet outlet : Option Int) :
    Moves coolingPart s (commandedStages s inlet outlet) :=
  mergeCommand_moves (formDemands_moves (heatsinkTrip_moves (deratedStages_moves s inlet outlet) rfl) rfl) rfl

theorem provenStages_moves (s : State) (inlet outlet : Option Int) :
    Moves coolingPart s (provenStages s inlet outlet) :=
  judgeProof_moves (commandedStages_moves s inlet outlet) _ rfl

/-- What the moves of the stages leave. -/
theorem Moves.cooled (moves : Moves coolingPart s t) :
    t.config = s.config ∧ t.table.threads = s.table.threads ∧ t.now = s.now ∧ t.resets = s.resets := by
  have framed := moves.framed
  exact ⟨framed.config (by simp [coolingPart]),
    framed.threads (by simp [coolingPart]) (by simp [coolingPart]) (by simp [coolingPart]), framed.now, framed.resets⟩

theorem liveRecords_congr (config : t.config = s.config) (threads : t.table.threads = s.table.threads) :
    t.liveRecords = s.liveRecords := by
  simp only [State.liveRecords, State.peers, own_congr config, threads]

theorem cfg_congr (config : t.config = s.config) : t.cfg = s.cfg := by
  unfold State.cfg
  rw [config]

theorem pumpOwners_congr (config : t.config = s.config) (threads : t.table.threads = s.table.threads)
    (healthy : t.cooling.healthy = s.cooling.healthy) : t.pumpOwners = s.pumpOwners := by
  simp only [State.pumpOwners, State.ownOwner, liveRecords_congr config threads, own_congr config, cfg_congr config,
    healthy]

theorem flowProven_congr (config : t.config = s.config) (threads : t.table.threads = s.table.threads)
    (healthy : t.cooling.healthy = s.cooling.healthy) : t.flowProven = s.flowProven := by
  simp only [State.flowProven, pumpOwners_congr config threads healthy, cfg_congr config, healthy]

/-! ## What the stages leave in the end -/

theorem sensedStages_cooling (s : State) (inlet outlet : Option Int) :
    (sensedStages s inlet outlet).cooling = { s.cooling with
      heatsink := (senseHeatsink s).cooling.heatsink,
      inlet := s.cooling.inlet.step inlet, outlet := s.cooling.outlet.step outlet } := by
  unfold sensedStages
  rw [senseOutlet_cooling, senseInlet_cooling, senseHeatsink_cooling]

theorem sensedStages_flowProven (s : State) (inlet outlet : Option Int) :
    (sensedStages s inlet outlet).flowProven = s.flowProven := by
  obtain ⟨config, threads, -⟩ := (sensedStages_moves s inlet outlet).cooled
  exact flowProven_congr config threads (by rw [sensedStages_cooling])

/-- The records, the factor and the running duty, which no stage after the factor writes. -/
def CoolingUnit.FactorKept (c d : CoolingUnit) : Prop := d = { c with
  derateArmed := d.derateArmed, derateCount := d.derateCount, thermalFlag := d.thermalFlag, heatWatts := d.heatWatts,
  heatKilowatts := d.heatKilowatts, flowDemand := d.flowDemand, fanDemand := d.fanDemand, command := d.command,
  nextDuty := d.nextDuty, lowRun := d.lowRun, highRun := d.highRun, tachCount := d.tachCount, healthy := d.healthy,
  absenceRun := d.absenceRun, absenceLogged := d.absenceLogged }

theorem CoolingUnit.FactorKept.trans {c d e : CoolingUnit} (cd : c.FactorKept d) (de : d.FactorKept e) :
    c.FactorKept e := by
  unfold CoolingUnit.FactorKept at *
  rw [de, cd]

theorem derateNote_factorKept (s : State) : s.cooling.FactorKept (derateNote s).cooling := by
  unfold CoolingUnit.FactorKept
  rw [derateNote_cooling]

theorem heatsinkTrip_factorKept (s : State) : s.cooling.FactorKept (heatsinkTrip s).cooling := by
  unfold CoolingUnit.FactorKept
  rw [heatsinkTrip_cooling]

theorem mergeCommand_factorKept (s : State) : s.cooling.FactorKept (mergeCommand s).cooling := by
  unfold CoolingUnit.FactorKept
  rw [mergeCommand_cooling]

theorem judgeProof_factorKept (command : Nat) (s : State) : s.cooling.FactorKept (judgeProof command s).cooling := by
  unfold CoolingUnit.FactorKept
  rw [judgeProof_cooling]

theorem pumpAbsence_factorKept (s : State) : s.cooling.FactorKept (pumpAbsence s).cooling := by
  unfold CoolingUnit.FactorKept
  rw [pumpAbsence_cooling]

/-- R101 to R103: the factor is that formed from the records the sensors leave. -/
theorem coolingStages_factorKept (s : State) (inlet outlet : Option Int) :
    (formFactor (sensedStages s inlet outlet)).cooling.FactorKept (coolingStages s inlet outlet).cooling := by
  rw [coolingStages_proven, capabilityAtEvaluation_cooling]
  exact (derateNote_factorKept _).trans <| (heatsinkTrip_factorKept _).trans <|
    CoolingUnit.FactorKept.trans (d := (formDemands (heatsinkTrip (deratedStages s inlet outlet))).cooling) rfl <|
    (mergeCommand_factorKept _).trans <| (judgeProof_factorKept _ _).trans (pumpAbsence_factorKept _)

end Sys2Proof.Machine
end

section
/-! The thermal factor (R99, R101 to R103) and the heatsink trip (R104). -/
namespace Sys2Proof.Machine
variable {s t u : State}

/-! ## The terms -/

theorem fallingTerm_full {full zero v : Int} (cool : v ≤ full) : fallingTerm full zero (some v) = 1000 := if_pos cool

theorem fallingTerm_zero {full zero v : Int} (apart : full < zero) (hot : zero ≤ v) :
    fallingTerm full zero (some v) = 0 := by
  unfold fallingTerm
  dsimp only
  rw [if_neg (by omega), if_pos hot]

theorem fallingTerm_between {full zero v : Int} (above : full < v) (below : v < zero) :
    (fallingTerm full zero (some v) : Int) = 1000 * (zero - v) / (zero - full) := by
  unfold fallingTerm
  dsimp only
  rw [if_neg (by omega), if_neg (by omega), Int.toNat_of_nonneg]
  exact Int.ediv_nonneg (by omega) (by omega)

/-! ## The heatsink reading -/

theorem heatsinkReading_absent (absent : s.thread.validity = .absent) : s.heatsinkReading = none := by
  unfold State.heatsinkReading
  rw [absent]

theorem heatsinkReading_expired (expired : s.thread.validity = .expired) : s.heatsinkReading = some none := by
  unfold State.heatsinkReading
  rw [expired]

theorem heatsinkReading_some {r : StackReply} (reply : s.thread.reply = some r)
    (recorded : s.thread.validity = .valid ∨ s.thread.validity = .held) :
    s.heatsinkReading = some (some r.heatsink) := by
  unfold State.heatsinkReading
  rcases recorded with state | state <;> rw [state, reply] <;> rfl

theorem senseHeatsink_record_of {reading : Option Int} (read : s.heatsinkReading = some reading) :
    (senseHeatsink s).cooling.heatsink = s.cooling.heatsink.step reading := by
  rw [senseHeatsink_read read, reportSensor_cooling]

/-! ## The capability at an evaluation -/

theorem tripThread_capability (s : State) : (tripThread s).allotment.capability = s.allotment.capability := by
  by_cases tripped : s.thread.state = .tripped
  · rw [tripThread, if_pos tripped]
  · rw [tripThread_eq s tripped]
    rfl

theorem reportFault_capability {cls code : Nat} {severity : Severity} (s : State) (detail : Int)
    (notNote : severity ≠ .note) (apart : barsSession cls code = false) :
    (reportFault s cls code severity detail).allotment.capability = s.allotment.capability := by
  rw [reportFault_apart s severity detail apart, takeReport_eq s cls code detail notNote,
    (wakeCause_frame _).2.2.2.2.2.2.2.1, offerNotice_footprint]
  change (tripFirst s cls code severity).allotment.capability = _
  unfold tripFirst
  split
  · exact tripThread_capability _
  · rfl

/-- Reports and stages before the last leave C_own, and QUIET where the station is JOINED. -/
structure State.Unmoved (s t : State) : Prop where
  capability : t.allotment.capability = s.allotment.capability
  link : t.link.state = s.link.state
  quiet : s.link.state = .joined → (t.quiet.state = .quiet ↔ s.quiet.state = .quiet)

theorem State.Unmoved.trans (st : s.Unmoved t) (tu : t.Unmoved u) : s.Unmoved u where
  capability := tu.capability.trans st.capability
  link := tu.link.trans st.link
  quiet joined := (tu.quiet (st.link.trans joined)).trans (st.quiet joined)

theorem State.Unmoved.of_cooling (s : State) (c : CoolingUnit) : s.Unmoved { s with cooling := c } :=
  ⟨rfl, rfl, fun _ => Iff.rfl⟩

theorem State.Unmoved.refl (s : State) : s.Unmoved s := ⟨rfl, rfl, fun _ => Iff.rfl⟩

/-- R177: a JOINED station in QUIET starts its call, and returns to ACTIVE by no other wake cause. -/
theorem wakeCause_quiet_iff (awake : s.link.state = .joined) :
    (wakeCause s).quiet.state = .quiet ↔ s.quiet.state = .quiet := by
  obtain ⟨active, pending, -⟩ := wakeCause_taken s
  cases state : s.quiet.state with
  | active => rw [(active state).1, state]
  | pending => rw [(pending state).1]; simp
  | quiet =>
    unfold wakeCause
    rw [state]
    dsimp only
    rw [if_neg (by simp [awake])]
    split <;> simp [startCall, state]

theorem reportFault_unmoved {cls code : Nat} {severity : Severity} (s : State) (detail : Int)
    (notNote : severity ≠ .note) (apart : barsSession cls code = false) :
    s.Unmoved (reportFault s cls code severity detail) where
  capability := reportFault_capability s detail notNote apart
  link := (reportFault_aside s severity detail notNote apart).state
  quiet joined := by
    obtain ⟨link, -, quiet, -⟩ := tripFirst_frame s cls code severity
    rw [reportFault_apart s severity detail apart, takeReport_eq s cls code detail notNote,
      wakeCause_quiet_iff (by simpa [link] using joined), offerNotice_footprint]
    change (tripFirst s cls code severity).quiet.state = .quiet ↔ _
    rw [quiet]

theorem reportSensor_unmoved (before : Sensor) (reading : Option Int) (code : Nat) (s : State) :
    s.Unmoved (reportSensor before reading code s) := by
  unfold reportSensor
  split
  · exact reportFault_unmoved s _ (by simp) (barsSession_of_ne (by decide))
  · exact .refl s

theorem sensedStages_unmoved (s : State) (inlet outlet : Option Int) : s.Unmoved (sensedStages s inlet outlet) := by
  have heatsink : s.Unmoved (senseHeatsink s) := by
    cases read : s.heatsinkReading with
    | none => rw [senseHeatsink_unread read]; exact .refl s
    | some reading => rw [senseHeatsink_read read]; exact (State.Unmoved.of_cooling ..).trans (reportSensor_unmoved ..)
  have sensed (s : State) (c : CoolingUnit) (x : Sensor) (reading : Option Int) (code : Nat) :
      s.Unmoved (reportSensor x reading code { s with cooling := c }) :=
    (State.Unmoved.of_cooling ..).trans (reportSensor_unmoved ..)
  exact (heatsink.trans (sensed _ _ _ _ _)).trans (sensed _ _ _ _ _)

theorem heatsinkTrip_unmoved (s : State) : s.Unmoved (heatsinkTrip s) := by
  unfold heatsinkTrip
  split
  · split
    · exact (State.Unmoved.of_cooling ..).trans (reportFault_unmoved _ _ (by simp) (by decide))
    · split
      · exact ⟨rfl, rfl, fun _ => Iff.rfl⟩
      · exact .refl s
  · exact .refl s

theorem derateNote_unmoved (s : State) : s.Unmoved (derateNote s) := by
  unfold derateNote
  (repeat' split) <;> exact ⟨rfl, rfl, fun _ => Iff.rfl⟩

theorem mergeCommand_unmoved (s : State) : s.Unmoved (mergeCommand s) := by
  unfold mergeCommand
  split <;> exact ⟨rfl, rfl, fun _ => Iff.rfl⟩

theorem judgeProof_unmoved (command : Nat) (s : State) : s.Unmoved (judgeProof command s) := by
  unfold judgeProof
  dsimp only
  split
  · exact .refl s
  · split
    · exact (State.Unmoved.of_cooling ..).trans (reportFault_unmoved _ _ (by simp) (barsSession_of_ne (by decide)))
    · split <;> exact ⟨rfl, rfl, fun _ => Iff.rfl⟩

theorem pumpAbsence_unmoved (s : State) : s.Unmoved (pumpAbsence s) := by
  unfold pumpAbsence
  dsimp only
  split
  · split
    · exact (State.Unmoved.of_cooling ..).trans (reportFault_unmoved _ _ (by simp) (barsSession_of_ne (by decide)))
    · exact ⟨rfl, rfl, fun _ => Iff.rfl⟩
  · exact ⟨rfl, rfl, fun _ => Iff.rfl⟩

theorem provenStages_unmoved (s : State) (inlet outlet : Option Int) : s.Unmoved (provenStages s inlet outlet) :=
  (sensedStages_unmoved s inlet outlet).trans <| (State.Unmoved.of_cooling _ _).trans <| (derateNote_unmoved _).trans <|
    (heatsinkTrip_unmoved _).trans <| (State.Unmoved.of_cooling _ _).trans <| (mergeCommand_unmoved _).trans
      (judgeProof_unmoved _ _)

theorem capabilityAtEvaluation_eq (s : State) : (capabilityAtEvaluation s).allotment.capability =
    if s.link.state = .listen ∨ s.quiet.state = .quiet then s.cfg.rated * s.cooling.factor / 1000
    else s.allotment.capability := by
  unfold capabilityAtEvaluation
  split <;> rfl

/-- R62: C_own after an evaluation. -/
theorem coolingStages_capability (s : State) (inlet outlet : Option Int) (joined : s.link.state = .joined ∨
    s.link.state = .listen) : (coolingStages s inlet outlet).allotment.capability =
      if s.link.state = .listen ∨ s.quiet.state = .quiet then
        s.cfg.rated * (coolingStages s inlet outlet).cooling.factor / 1000
      else s.allotment.capability := by
  rw [coolingStages_proven, capabilityAtEvaluation_cooling, capabilityAtEvaluation_eq]
  have kept := (provenStages_unmoved s inlet outlet).trans (pumpAbsence_unmoved _)
  have config := (pumpAbsence_moves (provenStages_moves s inlet outlet) rfl).cooled.1
  rw [cfg_congr config, kept.link, kept.capability]
  rcases joined with joined | listening
  · simp only [kept.quiet joined]
  · rw [if_pos (.inl listening), if_pos (.inl listening)]

/-! ## The statements -/

/-- The state an evaluation's stages begin from. -/
def State.evaluating (s : State) (t0 : Nat) : State :=
  { s with cooling := { s.cooling with timer := some (t0 + Config.evaluation) } }

theorem exec_coolingEvaluation_due {t0 : Nat} (inlet outlet : Option Int) (on : s.running = true)
    (timer : s.cooling.timer = some t0) (due : t0 + Config.evaluation ≤ s.now) :
    exec (.coolingEvaluation inlet outlet) s = .next (coolingStages (s.evaluating t0) inlet outlet) := by
  rw [exec_coolingEvaluation, coolingEvaluation_due inlet outlet on timer due, timer]
  rfl

/-- Settles O35: the sensors by their step, the factor from the records they leave. -/
theorem thermalFactorFormed : Obligations.ThermalFactorFormed := by
  intro s t0 inlet outlet on timer
  refine ⟨fun early => congrArg Host.Outcome.next (if_neg fun due => ?early), fun due =>
    ⟨_, exec_coolingEvaluation_due inlet outlet on timer due, ?_⟩⟩
  case early =>
    rw [not_reached_of timer early] at due
    cases due.2
  have kept := coolingStages_factorKept (s.evaluating t0) inlet outlet
  have framed := (coolingStages_moves (may := coolingPart) (.refl (s.evaluating t0)) inlet outlet rfl).framed
  have sensed := sensedStages_cooling (s.evaluating t0) inlet outlet
  have flow : (sensedStages (s.evaluating t0) inlet outlet).flowProven = s.flowProven :=
    (sensedStages_flowProven ..).trans (flowProven_congr rfl rfl rfl)
  have capability := coolingStages_capability (s.evaluating t0) inlet outlet
  generalize coolingStages (s.evaluating t0) inlet outlet = t at *
  generalize sensedStages (s.evaluating t0) inlet outlet = v at *
  have inlet_eq : t.cooling.inlet = s.cooling.inlet.step inlet := by rw [kept]; exact congrArg CoolingUnit.inlet sensed
  have outlet_eq : t.cooling.outlet = s.cooling.outlet.step outlet := by
    rw [kept]; exact congrArg CoolingUnit.outlet sensed
  have heatsink_eq : t.cooling.heatsink = (senseHeatsink (s.evaluating t0)).cooling.heatsink := by
    have record : v.cooling.heatsink = (senseHeatsink (s.evaluating t0)).cooling.heatsink := by rw [sensed]
    rw [kept]
    exact record
  have inletTerm_eq : t.cooling.factorInlet = inletTerm t.cooling.inlet.value := by rw [kept]; rfl
  have heatsinkTerm_eq : t.cooling.factorHeatsink = heatsinkTerm t.cooling.heatsink.value := by rw [kept]; rfl
  refine ⟨by rw [kept]; exact congrArg CoolingUnit.timer sensed,
    framed.wind (by simp [coolingPart]) (by simp [coolingPart]), framed.config (by simp [coolingPart]),
    by rw [inlet_eq]; exact Sensor.step_moved .., by rw [outlet_eq]; exact Sensor.step_moved ..,
    fun absent => ?_, fun expired => ?_, fun r reply recorded => ?_, fun unread => ?_, fun read => ?_, fun unread => ?_,
    fun read => ?_, ?_, by rw [kept]; rfl, fun awake joined => ?_, fun asleep joined => ?_, fun listening => ?_⟩
  · rw [heatsink_eq, senseHeatsink_unread (heatsinkReading_absent (s := s.evaluating t0) absent)]
    rfl
  · rw [heatsink_eq, senseHeatsink_record_of (heatsinkReading_expired (s := s.evaluating t0) expired)]
    exact Sensor.step_moved ..
  · rw [heatsink_eq, senseHeatsink_record_of (heatsinkReading_some (s := s.evaluating t0) reply recorded)]
    exact Sensor.step_moved ..
  · rw [inletTerm_eq, Sensor.value_of_unread unread]
    rfl
  · rw [inletTerm_eq, Sensor.value_of_read read]
    exact ⟨fallingTerm_full, fallingTerm_zero (by decide), fallingTerm_between⟩
  · rw [heatsinkTerm_eq, Sensor.value_of_unread unread]
    rfl
  · rw [heatsinkTerm_eq, Sensor.value_of_read read]
    exact ⟨fallingTerm_full, fallingTerm_zero (by decide), fallingTerm_between⟩
  · rw [kept]
    change (if v.flowProven then 1000 else 500) = _
    rw [flow]
  · rw [capability (.inl joined), if_neg]
    · rfl
    · rintro (listening | asleep)
      · exact absurd (joined.symm.trans listening) (by simp)
      · exact awake asleep
  · rw [capability (.inl joined), if_pos (.inr (by exact asleep))]
    rfl
  · rw [capability (.inr listening), if_pos (.inl (by exact listening))]
    rfl

/-! ## The heatsink trip -/

theorem reportSensor_kept (before : Sensor) (reading : Option Int) (code : Nat) (s : State) :
    (reportSensor before reading code s).fault = s.fault ∧
    (reportSensor before reading code s).thread.state = s.thread.state := by
  unfold reportSensor
  split
  · rw [reportFault_fault, reportFault_warn_threadState]
    exact ⟨rfl, rfl⟩
  · exact ⟨rfl, rfl⟩

theorem deratedStages_kept (s : State) (inlet outlet : Option Int) :
    (deratedStages s inlet outlet).fault = s.fault ∧ (deratedStages s inlet outlet).thread.state = s.thread.state := by
  have heatsink : (senseHeatsink s).fault = s.fault ∧ (senseHeatsink s).thread.state = s.thread.state := by
    cases read : s.heatsinkReading with
    | none => rw [senseHeatsink_unread read]; exact ⟨rfl, rfl⟩
    | some reading => rw [senseHeatsink_read read]; exact reportSensor_kept ..
  have noted (s : State) : (derateNote s).fault = s.fault ∧ (derateNote s).thread.state = s.thread.state := by
    unfold derateNote
    (repeat' split) <;> exact ⟨rfl, rfl⟩
  unfold deratedStages sensedStages senseOutlet senseInlet
  refine ⟨(noted _).1.trans ?_, (noted _).2.trans ?_⟩
  · exact (reportSensor_kept ..).1.trans ((reportSensor_kept ..).1.trans heatsink.1)
  · exact (reportSensor_kept ..).2.trans ((reportSensor_kept ..).2.trans heatsink.2)

theorem coolingStages_fault (s : State) (inlet outlet : Option Int) :
    (coolingStages s inlet outlet).fault = (heatsinkTrip (deratedStages s inlet outlet)).fault := by
  have warned (s : State) (cls code : Nat) (detail : Int) : (reportFault s cls code .warn detail).fault = s.fault := by
    rw [reportFault_fault]
    rfl
  have merged (s : State) : (mergeCommand s).fault = s.fault := by unfold mergeCommand; split <;> rfl
  have proven (command : Nat) (s : State) : (judgeProof command s).fault = s.fault := by
    unfold judgeProof
    dsimp only
    (repeat' split) <;> first | rfl | exact warned ..
  have absent (s : State) : (pumpAbsence s).fault = s.fault := by
    unfold pumpAbsence
    dsimp only
    (repeat' split) <;> first | rfl | exact warned ..
  have capable (s : State) : (capabilityAtEvaluation s).fault = s.fault := by simp
  rw [coolingStages_proven, capable, absent, provenStages, proven, commandedStages, merged]
  rfl

theorem heatsinkTrip_trips (valid : s.cooling.heatsink.state = .valid) (hot : 950 ≤ s.cooling.heatsink.last)
    (unmarked : s.cooling.thermalFlag = false) : heatsinkTrip s =
      reportFault { s with cooling := { s.cooling with thermalFlag := true } } clsThermal 1 .tripThread
        s.cooling.heatsink.last := by
  unfold heatsinkTrip
  rw [if_pos valid, if_pos ⟨unmarked, hot⟩]

theorem heatsinkTrip_ends (valid : s.cooling.heatsink.state = .valid) (cool : s.cooling.heatsink.last < 850)
    (marked : s.cooling.thermalFlag = true) : heatsinkTrip s =
      endCondition { s with cooling := { s.cooling with thermalFlag := false } } clsThermal 1 := by
  unfold heatsinkTrip
  rw [if_pos valid, if_neg (by simp [marked]), if_pos ⟨marked, cool⟩]

theorem heatsinkTrip_stays (low : 850 ≤ s.cooling.heatsink.last) (high : s.cooling.heatsink.last < 950) :
    heatsinkTrip s = s := by
  unfold heatsinkTrip
  rw [if_neg (by omega : ¬(_ ∧ 950 ≤ s.cooling.heatsink.last)),
    if_neg (by omega : ¬(_ ∧ s.cooling.heatsink.last < 850)),
    ite_self]

theorem tripped_of_report {cls code : Nat} (s : State) (detail : Int) (apart : barsSession cls code = false) :
    (reportFault s cls code .tripThread detail).thread.state = .tripped ∧
    (reportFault s cls code .tripThread detail).holdsCause cls code = true := by
  constructor
  · rw [reportFault_apart s _ detail apart, takeReport_eq s cls code detail (by simp)]
    simp [tripFirst, Severity.trips]
  · have fault := reportFault_fault s cls code .tripThread detail
    rw [State.holdsCause, fault]
    exact holdsCause_addCause s cls code

/-- What the stages after the trip leave of the flag and of the thread's state. -/
theorem coolingStages_thermalFlag (s : State) (inlet outlet : Option Int) :
    (coolingStages s inlet outlet).cooling.thermalFlag =
      (heatsinkTrip (deratedStages s inlet outlet)).cooling.thermalFlag ∧
    (coolingStages s inlet outlet).thread.state = (heatsinkTrip (deratedStages s inlet outlet)).thread.state := by
  refine ⟨?_, (coolingStages_sameDemands s inlet outlet).threadState⟩
  rw [coolingStages_proven, capabilityAtEvaluation_cooling, pumpAbsence_cooling, provenStages, judgeProof_cooling,
    commandedStages, mergeCommand_cooling]
  rfl

/-- Settles O38: the trip judged on the record a valid reading leaves. -/
theorem heatsinkTripsAt95Degrees : Obligations.HeatsinkTripsAt95Degrees := by
  intro s t0 inlet outlet r on timer due valid reply low high
  refine ⟨_, exec_coolingEvaluation_due inlet outlet on timer due, ?_⟩
  have kept := coolingStages_factorKept (s.evaluating t0) inlet outlet
  obtain ⟨flag, state⟩ := coolingStages_thermalFlag (s.evaluating t0) inlet outlet
  have fault := coolingStages_fault (s.evaluating t0) inlet outlet
  obtain ⟨faultBefore, stateBefore⟩ := deratedStages_kept (s.evaluating t0) inlet outlet
  have sensed := sensedStages_cooling (s.evaluating t0) inlet outlet
  have record : (senseHeatsink (s.evaluating t0)).cooling.heatsink =
    { state := .valid, last := r.heatsink, hold := 0 } :=
    (senseHeatsink_record_of (heatsinkReading_some (s := s.evaluating t0) reply (.inl valid))).trans
      (Sensor.step_valid _ (classifyReading_some low high))
  have derated : (deratedStages (s.evaluating t0) inlet outlet).cooling.heatsink =
        { state := .valid, last := r.heatsink, hold := 0 } ∧
      (deratedStages (s.evaluating t0) inlet outlet).cooling.thermalFlag = s.cooling.thermalFlag := by
    unfold deratedStages formFactor
    rw [derateNote_cooling]
    dsimp only
    rw [sensed]
    exact ⟨record, rfl⟩
  generalize coolingStages (s.evaluating t0) inlet outlet = t at *
  generalize deratedStages (s.evaluating t0) inlet outlet = d at *
  obtain ⟨heatsink, before⟩ := derated
  have last : d.cooling.heatsink.last = r.heatsink := by rw [heatsink]
  have isValid : d.cooling.heatsink.state = .valid := by rw [heatsink]
  refine ⟨?_, fun hot unmarked => ?_, fun cool marked => ?_, fun warm below => ?_⟩
  · rw [kept]
    exact (congrArg (·.heatsink.last) sensed).trans (congrArg Sensor.last record)
  · have trip := heatsinkTrip_trips isValid (last ▸ hot) (before.trans unmarked)
    rw [trip] at flag state fault
    obtain ⟨tripped, held⟩ := tripped_of_report (cls := clsThermal) (code := 1)
      { d with cooling := { d.cooling with thermalFlag := true } } d.cooling.heatsink.last (by decide)
    refine ⟨by rw [flag]; simp, state.trans tripped, ?_⟩
    rw [State.holdsCause, fault]
    exact held
  · have ends := heatsinkTrip_ends isValid (last ▸ cool) (before.trans marked)
    rw [ends] at flag state fault
    refine ⟨flag, fun causes => not_holdsCause_of ?_, state.trans stateBefore⟩
    rw [causesOf_congr fault, causesOf_endCondition]
    rw [State.causesOf]
    dsimp only
    rw [faultBefore]
    exact endingOf_condition causes (by decide)
  · rw [heatsinkTrip_stays (last ▸ warm) (last ▸ below)] at flag state
    exact ⟨flag.trans before, state.trans stateBefore⟩

end Sys2Proof.Machine
end

section
/-! The actuator's command, duty and proof (R108 to R110), and the reports of an evaluation (R100, R103, R110, R111). -/
namespace Sys2Proof.Machine
variable {s t u : State}

/-! ## The largest of a list -/

theorem foldl_max_spec (l : List Nat) (a : Nat) :
    a ≤ l.foldl max a ∧ (∀ x ∈ l, x ≤ l.foldl max a) ∧ (l.foldl max a = a ∨ l.foldl max a ∈ l) := by
  induction l generalizing a with
  | nil => exact ⟨Nat.le_refl a, by simp, .inl rfl⟩
  | cons b l ih =>
    obtain ⟨le, all, is⟩ := ih (max a b)
    have leA : a ≤ l.foldl max (max a b) := Nat.le_trans (Nat.le_max_left a b) le
    have leB : b ≤ l.foldl max (max a b) := Nat.le_trans (Nat.le_max_right a b) le
    refine ⟨leA, List.forall_mem_cons.mpr ⟨leB, all⟩, ?_⟩
    rw [List.foldl_cons]
    rcases is with is | is
    · rcases Nat.le_total a b with ab | ba
      · exact .inr (by rw [is, Nat.max_eq_right ab]; exact List.mem_cons_self)
      · exact .inl (by rw [is, Nat.max_eq_left ba])
    · exact .inr (List.mem_cons_of_mem _ is)

/-- R108: the largest of an own demand and those of the records. -/
theorem mergedDemand_spec (l : List (Nat × StatusRecord)) (demand : StatusRecord → Nat) (own : Nat) :
    own ≤ (l.map (fun nr => demand nr.2)).foldl max own ∧
    (∀ nr ∈ l, demand nr.2 ≤ (l.map (fun nr => demand nr.2)).foldl max own) ∧
    ((l.map (fun nr => demand nr.2)).foldl max own = own ∨
      ∃ nr ∈ l, (l.map (fun nr => demand nr.2)).foldl max own = demand nr.2) := by
  obtain ⟨le, all, is⟩ := foldl_max_spec (l.map (fun nr => demand nr.2)) own
  refine ⟨le, fun nr mem => all _ (List.mem_map_of_mem mem), is.imp_right fun mem => ?_⟩
  obtain ⟨nr, there, eq⟩ := List.mem_map.mp mem
  exact ⟨nr, there, eq.symm⟩

/-! ## What the stages before the proof leave of it -/

theorem commandedStages_proof (s : State) (inlet outlet : Option Int) :
    let c := (commandedStages s inlet outlet).cooling
    c.tachCount = s.cooling.tachCount ∧ c.lowRun = s.cooling.lowRun ∧ c.highRun = s.cooling.highRun ∧
    c.healthy = s.cooling.healthy ∧ c.absenceRun = s.cooling.absenceRun ∧
      c.absenceLogged = s.cooling.absenceLogged := by
  unfold commandedStages
  rw [mergeCommand_cooling, formDemands]
  dsimp only
  rw [heatsinkTrip_cooling, deratedStages, derateNote_cooling, formFactor]
  dsimp only
  rw [sensedStages_cooling]
  exact ⟨rfl, rfl, rfl, rfl, rfl, rfl⟩

/-- R108: the command formed before the proof is judged is the one the evaluation leaves. -/
theorem coolingStages_command (s : State) (inlet outlet : Option Int) :
    (coolingStages s inlet outlet).cooling.command = (commandedStages s inlet outlet).cooling.command ∧
    (coolingStages s inlet outlet).cooling.nextDuty = (commandedStages s inlet outlet).cooling.nextDuty := by
  rw [coolingStages_proven, capabilityAtEvaluation_cooling, pumpAbsence_cooling, provenStages, judgeProof_cooling]
  exact ⟨rfl, rfl⟩

theorem mergeCommand_owner (owner : s.cfg.role ≠ .none) (runs : s.isJoined = true ∨ s.isSilent = true) :
    (mergeCommand s).cooling = { s.cooling with command := s.mergedCommand, nextDuty := s.mergedCommand * 20 } := by
  unfold mergeCommand
  rw [if_pos ⟨owner, by simpa using runs⟩]

theorem mergeCommand_none (role : s.cfg.role = .none) : mergeCommand s = s := by
  unfold mergeCommand
  rw [if_neg (by simp [role])]

theorem runsJoined_congr (resets : t.resets = s.resets) (link : t.link.state = s.link.state) :
    t.isJoined = s.isJoined ∧ t.isSilent = s.isSilent := by
  simp only [State.isJoined, State.isSilent, State.held, resets, link, and_self]

/-! ## The proof of the actuator -/

/-- R110: the two runs are never both complete. -/
theorem proofRuns_apart (count minimum command low high : Nat)
    (complete : (proofRuns count minimum command low high).1 = 20) :
    (proofRuns count minimum command low high).2 ≠ 20 := by
  unfold proofRuns at complete ⊢
  split
  case isTrue => simp
  case isFalse many => simp [many] at complete

/-- R110: what the proof makes of the unit. -/
theorem judgeProof_owner {command : Nat} {runs : Nat × Nat} (owner : s.cfg.role ≠ .none)
    (counted : proofRuns s.cooling.tachCount s.cfg.tachMinimum command s.cooling.lowRun s.cooling.highRun = runs) :
    (judgeProof command s).cooling = { s.cooling with
      lowRun := runs.1, highRun := runs.2, tachCount := 0,
      healthy := if runs.1 = 20 then false else if runs.2 = 20 then true else s.cooling.healthy } := by
  have apart : runs.1 = 20 → runs.2 ≠ 20 := fun complete => by
    rw [← counted] at complete ⊢
    exact proofRuns_apart _ _ _ _ _ complete
  have limit : Config.proofRun = 20 := rfl
  unfold judgeProof
  rw [if_neg owner]
  dsimp only
  rw [counted, limit]
  cases healthy : s.cooling.healthy
  case true =>
    by_cases low : runs.1 = 20
    · simp [low]
    · simp [low]
  case false =>
    by_cases low : runs.1 = 20
    · simp [low, apart low]
    · by_cases high : runs.2 = 20 <;> simp [low, high]

theorem coolingStages_proof (s : State) (inlet outlet : Option Int) :
    (coolingStages s inlet outlet).cooling.tachCount = (provenStages s inlet outlet).cooling.tachCount ∧
    (coolingStages s inlet outlet).cooling.lowRun = (provenStages s inlet outlet).cooling.lowRun ∧
    (coolingStages s inlet outlet).cooling.highRun = (provenStages s inlet outlet).cooling.highRun ∧
    (coolingStages s inlet outlet).cooling.healthy = (provenStages s inlet outlet).cooling.healthy := by
  rw [coolingStages_proven, capabilityAtEvaluation_cooling, pumpAbsence_cooling]
  exact ⟨rfl, rfl, rfl, rfl⟩

/-- R108, R109: the command and the next duty an evaluation leaves. -/
theorem coolingStages_merged (s : State) (inlet outlet : Option Int) (runs : s.isJoined = true ∨ s.isSilent = true) :
    let t := coolingStages s inlet outlet
    (s.cfg.role = .none → t.cooling.command = s.cooling.command ∧ t.cooling.nextDuty = s.cooling.nextDuty) ∧
    (s.cfg.role = .pump →
      t.cooling.command = (s.liveRecords.map (·.2.flowDemand)).foldl max t.cooling.flowDemand) ∧
    (s.cfg.role = .fan →
      t.cooling.command = (s.liveRecords.map (·.2.fanDemand)).foldl max t.cooling.fanDemand) ∧
    (s.cfg.role ≠ .none → t.cooling.nextDuty = t.cooling.command * 20) := by
  intro t
  have moves := formDemands_moves (heatsinkTrip_moves (deratedStages_moves s inlet outlet) rfl) rfl
  have commanded : commandedStages s inlet outlet =
      mergeCommand (formDemands (heatsinkTrip (deratedStages s inlet outlet))) := rfl
  obtain ⟨command, nextDuty⟩ := coolingStages_command s inlet outlet
  have same := coolingStages_sameDemands s inlet outlet
  change (formDemands (heatsinkTrip (deratedStages s inlet outlet))).SameDemands t at same
  have demandsCooling : (formDemands (heatsinkTrip (deratedStages s inlet outlet))).cooling.command =
    s.cooling.command ∧
      (formDemands (heatsinkTrip (deratedStages s inlet outlet))).cooling.nextDuty = s.cooling.nextDuty := by
    rw [formDemands]
    dsimp only
    rw [heatsinkTrip_cooling, deratedStages, derateNote_cooling, formFactor]
    dsimp only
    rw [sensedStages_cooling]
    exact ⟨rfl, rfl⟩
  have link : (formDemands (heatsinkTrip (deratedStages s inlet outlet))).link.state = s.link.state := by
    have formed := (sensedStages_unmoved s inlet outlet).trans
      (State.Unmoved.of_cooling _ (formFactor (sensedStages s inlet outlet)).cooling)
    exact (heatsinkTrip_unmoved _).link.trans (formed.trans (derateNote_unmoved _)).link
  rw [commanded] at command nextDuty
  generalize formDemands (heatsinkTrip (deratedStages s inlet outlet)) = d at *
  obtain ⟨config, threads, -, resets⟩ := moves.cooled
  have cfg := cfg_congr config
  have runsD : d.isJoined = true ∨ d.isSilent = true := by
    obtain ⟨joined, silent⟩ := runsJoined_congr resets link
    rwa [joined, silent]
  refine ⟨fun role => ?_, fun role => ?_, fun role => ?_, fun role => ?_⟩
  · rw [show t.cooling.command = _ from command, show t.cooling.nextDuty = _ from nextDuty,
      mergeCommand_none (by rwa [cfg])]
    exact demandsCooling
  · rw [show t.cooling.command = _ from command, mergeCommand_owner (by rw [cfg, role]; simp) runsD, same.flowDemand]
    dsimp only
    rw [State.mergedCommand, cfg, role, liveRecords_congr config threads]
  · rw [show t.cooling.command = _ from command, mergeCommand_owner (by rw [cfg, role]; simp) runsD, same.fanDemand]
    dsimp only
    rw [State.mergedCommand, cfg, role, liveRecords_congr config threads]
  · rw [show t.cooling.command = _ from command, show t.cooling.nextDuty = _ from nextDuty,
      mergeCommand_owner (by rwa [cfg]) runsD]

/-- Settles O39: the command merged after the demands, the duty of the next period, and the proof by its two runs. -/
theorem actuatorCommandedAndProven : Obligations.ActuatorCommandedAndProven := by
  refine ⟨⟨⟨fun s t0 inlet outlet runs timer due => ?_, fun s free => ⟨fun due => ?_, fun early => ?_⟩⟩,
    fun s on => congrArg Host.Outcome.next (if_pos on), fun s t0 inlet outlet on timer due owner => ?_⟩,
      fun s d now => ?_⟩
  · have on : s.running = true := by
      rcases runs with runs | runs <;> simp_all [State.isJoined, State.isSilent, State.running]
    refine ⟨_, exec_coolingEvaluation_due inlet outlet on timer due, ?_⟩
    obtain ⟨none, pump, fan, duty⟩ := coolingStages_merged (s.evaluating t0) inlet outlet runs
    refine ⟨none, fun role => ?_, fun role => ?_, duty, ?_⟩
    · rw [pump role]
      exact mergedDemand_spec _ (·.flowDemand) _
    · rw [fan role]
      exact mergedDemand_spec _ (·.fanDemand) _
    · rw [coolingStages_factorKept, formFactor]
      dsimp only
      rw [sensedStages_cooling]
      rfl
  · exact congrArg Host.Outcome.next (if_pos ⟨free, due⟩)
  · exact congrArg Host.Outcome.next (if_neg fun h => absurd h.2 (Nat.not_le.mpr early))
  · refine ⟨_, exec_coolingEvaluation_due inlet outlet on timer due, ?_⟩
    obtain ⟨tach, low, high, healthy⟩ := coolingStages_proof (s.evaluating t0) inlet outlet
    obtain ⟨tachCount, lowRun, highRun, healthyBefore, -, -⟩ := commandedStages_proof (s.evaluating t0) inlet outlet
    have cfg := cfg_congr (commandedStages_moves (s.evaluating t0) inlet outlet).cooled.1
    generalize counted : proofRuns s.cooling.tachCount s.cfg.tachMinimum s.cooling.command s.cooling.lowRun
      s.cooling.highRun = runs
    have proven : (provenStages (s.evaluating t0) inlet outlet).cooling = _ :=
      judgeProof_owner (runs := runs) (by rw [cfg]; exact owner)
        (by rw [tachCount, lowRun, highRun, cfg]; exact counted)
    rw [tach, low, high, healthy, proven, healthyBefore]
    refine ⟨rfl, fun few works => ?_, fun few idle => ?_, fun many => ?_, rfl⟩
    · rw [← counted, proofRuns, if_pos few, if_pos works]
      exact ⟨rfl, rfl⟩
    · rw [← counted, proofRuns, if_pos few, if_neg (Nat.not_le.mpr idle)]
      exact ⟨rfl, rfl⟩
    · rw [← counted, proofRuns, if_neg (Nat.not_lt.mpr many)]
      exact ⟨rfl, rfl⟩
  · have since : s.now - s.cooling.pwmStart = d := by omega
    unfold State.pwmActive
    rw [since]
    exact ⟨decide_eq_true_iff, fun off => by simp [off], fun full within => by simp [full, within]⟩

end Sys2Proof.Machine
end

section
/-! The reports of a cooling evaluation (R100, R103, R110, R111): each stage writes its record, or none. -/
namespace Sys2Proof.Machine
variable {s t u : State}

/-! ## What each stage writes -/

/-- A record written where its condition holds. -/
def writtenIf (c : Prop) [Decidable c] (w : Written) : List Written := if c then [w] else []

theorem mem_writtenIf {c : Prop} [Decidable c] {w v : Written} : v ∈ writtenIf c w ↔ c ∧ v = w := by
  unfold writtenIf
  split
  case isTrue holds => simp [holds]
  case isFalse no => simp [no]

theorem writtenIf_of {c : Prop} [Decidable c] (holds : c) (w : Written) : writtenIf c w = [w] := if_pos holds

theorem writtenIf_of_not {c : Prop} [Decidable c] (no : ¬c) (w : Written) : writtenIf c w = [] := if_neg no

/-- The record of a WARN of Thermal or Cooling. -/
def warnRecord (own cls code : Nat) (detail : Int) : Written := .mk own cls code 1 1 (some detail) none

theorem State.Writes.cooling {m : Nat} {ws : List Written} (c : CoolingUnit)
    (writes : State.Writes { s with cooling := c } t m ws) : s.Writes t m ws := writes

theorem warn_writes {cls code : Nat} (s : State) (detail : Int) (other : cls ≠ clsPlant) (known : cls ≠ clsLink)
    (plain : cls ≠ clsYaw) : s.Writes (reportFault s cls code .warn detail) 2 [warnRecord s.own cls code detail] := by
  have action : (reportAction s cls code .warn).code = 1 := by rw [reportAction_warn plain]; rfl
  have writes := reportFault_writes (severity := .warn) (cls := cls) (code := code) s detail (by simp)
    (barsSession_of_ne other) known
  rw [action] at writes
  exact writes

theorem reportSensor_writes (before : Sensor) (reading : Option Int) (code : Nat) (s : State) :
    s.Writes (reportSensor before reading code s) 2
      (writtenIf (before.reports reading = true) (warnRecord s.own clsThermal code (reading.getD (-32768)))) := by
  unfold reportSensor writtenIf
  split
  · exact warn_writes s _ (by decide) (by decide) (by decide)
  · exact (State.Writes.of_log rfl rfl).mono (Nat.zero_le 2)

/-- R100: what the heatsink sensor's stage writes. -/
def State.heatsinkWrites (s : State) : List Written :=
  match s.heatsinkReading with
  | none => []
  | some reading => writtenIf (s.cooling.heatsink.reports reading = true)
      (warnRecord s.own clsThermal 2 (reading.getD (-32768)))

theorem senseHeatsink_writes (s : State) : s.Writes (senseHeatsink s) 2 s.heatsinkWrites := by
  unfold State.heatsinkWrites
  cases read : s.heatsinkReading with
  | none =>
    rw [senseHeatsink_unread read]
    exact (State.Writes.of_log rfl rfl).mono (Nat.zero_le 2)
  | some reading =>
    rw [senseHeatsink_read read]
    exact reportSensor_writes _ reading 2 { s with cooling :=
      { s.cooling with heatsink := s.cooling.heatsink.step reading } }

theorem senseInlet_writes (reading : Option Int) (s : State) : s.Writes (senseInlet reading s) 2
    (writtenIf (s.cooling.inlet.reports reading = true) (warnRecord s.own clsThermal 3 (reading.getD (-32768)))) :=
  reportSensor_writes s.cooling.inlet reading 3
    { s with cooling := { s.cooling with inlet := s.cooling.inlet.step reading } }

theorem senseOutlet_writes (reading : Option Int) (s : State) : s.Writes (senseOutlet reading s) 2
    (writtenIf (s.cooling.outlet.reports reading = true) (warnRecord s.own clsThermal 5 (reading.getD (-32768)))) :=
  reportSensor_writes s.cooling.outlet reading 5
    { s with cooling := { s.cooling with outlet := s.cooling.outlet.step reading } }

theorem sensedStages_writes (s : State) (inlet outlet : Option Int) : s.Writes (sensedStages s inlet outlet) 6
    (s.heatsinkWrites ++
      writtenIf (s.cooling.inlet.reports inlet = true) (warnRecord s.own clsThermal 3 (inlet.getD (-32768))) ++
      writtenIf (s.cooling.outlet.reports outlet = true) (warnRecord s.own clsThermal 5 (outlet.getD (-32768)))) := by
  have config := (senseHeatsink_moves (may := coolingPart) (.refl s) rfl).cooled.1
  have config' := (senseInlet_moves (senseHeatsink_moves (may := coolingPart) (.refl s) rfl) inlet rfl).cooled.1
  have second := senseInlet_writes inlet (senseHeatsink s)
  have third := senseOutlet_writes outlet (senseInlet inlet (senseHeatsink s))
  rw [own_congr config, senseHeatsink_cooling] at second
  rw [own_congr config', senseInlet_cooling, senseHeatsink_cooling] at third
  exact ((senseHeatsink_writes s).trans second).trans third

/-- R103: what the derate note writes. -/
theorem derateNote_writes (s : State) : s.Writes (derateNote s) 1
    (writtenIf (s.cooling.derateArmed = true ∧ s.cooling.factor < 1000)
      (.mk s.own clsThermal 4 0 1 (some s.cooling.factor) none)) := by
  unfold derateNote
  by_cases armed : s.cooling.derateArmed = true
  · by_cases low : s.cooling.factor < 1000
    · rw [if_pos armed, if_pos low, writtenIf_of ⟨armed, low⟩]
      exact State.Writes.enter rfl rfl (by decide)
    · rw [if_pos armed, if_neg low, writtenIf_of_not (fun h => low h.2)]
      exact (State.Writes.of_log rfl rfl).mono (Nat.zero_le 1)
  · rw [if_neg armed, writtenIf_of_not (fun h => armed h.1)]
    (repeat' split) <;> exact (State.Writes.of_log rfl rfl).mono (Nat.zero_le 1)

/-- R104: what the heatsink trip writes. -/
theorem heatsinkTrip_writes (s : State) : ∃ ws, s.Writes (heatsinkTrip s) 2 ws ∧
    ∀ w ∈ ws, w.cls = clsThermal ∧ w.code = 1 := by
  unfold heatsinkTrip
  split
  · split
    · exact ⟨_, State.Writes.cooling _ (reportFault_writes (severity := .tripThread) _ _ (by simp)
        (by decide) (by decide)),
        by simp⟩
    · refine ⟨[], (?_ : State.Writes s _ 0 []).mono (Nat.zero_le 2), by simp⟩
      split <;> exact .of_log rfl rfl
  · exact ⟨[], (State.Writes.of_log rfl rfl).mono (Nat.zero_le 2), by simp⟩

theorem mergeCommand_writes (s : State) : s.Writes (mergeCommand s) 0 [] := by
  unfold mergeCommand
  split <;> exact .of_log rfl rfl

/-- R110: what the proof writes. -/
theorem judgeProof_writes {command : Nat} {runs : Nat × Nat} (s : State)
    (counted : proofRuns s.cooling.tachCount s.cfg.tachMinimum command s.cooling.lowRun s.cooling.highRun = runs) :
    s.Writes (judgeProof command s) 2
      (writtenIf (s.cfg.role ≠ .none ∧ runs.1 = 20 ∧ s.cooling.healthy = true)
        (warnRecord s.own clsCooling (if s.cfg.role = .pump then 1 else 2) s.cooling.tachCount)) := by
  have limit : Config.proofRun = 20 := rfl
  unfold judgeProof
  by_cases none : s.cfg.role = .none
  · rw [if_pos none, writtenIf_of_not (fun h => h.1 none)]
    exact (State.Writes.of_log rfl rfl).mono (Nat.zero_le 2)
  · rw [if_neg none]
    dsimp only
    rw [counted, limit]
    by_cases stalls : runs.1 = 20 ∧ s.cooling.healthy = true
    · rw [if_pos stalls, writtenIf_of ⟨none, stalls⟩]
      exact State.Writes.cooling _ (warn_writes { s with cooling := _ } _ (by decide) (by decide) (by decide))
    · rw [if_neg stalls, writtenIf_of_not (fun h => stalls h.2)]
      split <;> exact (State.Writes.of_log rfl rfl).mono (Nat.zero_le 2)

/-- R111: what the watch for a missing pump writes. -/
theorem pumpAbsence_writes (s : State) : s.Writes (pumpAbsence s) 2
    (writtenIf ((s.thread.state.switching = true ∧ s.pumpOwners = []) ∧ 19 ≤ s.cooling.absenceRun ∧
      s.cooling.absenceLogged = false) (warnRecord s.own clsCooling 3 0)) := by
  have full : countHeld Config.proofRun s.cooling.absenceRun = Config.proofRun ↔ 19 ≤ s.cooling.absenceRun := by
    change min 20 (s.cooling.absenceRun + 1) = 20 ↔ _
    omega
  unfold pumpAbsence
  by_cases alone : s.thread.state.switching = true ∧ s.pumpOwners = []
  · rw [if_pos alone]
    dsimp only
    by_cases due : countHeld Config.proofRun s.cooling.absenceRun = Config.proofRun ∧ s.cooling.absenceLogged = false
    · rw [if_pos due, writtenIf_of ⟨alone, full.mp due.1, due.2⟩]
      exact State.Writes.cooling _ (warn_writes { s with cooling := _ } _ (by decide) (by decide) (by decide))
    · rw [if_neg due, writtenIf_of_not (fun h => due ⟨full.mpr h.2.1, h.2.2⟩)]
      exact (State.Writes.of_log rfl rfl).mono (Nat.zero_le 2)
  · rw [if_neg alone, writtenIf_of_not (fun h => alone h.1)]
    exact (State.Writes.of_log rfl rfl).mono (Nat.zero_le 2)

/-! ## The evaluation -/

theorem pumpOwners_nil_congr (config : t.config = s.config) (threads : t.table.threads = s.table.threads) :
    t.pumpOwners = [] ↔ s.pumpOwners = [] := by
  have owner (u : State) : u.ownOwner .pump = [] ↔ u.cfg.role ≠ .pump := by
    unfold State.ownOwner
    split
    case isTrue pump => simp [pump]
    case isFalse other => simp [other]
  simp only [State.pumpOwners, List.append_eq_nil_iff, owner, cfg_congr config, liveRecords_congr config threads]

theorem coolingStages_factor_eq (s : State) (inlet outlet : Option Int) :
    (coolingStages s inlet outlet).cooling.factor = (formFactor (sensedStages s inlet outlet)).cooling.factor := by
  have kept := coolingStages_factorKept s inlet outlet
  rw [kept]

/-- R100, R103, R104, R110, R111: what an evaluation writes, by the stages in their order. -/
theorem coolingStages_writes {runs : Nat × Nat} (s : State) (inlet outlet : Option Int)
    (counted : proofRuns s.cooling.tachCount s.cfg.tachMinimum s.cooling.command s.cooling.lowRun s.cooling.highRun =
      runs) :
    let t := coolingStages s inlet outlet
    ∃ ws trip, s.Writes t 16 ws ∧ (∀ w ∈ trip, w.cls = clsThermal ∧ w.code = 1) ∧
      ws = s.heatsinkWrites ++
        writtenIf (s.cooling.inlet.reports inlet = true) (warnRecord s.own clsThermal 3 (inlet.getD (-32768))) ++
        writtenIf (s.cooling.outlet.reports outlet = true) (warnRecord s.own clsThermal 5 (outlet.getD (-32768))) ++
        writtenIf (s.cooling.derateArmed = true ∧ t.cooling.factor < 1000)
          (.mk s.own clsThermal 4 0 1 (some t.cooling.factor) none) ++ trip ++
        writtenIf (s.cfg.role ≠ .none ∧ runs.1 = 20 ∧ s.cooling.healthy = true)
          (warnRecord s.own clsCooling (if s.cfg.role = .pump then 1 else 2) s.cooling.tachCount) ++
        writtenIf ((t.thread.state.switching = true ∧ s.pumpOwners = []) ∧ 19 ≤ s.cooling.absenceRun ∧
          s.cooling.absenceLogged = false) (warnRecord s.own clsCooling 3 0) := by
  intro t
  have sensed := sensedStages_writes s inlet outlet
  have derate := derateNote_writes (formFactor (sensedStages s inlet outlet))
  obtain ⟨trip, tripped, only⟩ := heatsinkTrip_writes (deratedStages s inlet outlet)
  have merged : State.Writes (heatsinkTrip (deratedStages s inlet outlet)) (commandedStages s inlet outlet) 0 [] :=
    State.Writes.cooling (s := heatsinkTrip (deratedStages s inlet outlet)) _ (mergeCommand_writes _)
  obtain ⟨tachCount, lowRun, highRun, healthy, absenceRun, absenceLogged⟩ := commandedStages_proof s inlet outlet
  obtain ⟨config, threads, -⟩ := (commandedStages_moves s inlet outlet).cooled
  have proof := judgeProof_writes (runs := runs) (command := s.cooling.command) (commandedStages s inlet outlet)
    (by rw [tachCount, lowRun, highRun, cfg_congr config]; exact counted)
  obtain ⟨configP, threadsP, -⟩ := (provenStages_moves s inlet outlet).cooled
  have absence := pumpAbsence_writes (provenStages s inlet outlet)
  have provenCooling : (provenStages s inlet outlet).cooling.absenceRun = s.cooling.absenceRun ∧
      (provenStages s inlet outlet).cooling.absenceLogged = s.cooling.absenceLogged := by
    rw [provenStages, judgeProof_cooling]
    exact ⟨absenceRun, absenceLogged⟩
  have state : (provenStages s inlet outlet).thread.state = t.thread.state :=
    ((pumpAbsence_sameDemands _).trans (capabilityAtEvaluation_sameDemands _)).threadState.symm
  have capable (u : State) : u.Writes (capabilityAtEvaluation u) 0 [] := .of_log (by simp) (by simp)
  have last : (pumpAbsence (provenStages s inlet outlet)).Writes t 0 [] := capable _
  have factor : (formFactor (sensedStages s inlet outlet)).cooling.factor = t.cooling.factor :=
    (coolingStages_factor_eq s inlet outlet).symm
  have armed : (formFactor (sensedStages s inlet outlet)).cooling.derateArmed = s.cooling.derateArmed := by
    rw [formFactor]
    dsimp only
    rw [sensedStages_cooling]
  have own : (formFactor (sensedStages s inlet outlet)).own = s.own :=
    own_congr (sensedStages_moves s inlet outlet).cooled.1
  rw [own, factor, armed] at derate
  rw [own_congr config, cfg_congr config, healthy, tachCount] at proof
  simp only [own_congr configP, state, provenCooling, pumpOwners_nil_congr configP threadsP] at absence
  have derated : s.Writes (deratedStages s inlet outlet) 7 _ :=
    sensed.trans (State.Writes.cooling (s := sensedStages s inlet outlet) _ derate)
  have all := ((((derated.trans tripped).trans merged).trans proof).trans absence).trans last
  refine ⟨_, trip, all.mono (by decide), only, ?_⟩
  simp only [List.append_nil]

/-- R103: the derate note's marks after an evaluation. -/
theorem coolingStages_derate (s : State) (inlet outlet : Option Int) :
    let t := coolingStages s inlet outlet
    (t.cooling.derateArmed, t.cooling.derateCount) =
      if s.cooling.derateArmed = true then
        if t.cooling.factor < 1000 then (false, 0) else (true, s.cooling.derateCount)
      else if t.cooling.factor = 1000 then
        if 100 ≤ s.cooling.derateCount + 1 then (true, 0) else (false, s.cooling.derateCount + 1)
      else (false, 0) := by
  intro t
  have kept : t.cooling.derateArmed = (deratedStages s inlet outlet).cooling.derateArmed ∧
      t.cooling.derateCount = (deratedStages s inlet outlet).cooling.derateCount := by
    change (coolingStages s inlet outlet).cooling.derateArmed = _ ∧
      (coolingStages s inlet outlet).cooling.derateCount = _
    rw [coolingStages_proven, capabilityAtEvaluation_cooling, pumpAbsence_cooling, provenStages, judgeProof_cooling,
      commandedStages, mergeCommand_cooling, formDemands]
    dsimp only
    rw [heatsinkTrip_cooling]
    exact ⟨rfl, rfl⟩
  have factor : (formFactor (sensedStages s inlet outlet)).cooling.factor = t.cooling.factor :=
    (coolingStages_factor_eq s inlet outlet).symm
  have marks : (formFactor (sensedStages s inlet outlet)).cooling.derateArmed = s.cooling.derateArmed ∧
      (formFactor (sensedStages s inlet outlet)).cooling.derateCount = s.cooling.derateCount := by
    rw [formFactor]
    dsimp only
    rw [sensedStages_cooling]
    exact ⟨rfl, rfl⟩
  rw [kept.1, kept.2, deratedStages]
  generalize formFactor (sensedStages s inlet outlet) = v at *
  rw [← marks.1, ← marks.2, ← factor]
  unfold derateNote
  (repeat' split) <;> simp_all [reportNote, enterRecord]

/-- R111: the watch for a missing pump after an evaluation. -/
theorem coolingStages_absence (s : State) (inlet outlet : Option Int) :
    let t := coolingStages s inlet outlet
    (t.thread.state.switching = true ∧ s.pumpOwners = [] →
      t.cooling.absenceRun = min 20 (s.cooling.absenceRun + 1) ∧
      t.cooling.absenceLogged = (s.cooling.absenceLogged || decide (19 ≤ s.cooling.absenceRun))) ∧
    (¬(t.thread.state.switching = true ∧ s.pumpOwners = []) →
      t.cooling.absenceRun = 0 ∧ t.cooling.absenceLogged = false) := by
  intro t
  have eq : t.cooling = (pumpAbsence (provenStages s inlet outlet)).cooling := capabilityAtEvaluation_cooling _
  have state : (provenStages s inlet outlet).thread.state = t.thread.state :=
    ((pumpAbsence_sameDemands _).trans (capabilityAtEvaluation_sameDemands _)).threadState.symm
  obtain ⟨config, threads, -⟩ := (provenStages_moves s inlet outlet).cooled
  obtain ⟨-, -, -, -, absenceRun, absenceLogged⟩ := commandedStages_proof s inlet outlet
  have before : (provenStages s inlet outlet).cooling.absenceRun = s.cooling.absenceRun ∧
      (provenStages s inlet outlet).cooling.absenceLogged = s.cooling.absenceLogged := by
    rw [provenStages, judgeProof_cooling]
    exact ⟨absenceRun, absenceLogged⟩
  rw [eq, ← state]
  simp only [← pumpOwners_nil_congr config threads]
  rw [← before.1, ← before.2]
  generalize provenStages s inlet outlet = p
  have full : countHeld Config.proofRun p.cooling.absenceRun = Config.proofRun ↔ 19 ≤ p.cooling.absenceRun := by
    change min 20 (p.cooling.absenceRun + 1) = 20 ↔ _
    omega
  unfold pumpAbsence
  refine ⟨fun alone => ?_, fun other => ?_⟩
  · rw [if_pos alone]
    dsimp only
    split
    case isTrue due =>
      have late := full.mp due.1
      simp [countHeld, Config.proofRun, late]
    case isFalse early =>
      refine ⟨rfl, ?_⟩
      cases logged : p.cooling.absenceLogged with
      | true => simp
      | false =>
        have soon : ¬19 ≤ p.cooling.absenceRun := fun late => early ⟨full.mpr late, logged⟩
        simp [soon]
  · rw [if_neg other]
    exact ⟨rfl, rfl⟩

theorem Sensor.reports_of {x : Sensor} {reading : Option Int}
    (out : reading = none ∨ ∃ v, reading = some v ∧ (v < -400 ∨ 1500 < v))
    (fresh : x.state = .notRead ∨ x.state = .valid) : x.reports reading = true := by
  unfold Sensor.reports
  rw [classifyReading_none out]
  rcases fresh with state | state <;> simp [state]

theorem Sensor.not_reports_of {x : Sensor} {reading : Option Int}
    (in_ : (∃ v, reading = some v ∧ -400 ≤ v ∧ v ≤ 1500) ∨ x.state = .holding ∨ x.state = .failed) :
    ¬x.reports reading = true := by
  unfold Sensor.reports
  rcases in_ with ⟨v, rfl, low, high⟩ | state | state
  · rw [classifyReading_some low high]
    simp
  · simp [state]
  · simp [state]

/-- R100: a sensor's report, given that the records written of its code are those of its condition. -/
theorem sensor_judged {ws : List Written} {before : Sensor} {reading : Option Int} {code : Nat}
    (writes : s.Writes t 16 ws) (log : s.LogOpen)
    (there : before.reports reading = true → warnRecord s.own clsThermal code (reading.getD (-32768)) ∈ ws)
    (only : ∀ w ∈ ws, w.cls = clsThermal → w.code = code → before.reports reading = true) :
    (((reading = none ∨ ∃ v, reading = some v ∧ (v < -400 ∨ 1500 < v)) ∧
        (before.state = .notRead ∨ before.state = .valid)) →
      s.Reports t clsThermal code 1 1 (reading.getD (-32768))) ∧
    (((∃ v, reading = some v ∧ -400 ≤ v ∧ v ≤ 1500) ∨ before.state = .holding ∨ before.state = .failed) →
      s.NoReport t clsThermal code) :=
  ⟨fun fails => writes.reports log (there (Sensor.reports_of fails.1 fails.2)),
    fun passes => writes.noReport log (by decide) fun w mem hcls hcode =>
      Sensor.not_reports_of passes (only w mem hcls hcode)⟩

/-- R110: twenty low evaluations in a row. -/
theorem proofRuns_low_full (count minimum command low high : Nat) :
    (proofRuns count minimum command low high).1 = 20 ↔ count < minimum ∧ 30 ≤ command ∧ 19 ≤ low := by
  unfold proofRuns
  split
  case isTrue few =>
    split
    case isTrue driven =>
      change min 20 (low + 1) = 20 ↔ _
      omega
    case isFalse idle => simp [idle]
  case isFalse enough => simp [enough]

theorem heatsinkWrites_iff {w : Written} : w ∈ s.heatsinkWrites ↔ ∃ reading, s.heatsinkReading = some reading ∧
    s.cooling.heatsink.reports reading = true ∧ w = warnRecord s.own clsThermal 2 (reading.getD (-32768)) := by
  unfold State.heatsinkWrites
  cases s.heatsinkReading with
  | none => simp
  | some reading => simp [mem_writtenIf]

/-- Settles O36: each report by the record its stage writes, and the marks that its run leaves. -/
theorem coolingReports : Obligations.CoolingReports := by
  intro s t0 inlet outlet on timer due log
  refine ⟨_, exec_coolingEvaluation_due inlet outlet on timer due, ?_⟩
  generalize counted : proofRuns s.cooling.tachCount s.cfg.tachMinimum s.cooling.command s.cooling.lowRun
    s.cooling.highRun = runs
  obtain ⟨ws, trip, writes, only, eq⟩ := coolingStages_writes (s.evaluating t0) inlet outlet counted
  have derate := coolingStages_derate (s.evaluating t0) inlet outlet
  obtain ⟨alone, other⟩ := coolingStages_absence (s.evaluating t0) inlet outlet
  generalize coolingStages (s.evaluating t0) inlet outlet = t at *
  have writes : s.Writes t 16 ws := writes
  have start : (s.evaluating t0).heatsinkWrites = s.heatsinkWrites := rfl
  rw [start] at eq
  change ws = s.heatsinkWrites ++
    writtenIf (s.cooling.inlet.reports inlet = true) (warnRecord s.own clsThermal 3 (inlet.getD (-32768))) ++
    writtenIf (s.cooling.outlet.reports outlet = true) (warnRecord s.own clsThermal 5 (outlet.getD (-32768))) ++
    writtenIf (s.cooling.derateArmed = true ∧ t.cooling.factor < 1000)
      (.mk s.own clsThermal 4 0 1 (some t.cooling.factor) none) ++ trip ++
    writtenIf (s.cfg.role ≠ .none ∧ runs.1 = 20 ∧ s.cooling.healthy = true)
      (warnRecord s.own clsCooling (if s.cfg.role = .pump then 1 else 2) s.cooling.tachCount) ++
    writtenIf ((t.thread.state.switching = true ∧ s.pumpOwners = []) ∧ 19 ≤ s.cooling.absenceRun ∧
      s.cooling.absenceLogged = false) (warnRecord s.own clsCooling 3 0) at eq
  change (t.cooling.derateArmed, t.cooling.derateCount) =
    (if s.cooling.derateArmed = true then
      if t.cooling.factor < 1000 then (false, 0) else (true, s.cooling.derateCount)
    else if t.cooling.factor = 1000 then
      if 100 ≤ s.cooling.derateCount + 1 then (true, 0) else (false, s.cooling.derateCount + 1)
    else (false, 0)) at derate
  have full : runs.1 = 20 ↔ s.cooling.tachCount < s.cfg.tachMinimum ∧ 30 ≤ s.cooling.command ∧
    19 ≤ s.cooling.lowRun := by
    rw [← counted]
    exact proofRuns_low_full ..
  rw [ThreadState.switching_iff] at alone other
  have mem (w : Written) : w ∈ ws ↔
      (∃ reading, s.heatsinkReading = some reading ∧ s.cooling.heatsink.reports reading = true ∧
        w = warnRecord s.own clsThermal 2 (reading.getD (-32768))) ∨
      (s.cooling.inlet.reports inlet = true ∧ w = warnRecord s.own clsThermal 3 (inlet.getD (-32768))) ∨
      (s.cooling.outlet.reports outlet = true ∧ w = warnRecord s.own clsThermal 5 (outlet.getD (-32768))) ∨
      ((s.cooling.derateArmed = true ∧ t.cooling.factor < 1000) ∧
        w = .mk s.own clsThermal 4 0 1 (some t.cooling.factor) none) ∨
      w ∈ trip ∨
      ((s.cfg.role ≠ .none ∧ runs.1 = 20 ∧ s.cooling.healthy = true) ∧
        w = warnRecord s.own clsCooling (if s.cfg.role = .pump then 1 else 2) s.cooling.tachCount) ∨
      ((((t.thread.state = .sync ∨ t.thread.state = .run ∨ t.thread.state = .rideThrough) ∧ s.pumpOwners = []) ∧
        19 ≤ s.cooling.absenceRun ∧ s.cooling.absenceLogged = false) ∧ w = warnRecord s.own clsCooling 3 0) := by
    simp only [eq, List.mem_append, mem_writtenIf, heatsinkWrites_iff, or_assoc, ThreadState.switching_iff]
  have kinds (w : Written) (there : w ∈ ws) :
      (w.cls = clsThermal → w.code = 2 →
        ∃ reading, s.heatsinkReading = some reading ∧ s.cooling.heatsink.reports reading = true) ∧
      (w.cls = clsThermal → w.code = 3 → s.cooling.inlet.reports inlet = true) ∧
      (w.cls = clsThermal → w.code = 5 → s.cooling.outlet.reports outlet = true) ∧
      (w.cls = clsThermal → w.code = 4 → s.cooling.derateArmed = true ∧ t.cooling.factor < 1000) ∧
      (w.cls = clsCooling → w.code = 1 → s.cfg.role = .pump ∧ runs.1 = 20 ∧ s.cooling.healthy = true) ∧
      (w.cls = clsCooling → w.code = 2 → s.cfg.role = .fan ∧ runs.1 = 20 ∧ s.cooling.healthy = true) ∧
      (w.cls = clsCooling → w.code = 3 →
        ((t.thread.state = .sync ∨ t.thread.state = .run ∨ t.thread.state = .rideThrough) ∧ s.pumpOwners = []) ∧
          19 ≤ s.cooling.absenceRun ∧ s.cooling.absenceLogged = false) := by
    rcases (mem w).mp there with ⟨reading, read, holds, rfl⟩ | ⟨holds, rfl⟩ | ⟨holds, rfl⟩ | ⟨holds, rfl⟩ | tripped |
      ⟨⟨owner, holds⟩, rfl⟩ | ⟨holds, rfl⟩
    · simp [warnRecord, clsThermal, clsCooling, read, holds]
    · simp [warnRecord, clsThermal, clsCooling, holds]
    · simp [warnRecord, clsThermal, clsCooling, holds]
    · simp [clsThermal, clsCooling, holds]
    · obtain ⟨cls, code⟩ := only w tripped
      simp [cls, code, clsThermal, clsCooling]
    · cases role : s.cfg.role <;> simp_all [warnRecord, clsThermal, clsCooling]
    · simp only [warnRecord, clsThermal, clsCooling]
      simp [holds]
  have heatsink {reading : Option Int} (read : s.heatsinkReading = some reading) :=
    sensor_judged (before := s.cooling.heatsink) (reading := reading) writes log
      (fun holds => (mem _).mpr (.inl ⟨reading, read, holds, rfl⟩))
      (fun w there cls code => by
        obtain ⟨reading', read', holds⟩ := (kinds w there).1 cls code
        rwa [Option.some.inj (read.symm.trans read')])
  refine ⟨⟨sensor_judged writes log (fun holds => (mem _).mpr (.inr (.inl ⟨holds, rfl⟩)))
        (fun w there => (kinds w there).2.1),
      sensor_judged writes log (fun holds => (mem _).mpr (.inr (.inr (.inl ⟨holds, rfl⟩))))
        (fun w there => (kinds w there).2.2.1), fun absent => ?_,
      fun expired => heatsink (heatsinkReading_expired expired),
      fun r reply recorded => heatsink (heatsinkReading_some reply recorded)⟩, ?_⟩
  · refine writes.noReport log (by decide) fun w there cls code => ?_
    obtain ⟨reading, read, -⟩ := (kinds w there).1 cls code
    rw [heatsinkReading_absent absent] at read
    exact nomatch read
  have derated (w : Written) (there : w ∈ ws) := (kinds w there).2.2.2.1
  have pump (w : Written) (there : w ∈ ws) := (kinds w there).2.2.2.2.1
  have fan (w : Written) (there : w ∈ ws) := (kinds w there).2.2.2.2.2.1
  have absent (w : Written) (there : w ∈ ws) := (kinds w there).2.2.2.2.2.2
  have note {armed : Bool} {count : Nat} (mark : (t.cooling.derateArmed, t.cooling.derateCount) = (armed, count)) :
      t.cooling.derateArmed = armed ∧ t.cooling.derateCount = count := Prod.mk.inj mark
  have low_ne (low : t.cooling.factor < 1000) : t.cooling.factor ≠ 1000 := Nat.ne_of_lt low
  refine ⟨fun armed low => ⟨writes.reports log ((mem _).mpr (.inr (.inr (.inr (.inl ⟨⟨armed, low⟩, rfl⟩))))), ?_⟩,
    fun out => writes.noReport log (by decide) fun w there cls code => ?_, fun armed whole => ?_, fun spent low => ?_,
    fun spent whole few => ?_, fun spent whole many => ?_, ?_, ?_⟩
  · exact note (by rw [derate, if_pos armed, if_pos low])
  · obtain ⟨armed, low⟩ := derated w there cls code
    rcases out with spent | whole
    · exact Bool.false_ne_true (spent.symm.trans armed)
    · exact low_ne low whole
  · exact (note (by rw [derate, if_pos armed, if_neg (by omega)])).1
  · exact note (by rw [derate, if_neg (by simp [spent]), if_neg (low_ne low)])
  · exact note (by rw [derate, if_neg (by simp [spent]), if_pos whole, if_neg (by omega)])
  · exact note (by rw [derate, if_neg (by simp [spent]), if_pos whole, if_pos many])
  · simp only [full, and_assoc] at pump fan
    have stalled (code : Nat) (role : s.cfg.role ≠ .none) (its : (if s.cfg.role = .pump then 1 else 2) = code)
        (stalls : s.cooling.tachCount < s.cfg.tachMinimum ∧ 30 ≤ s.cooling.command ∧ 19 ≤ s.cooling.lowRun ∧
          s.cooling.healthy = true) : s.Reports t clsCooling code 1 1 s.cooling.tachCount := by
      obtain ⟨few, driven, late, healthy⟩ := stalls
      exact writes.reports log ((mem _).mpr (.inr (.inr (.inr (.inr (.inr (.inl
        ⟨⟨role, full.mpr ⟨few, driven, late⟩, healthy⟩, its ▸ rfl⟩)))))))
    refine ⟨fun role stalls => stalled 1 (by simp [role]) (by simp [role]) stalls,
      fun role stalls => stalled 2 (by simp [role]) (by simp [role]) stalls,
      fun out => writes.noReport log (by decide) fun w there cls code => ?_,
      fun out => writes.noReport log (by decide) fun w there cls code => ?_⟩
    · exact out.elim (fun other => other (pump w there cls code).1) (fun calm => calm (pump w there cls code).2)
    · exact out.elim (fun other => other (fan w there cls code).1) (fun calm => calm (fan w there cls code).2)
  · refine ⟨fun only => (alone only).1, other, fun only late fresh =>
      ⟨writes.reports log ((mem _).mpr (.inr (.inr (.inr (.inr (.inr (.inr ⟨⟨only, late, fresh⟩, rfl⟩))))))), ?_⟩,
      fun only early => ?_, fun out => writes.noReport log (by decide) fun w there cls code => ?_⟩
    · rw [(alone only).2]
      simp [State.evaluating, late]
    · rw [(alone only).2]
      change (s.cooling.absenceLogged || decide (19 ≤ s.cooling.absenceRun)) = _
      simp [Nat.not_le.mpr early]
    · obtain ⟨only, late, fresh⟩ := absent w there cls code
      rcases out with other | early | logged
      · exact other only
      · exact Nat.not_le.mpr early late
      · exact Bool.false_ne_true (fresh.symm.trans logged)

end Sys2Proof.Machine
end

section
/-! The edges of the vane and the anemometer (R115, R116, R119), and what an evaluation's own stages make of the unit
(R117 to R121). -/
namespace Sys2Proof.Machine
variable {s t u : State}

/-! ## The edges -/

theorem exec_vaneRisingEdge (s : State) : exec .vaneRisingEdge s = .next (vaneRising s) := rfl
theorem exec_vaneFallingEdge (s : State) : exec .vaneFallingEdge s = .next (vaneFalling s) := rfl
theorem exec_vaneWrap (s : State) : exec .vaneWrap s = .next (vaneWrap s) := rfl
theorem exec_anemometerEdge (s : State) : exec .anemometerEdge s = .next (anemometerEdge s) := rfl

theorem vaneRising_on (on : s.running = true) (vane : s.cfg.vane = true) :
    vaneRising s = { s with wind := (s.wind.closePeriod (s.now / 40 % 65536)).openPeriod s.now } := if_pos ⟨on, vane⟩

theorem vaneFalling_on (on : s.running = true) (vane : s.cfg.vane = true) :
    vaneFalling s = { s with wind := s.wind.fall (s.now / 40 % 65536) } := if_pos ⟨on, vane⟩

theorem anemometerEdge_on (on : s.running = true) (anemometer : s.cfg.anemometer = true) :
    anemometerEdge s = { s with wind := s.wind.edge s.cfg.prescaler } := if_pos ⟨on, anemometer⟩

section periods
variable {w : WindUnit} {a h : Nat} (capture : Nat)

theorem WindUnit.closePeriod_none (none : w.periodOpen = none) : w.closePeriod capture = w := by
  rw [closePeriod, none]

theorem WindUnit.closePeriod_overrun (started : w.periodOpen = some a) (out : w.highCapture = none ∨ w.broken = true) :
    w.closePeriod capture = w.overrun := by
  rw [closePeriod, started]
  cases high : w.highCapture with
  | none => rfl
  | some h =>
    have broken : w.broken = true := out.resolve_left (by simp [high])
    dsimp only
    rw [if_pos broken]

theorem WindUnit.closePeriod_sample (started : w.periodOpen = some a) (high : w.highCapture = some h)
    (whole : w.broken = false) :
    w.closePeriod capture = w.sample ((capture + 65536 - a) % 65536) ((h + 65536 - a) % 65536) := by
  rw [closePeriod, started, high]
  dsimp only
  rw [if_neg (by simp [whole])]
  rfl

theorem WindUnit.sample_valid {p high : Nat} (valid : 500 ≤ p ∧ p ≤ 2000 ∧ p ≤ 50 * high ∧ 50 * high ≤ 49 * p) :
    w.sample p high = { w with
      sampleSum := w.sampleSum +
        (if 3600 * high / p < 1800 then ((3600 * high / p : Nat) : Int) else ((3600 * high / p : Nat) : Int) - 3600),
      sampleCount := w.sampleCount + 1 } := if_pos (decide_eq_true valid)

theorem WindUnit.sample_invalid {p high : Nat}
    (invalid : p < 500 ∨ 2000 < p ∨ 50 * high < p ∨ 49 * p < 50 * high) : w.sample p high = w :=
  if_neg fun valid => by
    obtain ⟨low, long, least, most⟩ := of_decide_eq_true valid
    omega

theorem WindUnit.fall_none (none : w.periodOpen = none) : w.fall capture = w := by
  rw [fall, none]

theorem WindUnit.fall_first (started : w.periodOpen.isSome = true) (first : w.highCapture = none) :
    w.fall capture = { w with highCapture := some capture } := by
  obtain ⟨a, start⟩ := Option.isSome_iff_exists.mp started
  rw [fall, start, first]

theorem WindUnit.fall_second (started : w.periodOpen.isSome = true) (second : w.highCapture.isSome = true) :
    w.fall capture = { w with broken := true } := by
  obtain ⟨a, start⟩ := Option.isSome_iff_exists.mp started
  obtain ⟨h, high⟩ := Option.isSome_iff_exists.mp second
  rw [fall, start, high]

end periods

/-- Settles O40: each edge by the period it finds open and its capture. -/
theorem windEdgesTaken : Obligations.WindEdgesTaken := by
  refine ⟨fun s on vane => ?_, fun s vane => ⟨?_, ?_, ?_⟩, fun s on =>
    ⟨fun anemometer => ?_, fun anemometer early => ?_,
    fun anemometer full => ?_⟩⟩
  · rw [exec_vaneRisingEdge, exec_vaneFallingEdge, exec_vaneWrap, vaneRising_on on vane, vaneFalling_on on vane]
    refine ⟨fun none => ?_, fun a started out => ?_, fun a h started high whole => ⟨fun valid => ?_, fun invalid => ?_⟩,
      fun none => ?_, fun started first => ?_, fun started second => ?_, fun started late => ?_, fun early => ?_⟩
    · rw [WindUnit.closePeriod_none _ none]
      rfl
    · rw [WindUnit.closePeriod_overrun _ started out]
      rfl
    · rw [WindUnit.closePeriod_sample _ started high whole, WindUnit.sample_valid valid]
      rfl
    · rw [WindUnit.closePeriod_sample _ started high whole, WindUnit.sample_invalid invalid]
      rfl
    · rw [WindUnit.fall_none _ none]
    · rw [WindUnit.fall_first _ started first]
    · rw [WindUnit.fall_second _ started second]
    · exact congrArg Host.Outcome.next (if_pos ⟨on, vane, started, late⟩)
    · refine congrArg Host.Outcome.next (if_neg fun due => ?_)
      exact Nat.not_le.mpr early due.2.2.2
  · exact congrArg Host.Outcome.next (if_neg (by simp [vane]))
  · exact congrArg Host.Outcome.next (if_neg (by simp [vane]))
  · exact congrArg Host.Outcome.next (if_neg (by simp [vane]))
  · exact congrArg Host.Outcome.next (if_neg (by simp [anemometer]))
  · rw [exec_anemometerEdge, anemometerEdge_on on anemometer, WindUnit.edge, if_neg (Nat.not_le.mpr early)]
  · rw [exec_anemometerEdge, anemometerEdge_on on anemometer, WindUnit.edge, if_pos full]
    rfl

end Sys2Proof.Machine
end

section
/-! What an evaluation's own stages make of the Wind Input Unit (R117 to R121), and what it writes (R118, R120 to R122).
-/
namespace Sys2Proof.Machine
variable {s t u : State}

/-! ## Stages 1 to 3 as steps of the unit -/

/-- R117, R118: stage 1 on the unit. -/
def WindUnit.vaneStep (vane : Bool) (w : WindUnit) : WindUnit :=
  if vane = false then w
  else if 20 ≤ w.sampleCount then w.validInterval.clearInterval
  else { w.invalidInterval.clearInterval with vaneValid := w.vaneValid && decide (w.invalidRun + 1 < 10) }

/-- R121: a read that fails the range or gives none. -/
def badTwist (encoder : Option Int) : Prop := encoder = none ∨ ∃ v, encoder = some v ∧ (v < -14400 ∨ 14400 < v)

/-- R121: the detail of a failed read. -/
def twistDetail (encoder : Option Int) : Int := (encoder.map (clip · 32767)).getD (-32768)

theorem filter_goodTwist_some {v : Int} (low : -14400 ≤ v) (high : v ≤ 14400) :
    (some v).filter goodTwist = some v := by
  simp [goodTwist, low, high]

theorem filter_goodTwist_none_iff (encoder : Option Int) : encoder.filter goodTwist = none ↔ badTwist encoder := by
  unfold badTwist
  cases encoder with
  | none => simp
  | some v =>
    simp only [Option.filter_eq_none_iff, Option.some.injEq, forall_eq', goodTwist, decide_eq_true_eq, reduceCtorEq,
      false_or, exists_eq_left']
    omega

/-- R121: stage 2 on the unit. -/
def WindUnit.twistStep (fitted : Bool) (encoder : Option Int) (w : WindUnit) : WindUnit :=
  if fitted = false then w
  else { w with ownTwist := encoder.filter goodTwist,
                twistStatus := if (encoder.filter goodTwist).isSome then .valid else .invalid }

/-- R120: the judging of a window close on the unit. -/
def WindUnit.judged (own : Nat) (suspect : Bool) (w : WindUnit) : WindUnit :=
  if w.speedStatus = .valid then
    if suspect = true then
      if 60 ≤ w.suspectRun + 1 then { w with speedStatus := .invalid, suspectRun := 0 }
      else { w with suspectRun := w.suspectRun + 1 }
    else { w with suspectRun := 0 }
  else if w.speedStatus = .invalid then
    if 10 ≤ own then
      if 10 ≤ w.speedRecovery + 1 then { w with speedStatus := .valid, speedRecovery := 0 }
      else { w with speedRecovery := w.speedRecovery + 1 }
    else { w with speedRecovery := 0 }
  else w

/-- R119, R120: stage 3 on the unit. -/
def WindUnit.speedStep (fitted : Bool) (prescaler factor : Nat) (peer : Option Nat) (w : WindUnit) : WindUnit :=
  if fitted = false then w
  else if 10 ≤ w.windowCount + 1 then
    (w.closeWindow prescaler factor).judged (windowSpeed w.edgeCount prescaler factor)
      (suspectSpeed (windowSpeed w.edgeCount prescaler factor) peer)
  else { w with windowCount := w.windowCount + 1 }

/-- R118: the interval that is the tenth invalid one in a row of a valid vane. -/
def WindUnit.vaneLost (vane : Bool) (w : WindUnit) : Prop :=
  vane = true ∧ w.sampleCount < 20 ∧ 9 ≤ w.invalidRun ∧ w.vaneValid = true

theorem tenthInvalid_iff (w : WindUnit) : (w.invalidInterval.clearInterval.invalidRun = 10 ∧
    w.invalidInterval.clearInterval.vaneValid = true) ↔ 9 ≤ w.invalidRun ∧ w.vaneValid = true := by
  change min 10 (w.invalidRun + 1) = 10 ∧ w.vaneValid = true ↔ _
  have tenth : min 10 (w.invalidRun + 1) = 10 ↔ 9 ≤ w.invalidRun := by omega
  rw [tenth]

theorem closeVaneInterval_wind (s : State) : (closeVaneInterval s).wind = s.wind.vaneStep s.cfg.vane := by
  unfold closeVaneInterval WindUnit.vaneStep
  split
  · rfl
  split
  · rfl
  dsimp only
  split
  case isTrue lost =>
    obtain ⟨late, valid⟩ := (tenthInvalid_iff s.wind).mp lost
    have out : (s.wind.vaneValid && decide (s.wind.invalidRun + 1 < 10)) = false := by simp; omega
    simp [out]
  case isFalse kept =>
    have same : (s.wind.vaneValid && decide (s.wind.invalidRun + 1 < 10)) = s.wind.vaneValid := by
      rw [tenthInvalid_iff] at kept
      cases valid : s.wind.vaneValid with
      | false => rfl
      | true => simp [valid] at kept ⊢; omega
    rw [same]
    rfl

theorem readTwist_wind (encoder : Option Int) (s : State) :
    (readTwist encoder s).wind = s.wind.twistStep s.cfg.encoder encoder := by
  unfold readTwist WindUnit.twistStep
  split
  · rfl
  · cases read : encoder.filter goodTwist with
    | some v => rfl
    | none =>
      dsimp only
      split <;> simp

theorem judgeSpeed_wind (own : Nat) (s : State) :
    (judgeSpeed own s).wind = s.wind.judged own (suspectSpeed own s.peerSpeed) := by
  unfold judgeSpeed WindUnit.judged
  cases status : s.wind.speedStatus with
  | none => rfl
  | valid =>
    simp only [if_pos]
    (repeat' split) <;> simp [status]
  | invalid =>
    simp only [reduceCtorEq, if_false, if_pos]
    (repeat' split) <;> simp [status]

theorem closeAnemometerWindow_wind (s : State) : (closeAnemometerWindow s).wind =
    s.wind.speedStep s.cfg.anemometer s.cfg.prescaler s.cfg.speedFactor s.peerSpeed := by
  unfold closeAnemometerWindow WindUnit.speedStep
  dsimp only
  split
  · rfl
  · split
    · exact judgeSpeed_wind ..
    · rfl

/-! ## The evaluation on the unit -/

/-- The part that an evaluation's own stages may write. -/
def windPart (p : Part) : Prop := p = .wind

theorem Moves.blown (moves : Moves windPart s t) :
    t.config = s.config ∧ t.table.threads = s.table.threads ∧ t.now = s.now := by
  have framed := moves.framed
  exact ⟨framed.config (by simp [windPart]), framed.threads (by simp [windPart]) (by simp [windPart])
    (by simp [windPart]),
    framed.now⟩

theorem closeVaneInterval_blown (s : State) : Moves windPart s (closeVaneInterval s) :=
  closeVaneInterval_moves (.refl s) rfl

theorem readTwist_blown (encoder : Option Int) (s : State) :
    Moves windPart s (readTwist encoder (closeVaneInterval s)) :=
      readTwist_moves (closeVaneInterval_blown s) encoder rfl

theorem ownStages_blown (s : State) (encoder : Option Int) : Moves windPart s (ownStages s encoder) :=
  ownStages_moves (.refl s) encoder rfl

theorem peerSpeed_congr (config : t.config = s.config) (threads : t.table.threads = s.table.threads) :
    t.peerSpeed = s.peerSpeed := by
  unfold State.peerSpeed
  rw [liveRecords_congr config threads]

/-- R117 to R121: the unit after the stages of its own inputs. -/
def State.windOwn (s : State) (encoder : Option Int) : WindUnit :=
  ((s.wind.vaneStep s.cfg.vane).twistStep s.cfg.encoder encoder).speedStep s.cfg.anemometer s.cfg.prescaler
    s.cfg.speedFactor s.peerSpeed

theorem ownStages_wind (s : State) (encoder : Option Int) : (ownStages s encoder).wind = s.windOwn encoder := by
  obtain ⟨config, threads, -⟩ := (readTwist_blown encoder s).blown
  obtain ⟨config', -⟩ := (closeVaneInterval_blown s).blown
  unfold ownStages State.windOwn
  rw [closeAnemometerWindow_wind, readTwist_wind, closeVaneInterval_wind, cfg_congr config, cfg_congr config',
    peerSpeed_congr config threads]

/-! ## The fields of each stage -/

section fields
variable (w : WindUnit) (own : Nat) (suspect fitted : Bool) (prescaler factor : Nat) (peer : Option Nat)
  (encoder : Option Int)

/-- The vane's part of the unit, with the timer. -/
def WindUnit.vanePart (w : WindUnit) :=
  (w.timer, w.sampleSum, w.sampleCount, w.overruns, w.filter, w.direction, w.seedDue, w.vaneValid, w.invalidRun,
    w.runOverruns)

/-- The anemometer's part. -/
def WindUnit.speedPart (w : WindUnit) :=
  (w.windowCount, w.edgeCount, w.ownSpeed, w.speedStatus, w.suspectRun, w.speedRecovery)

/-- The encoder's part. -/
def WindUnit.twistPart (w : WindUnit) := (w.ownTwist, w.twistStatus)

theorem WindUnit.judged_parts : (w.judged own suspect).vanePart = w.vanePart ∧
    (w.judged own suspect).twistPart = w.twistPart ∧ (w.judged own suspect).agreeing = w.agreeing := by
  unfold judged
  (repeat' split) <;> exact ⟨rfl, rfl, rfl⟩

theorem WindUnit.speedStep_parts : (w.speedStep fitted prescaler factor peer).vanePart = w.vanePart ∧
    (w.speedStep fitted prescaler factor peer).twistPart = w.twistPart ∧
    (w.speedStep fitted prescaler factor peer).agreeing = w.agreeing := by
  unfold speedStep
  split
  · exact ⟨rfl, rfl, rfl⟩
  · split
    · exact judged_parts (w.closeWindow prescaler factor) ..
    · exact ⟨rfl, rfl, rfl⟩

theorem WindUnit.twistStep_parts : (w.twistStep fitted encoder).vanePart = w.vanePart ∧
    (w.twistStep fitted encoder).speedPart = w.speedPart ∧ (w.twistStep fitted encoder).agreeing = w.agreeing := by
  unfold twistStep
  split <;> exact ⟨rfl, rfl, rfl⟩

theorem WindUnit.vaneStep_parts : (w.vaneStep fitted).speedPart = w.speedPart ∧
    (w.vaneStep fitted).twistPart = w.twistPart ∧ (w.vaneStep fitted).agreeing = w.agreeing := by
  unfold vaneStep
  (repeat' split) <;> exact ⟨rfl, rfl, rfl⟩

/-- R122 to R124: the last stages move the shared values and the storm's part alone. -/
theorem WindUnit.shared_parts (sources : List WindSource) (mode : PlantMode) :
    ((w.sharing sources).stormStep mode).vanePart = w.vanePart ∧
    ((w.sharing sources).stormStep mode).speedPart = w.speedPart ∧
    ((w.sharing sources).stormStep mode).twistPart = w.twistPart := by
  rw [stormStep_eq]
  (repeat' split) <;> exact ⟨rfl, rfl, rfl⟩

/-- R119, R120: stage 3 judges the anemometer's part by that part alone. -/
theorem WindUnit.judged_speedPart {v : WindUnit} (same : v.speedPart = w.speedPart) :
    (v.judged own suspect).speedPart = (w.judged own suspect).speedPart := by
  simp only [speedPart, Prod.mk.injEq] at same
  obtain ⟨windowCount, edgeCount, ownSpeed, status, suspectRun, recovery⟩ := same
  unfold judged
  rw [status, suspectRun, recovery]
  (repeat' split) <;> simp [speedPart, *]

theorem WindUnit.speedStep_speedPart {v : WindUnit} (same : v.speedPart = w.speedPart) :
    (v.speedStep fitted prescaler factor peer).speedPart = (w.speedStep fitted prescaler factor peer).speedPart := by
  have fields := same
  simp only [speedPart, Prod.mk.injEq] at fields
  obtain ⟨windowCount, edgeCount, ownSpeed, status, suspectRun, recovery⟩ := fields
  have closed : (v.closeWindow prescaler factor).speedPart = (w.closeWindow prescaler factor).speedPart := by
    simp [closeWindow, speedPart, *]
  unfold speedStep
  rw [windowCount, edgeCount]
  split
  · exact same
  · split
    · exact judged_speedPart _ _ _ closed
    · simp [speedPart, *]

end fields

/-! ## The evaluation -/

/-- The state in which an evaluation runs its stages, its timer set again. -/
def State.blowing (s : State) (t0 : Nat) : State :=
  { s with wind := { s.wind with timer := some (t0 + Config.evaluation) } }

theorem exec_windEvaluation_begun {t0 : Nat} (encoder : Option Int) (on : s.running = true)
    (timer : s.wind.timer = some t0) (due : t0 + Config.evaluation ≤ s.now) :
    exec (.windEvaluation encoder) s = .next (windStages (s.blowing t0) encoder) := by
  have again : s.wind.timer.again Config.evaluation = some (t0 + Config.evaluation) := by
    rw [timer]
    rfl
  rw [exec_windEvaluation, windEvaluation_due encoder on timer due, again]
  rfl

/-- What an evaluation makes of each input's part: what its own stage makes of it. -/
theorem windStages_parts (s : State) (encoder : Option Int) :
    (windStages s encoder).wind.vanePart = (s.wind.vaneStep s.cfg.vane).vanePart ∧
    (windStages s encoder).wind.speedPart =
      (s.wind.speedStep s.cfg.anemometer s.cfg.prescaler s.cfg.speedFactor s.peerSpeed).speedPart ∧
    (windStages s encoder).wind.twistPart = (s.wind.twistStep s.cfg.encoder encoder).twistPart := by
  obtain ⟨vane, speed, twist⟩ := (s.windOwn encoder).shared_parts (windStages s encoder).windSources s.demand.mode
  have wind : (windStages s encoder).wind =
      ((s.windOwn encoder).sharing (windStages s encoder).windSources).stormStep s.demand.mode := by
    rw [← ownStages_wind]
    exact windStages_wind s encoder
  rw [wind, vane, speed, twist]
  generalize stage1 : s.wind.vaneStep s.cfg.vane = w1
  have parts1 := s.wind.vaneStep_parts s.cfg.vane
  have parts2 := w1.twistStep_parts s.cfg.encoder encoder
  have parts3 := (w1.twistStep s.cfg.encoder encoder).speedStep_parts s.cfg.anemometer s.cfg.prescaler s.cfg.speedFactor
    s.peerSpeed
  rw [stage1] at parts1
  unfold State.windOwn
  rw [stage1]
  refine ⟨parts3.1.trans parts2.1, WindUnit.speedStep_speedPart _ _ _ _ _ (parts2.2.1.trans parts1.1), ?_⟩
  rw [parts3.2.1]
  have same := parts1.2.1
  simp only [WindUnit.twistPart, Prod.mk.injEq] at same
  unfold WindUnit.twistStep WindUnit.twistPart
  split <;> simp [same]

end Sys2Proof.Machine
end

section
/-! The settled statements of the wind inputs' evaluation (R117 to R122). -/
namespace Sys2Proof.Machine
variable {s t u : State}

section steps
variable {w : WindUnit} {encoder : Option Int} {prescaler factor : Nat} {peer : Option Nat}

theorem WindUnit.vaneStep_timer (w : WindUnit) (vane : Bool) : (w.vaneStep vane).timer = w.timer := by
  unfold vaneStep
  (repeat' split) <;> rfl

theorem WindUnit.vaneStep_valid (many : 20 ≤ w.sampleCount) : w.vaneStep true = w.validInterval.clearInterval := by
  rw [vaneStep, if_neg (by simp), if_pos many]

theorem WindUnit.vaneStep_invalid (few : w.sampleCount < 20) : w.vaneStep true =
    { w.invalidInterval.clearInterval with vaneValid := w.vaneValid && decide (w.invalidRun + 1 < 10) } := by
  rw [vaneStep, if_neg (by simp), if_neg (Nat.not_le.mpr few)]

theorem WindUnit.twistStep_good {v : Int} (low : -14400 ≤ v) (high : v ≤ 14400) :
    w.twistStep true (some v) = { w with ownTwist := some v, twistStatus := .valid } := by
  rw [twistStep, if_neg (by simp), filter_goodTwist_some low high]
  rfl

theorem WindUnit.twistStep_bad (bad : badTwist encoder) :
    w.twistStep true encoder = { w with ownTwist := none, twistStatus := .invalid } := by
  rw [twistStep, if_neg (by simp), (filter_goodTwist_none_iff encoder).mpr bad]
  rfl

theorem WindUnit.speedStep_within (early : w.windowCount + 1 < 10) :
    w.speedStep true prescaler factor peer = { w with windowCount := w.windowCount + 1 } := by
  rw [speedStep, if_neg (by simp), if_neg (Nat.not_le.mpr early)]

theorem WindUnit.speedStep_closes (due : 10 ≤ w.windowCount + 1) : w.speedStep true prescaler factor peer =
    (w.closeWindow prescaler factor).judged (windowSpeed w.edgeCount prescaler factor)
      (suspectSpeed (windowSpeed w.edgeCount prescaler factor) peer) := by
  rw [speedStep, if_neg (by simp), if_pos due]

theorem WindUnit.judged_window (w : WindUnit) (own : Nat) (suspect : Bool) :
    (w.judged own suspect).windowCount = w.windowCount ∧ (w.judged own suspect).edgeCount = w.edgeCount ∧
    (w.judged own suspect).ownSpeed = w.ownSpeed := by
  unfold judged
  (repeat' split) <;> exact ⟨rfl, rfl, rfl⟩

/-- R120: fewer than sixty suspect closes leave the status VALID. -/
theorem WindUnit.judged_stays {own : Nat} {suspect : Bool} (valid : w.speedStatus = .valid)
    (few : suspect = true → w.suspectRun < 59) :
    (w.judged own suspect).speedStatus = .valid ∧
      (w.judged own suspect).suspectRun = if suspect = true then w.suspectRun + 1 else 0 := by
  unfold judged
  rw [if_pos valid]
  split
  case isTrue doubt =>
    have : w.suspectRun < 59 := few doubt
    rw [if_neg (by omega)]
    exact ⟨valid, rfl⟩
  case isFalse sure => exact ⟨valid, rfl⟩

theorem WindUnit.judged_lost {own : Nat} (valid : w.speedStatus = .valid) (late : 59 ≤ w.suspectRun) :
    (w.judged own true).speedStatus = .invalid ∧ (w.judged own true).suspectRun = 0 := by
  rw [judged, if_pos valid, if_pos rfl, if_pos (Nat.succ_le_succ late)]
  exact ⟨rfl, rfl⟩

theorem WindUnit.judged_recovers {own : Nat} {suspect : Bool} (invalid : w.speedStatus = .invalid) (windy : 10 ≤ own) :
    (w.judged own suspect).speedStatus = (if 9 ≤ w.speedRecovery then .valid else .invalid) ∧
      (w.judged own suspect).speedRecovery = if 9 ≤ w.speedRecovery then 0 else w.speedRecovery + 1 := by
  rw [judged, if_neg (by simp [invalid]), if_pos invalid, if_pos windy]
  by_cases late : 9 ≤ w.speedRecovery
  · rw [if_pos (Nat.succ_le_succ late), if_pos late, if_pos late]
    exact ⟨rfl, rfl⟩
  · rw [if_neg (by omega), if_neg late, if_neg late]
    exact ⟨invalid, rfl⟩

theorem WindUnit.judged_stays_invalid {own : Nat} {suspect : Bool} (invalid : w.speedStatus = .invalid)
    (calm : own < 10) :
    (w.judged own suspect).speedStatus = .invalid ∧ (w.judged own suspect).speedRecovery = 0 := by
  rw [judged, if_neg (by simp [invalid]), if_pos invalid, if_neg (Nat.not_le.mpr calm)]
  exact ⟨invalid, rfl⟩

theorem closeWindow_valid :
    (w.closeWindow prescaler factor).speedStatus = .valid ↔ w.speedStatus ≠ .invalid := by
  change (if w.speedStatus = .none then InputStatus.valid else w.speedStatus) = .valid ↔ _
  cases w.speedStatus <;> simp

theorem closeWindow_invalid :
    (w.closeWindow prescaler factor).speedStatus = .invalid ↔ w.speedStatus = .invalid := by
  change (if w.speedStatus = .none then InputStatus.valid else w.speedStatus) = .invalid ↔ _
  cases w.speedStatus <;> simp

end steps

/-- Settles O41: each input's part is what its own stage makes of it. -/
theorem windInputsEvaluated : Obligations.WindInputsEvaluated := by
  intro s t0 encoder on timer
  refine ⟨fun early => ?_, fun due => ?_⟩
  · refine congrArg Host.Outcome.next (if_neg fun due => ?_)
    rw [not_reached_of timer early] at due
    exact Bool.false_ne_true due.2
  · refine ⟨_, exec_windEvaluation_begun encoder on timer due, ?_⟩
    obtain ⟨vane, speed, twist⟩ := windStages_parts (s.blowing t0) encoder
    have moves : Moves (fun p => p = .wind ∨ p = .twist ∨ p = .driving) (s.blowing t0)
        (windStages (s.blowing t0) encoder) := by
      rw [windStages_eq, formShared_eq]
      exact updateStorm_moves (judgeTwist_moves (shareValues_moves (ownStages_moves (.refl _) _ (.inl rfl)) (.inl rfl)
        (.inr (.inl rfl))) (.inr (.inr rfl))) (.inl rfl)
    have framed := moves.framed
    have cooling : (windStages (s.blowing t0) encoder).cooling = s.cooling := framed.cooling (by simp) (by simp)
    have config : (windStages (s.blowing t0) encoder).config = s.config := framed.config (by simp)
    change _ = (WindUnit.vaneStep s.cfg.vane { s.wind with timer := some (t0 + Config.evaluation) }).vanePart at vane
    change _ = (WindUnit.speedStep s.cfg.anemometer s.cfg.prescaler s.cfg.speedFactor s.peerSpeed
      { s.wind with timer := some (t0 + Config.evaluation) }).speedPart at speed
    change _ = (WindUnit.twistStep s.cfg.encoder encoder
      { s.wind with timer := some (t0 + Config.evaluation) }).twistPart
      at twist
    generalize windStages (s.blowing t0) encoder = t at *
    simp only [WindUnit.vanePart, WindUnit.speedPart, WindUnit.twistPart, Prod.mk.injEq] at vane speed twist
    obtain ⟨tTimer, sampleSum, sampleCount, overruns, filter, direction, seedDue, vaneValid, invalidRun, runOverruns⟩ :=
      vane
    obtain ⟨windowCount, edgeCount, ownSpeed, speedStatus, suspectRun, speedRecovery⟩ := speed
    obtain ⟨ownTwist, twistStatus⟩ := twist
    rw [WindUnit.vaneStep_timer] at tTimer
    rw [tTimer, cooling, config, sampleSum, sampleCount, overruns, filter, direction, seedDue, vaneValid, invalidRun,
      runOverruns, windowCount, edgeCount, ownSpeed, speedStatus, ownTwist, twistStatus]
    refine ⟨rfl, rfl, rfl, fun vane => ?_, fun vane many => ?_, fun vane few => ?_, fun fitted v read low high => ?_,
      fun fitted bad => ?_, fun fitted early => ?_, fun fitted full => ⟨?_, ?_, ?_, fun none few => ?_⟩⟩
    · rw [vane]
      rcases Nat.lt_or_ge s.wind.sampleCount 20 with few | many
      · rw [WindUnit.vaneStep_invalid (by exact few)]
        exact ⟨rfl, rfl, rfl⟩
      · rw [WindUnit.vaneStep_valid (by exact many)]
        exact ⟨rfl, rfl, rfl⟩
    · rw [vane, WindUnit.vaneStep_valid (by exact many)]
      exact ⟨rfl, rfl, rfl, rfl, rfl, rfl⟩
    · rw [vane, WindUnit.vaneStep_invalid (by exact few)]
      exact ⟨rfl, rfl, rfl, rfl, rfl⟩
    · rw [fitted, read, WindUnit.twistStep_good low high]
      exact ⟨rfl, rfl⟩
    · rw [fitted, WindUnit.twistStep_bad bad]
      exact ⟨rfl, rfl⟩
    · rw [fitted, WindUnit.speedStep_within (by exact early)]
      exact ⟨rfl, rfl, rfl, rfl⟩
    · rw [fitted, WindUnit.speedStep_closes (by exact full), (WindUnit.judged_window ..).1]
      rfl
    · rw [fitted, WindUnit.speedStep_closes (by exact full), (WindUnit.judged_window ..).2.1]
      rfl
    · rw [fitted, WindUnit.speedStep_closes (by exact full), (WindUnit.judged_window ..).2.2]
      rfl
    · rw [fitted, WindUnit.speedStep_closes (by exact full)]
      have valid : (WindUnit.closeWindow { s.wind with timer := some (t0 + Config.evaluation) } s.cfg.prescaler
          s.cfg.speedFactor).speedStatus = .valid := closeWindow_valid.mpr (by simp [none])
      exact (WindUnit.judged_stays valid fun _ => few).1

/-! ## What an evaluation writes -/

/-- A stage has written the given record exactly where its condition holds. -/
def State.WritesIf (s t : State) (c : Prop) (w : Written) : Prop :=
  ∃ ws, s.Writes t 2 ws ∧ ∀ v, v ∈ ws ↔ c ∧ v = w

theorem State.WritesIf.of {c : Prop} {w : Written} (holds : c) (writes : s.Writes t 2 [w]) : s.WritesIf t c w :=
  ⟨[w], writes, fun v => by simp [holds]⟩

theorem State.WritesIf.of_not {c : Prop} {w : Written} (no : ¬c) (now : t.now = s.now) (log : t.log = s.log) :
    s.WritesIf t c w :=
  ⟨[], (State.Writes.of_log now log).mono (Nat.zero_le 2), fun v => by simp [no]⟩

theorem State.WritesIf.congr {c d : Prop} {w : Written} (writes : s.WritesIf t c w) (iff : c ↔ d) :
    s.WritesIf t d w := by
  rw [← propext iff]
  exact writes

/-- A WARN of the Wind Input Unit, written of a state that has moved in the unit alone. -/
theorem sense_writes (s : State) (v : WindUnit) (code : Nat) (detail : Int) :
    s.Writes (reportFault { s with wind := v } clsSense code .warn detail) 2
      [warnRecord s.own clsSense code detail] := by
  have writes : State.Writes { s with wind := v } _ 2 _ :=
    warn_writes (cls := clsSense) (code := code) { s with wind := v } detail (by decide) (by decide) (by decide)
  exact writes

theorem closeVaneInterval_writes (s : State) : s.WritesIf (closeVaneInterval s) (s.wind.vaneLost s.cfg.vane)
    (warnRecord s.own clsSense 1 (min 32767 (s.wind.runOverruns + s.wind.overruns) : Nat)) := by
  unfold closeVaneInterval
  split
  case isTrue unfitted => exact .of_not (fun lost => Bool.false_ne_true (unfitted.symm.trans lost.1)) rfl rfl
  case isFalse fitted =>
    split
    case isTrue many => exact .of_not (fun lost => Nat.not_lt.mpr many lost.2.1) rfl rfl
    case isFalse few =>
      dsimp only
      split
      case isTrue tenth =>
        exact .of ⟨by simpa using fitted, Nat.not_le.mp few, (tenthInvalid_iff _).mp tenth⟩ (sense_writes ..)
      case isFalse other => exact .of_not (fun lost => other ((tenthInvalid_iff _).mpr lost.2.2)) rfl rfl

/-- R121: a read that fails after one that did not. -/
def WindUnit.twistLost (fitted : Bool) (encoder : Option Int) (w : WindUnit) : Prop :=
  fitted = true ∧ badTwist encoder ∧ w.twistStatus ≠ .invalid

theorem readTwist_writes (encoder : Option Int) (s : State) :
    s.WritesIf (readTwist encoder s) (s.wind.twistLost s.cfg.encoder encoder)
      (warnRecord s.own clsSense 3 (twistDetail encoder)) := by
  unfold readTwist
  split
  case isTrue unfitted => exact .of_not (fun lost => Bool.false_ne_true (unfitted.symm.trans lost.1)) rfl rfl
  case isFalse fitted =>
    split
    case h_1 v read =>
      refine .of_not (fun lost => ?_) rfl rfl
      rw [(filter_goodTwist_none_iff encoder).mpr lost.2.1] at read
      exact nomatch read
    case h_2 read =>
      dsimp only
      split
      case isTrue was => exact .of_not (fun lost => lost.2.2 was) rfl rfl
      case isFalse sound =>
        refine .of ⟨by simpa using fitted, (filter_goodTwist_none_iff encoder).mp read, sound⟩ ?_
        cases encoder <;> exact sense_writes ..

theorem judgeSpeed_writes (own : Nat) (s : State) : s.WritesIf (judgeSpeed own s)
    (s.wind.speedStatus = .valid ∧ suspectSpeed own s.peerSpeed = true ∧ 59 ≤ s.wind.suspectRun)
    (warnRecord s.own clsSense 2 own) := by
  unfold judgeSpeed
  split
  case h_1 status => exact .of_not (by simp [status]) rfl rfl
  case h_2 status =>
    split
    case isTrue doubt =>
      split
      case isTrue late => exact .of ⟨status, doubt, by omega⟩ (sense_writes ..)
      case isFalse early => exact .of_not (fun lost => early (by omega)) rfl rfl
    case isFalse sure => exact .of_not (fun lost => sure lost.2.1) rfl rfl
  case h_3 status => (repeat' split) <;> exact .of_not (by simp [status]) rfl rfl

/-- R119: the own speed of the window that closes. -/
def State.closingSpeed (s : State) : Nat := windowSpeed s.wind.edgeCount s.cfg.prescaler s.cfg.speedFactor

/-- R120: the close that makes the sixtieth suspect one in a row. -/
def State.speedLost (s : State) : Prop :=
  (s.cfg.anemometer = true ∧ 9 ≤ s.wind.windowCount) ∧ s.wind.speedStatus ≠ .invalid ∧
    suspectSpeed s.closingSpeed s.peerSpeed = true ∧ 59 ≤ s.wind.suspectRun

theorem closeAnemometerWindow_writes (s : State) :
    s.WritesIf (closeAnemometerWindow s) s.speedLost (warnRecord s.own clsSense 2 s.closingSpeed) := by
  unfold closeAnemometerWindow
  split
  case isTrue unfitted => exact .of_not (fun lost => Bool.false_ne_true (unfitted.symm.trans lost.1.1)) rfl rfl
  case isFalse fitted =>
    split
    case isTrue due =>
      have writes := judgeSpeed_writes s.closingSpeed
        { s with wind := s.wind.closeWindow s.cfg.prescaler s.cfg.speedFactor }
      have iff : (s.wind.closeWindow s.cfg.prescaler s.cfg.speedFactor).speedStatus = .valid ∧
          suspectSpeed s.closingSpeed s.peerSpeed = true ∧ 59 ≤ s.wind.suspectRun ↔ s.speedLost := by
        rw [closeWindow_valid]
        exact ⟨fun lost => ⟨⟨by simpa using fitted, by omega⟩, lost⟩, fun lost => lost.2⟩
      exact State.WritesIf.congr (s := s) writes iff
    case isFalse early => exact .of_not (fun lost => early (by have := lost.1.2; omega)) rfl rfl

/-- R122: what the sharing of the values writes. -/
theorem shareValues_writes (s : State) : s.WritesIf (shareValues s)
    (s.wind.agreeing = true ∧ sourcesAgree (s.windSources.filterMap (·.direction)) = false)
    (.mk s.own clsSense 4 0 1 (some (spread (s.windSources.filterMap (·.direction)))) none) := by
  unfold shareValues
  dsimp only
  split
  case isTrue apart => exact .of apart (.mono (State.Writes.enter rfl rfl (by decide)) (by decide))
  case isFalse agree => exact .of_not agree rfl rfl

/-- R122: the sources cease to agree. -/
def State.Parts (s t : State) : Prop :=
  s.wind.agreeing = true ∧ sourcesAgree (t.windSources.filterMap (·.direction)) = false

theorem windStages_writes (s : State) (encoder : Option Int) :
    let t := windStages s encoder
    ∃ ws, s.Writes t 16 ws ∧ ∀ v, v ∈ ws ↔
      (s.wind.vaneLost s.cfg.vane ∧
        v = warnRecord s.own clsSense 1 (min 32767 (s.wind.runOverruns + s.wind.overruns) : Nat)) ∨
      (s.wind.twistLost s.cfg.encoder encoder ∧ v = warnRecord s.own clsSense 3 (twistDetail encoder)) ∨
      (s.speedLost ∧ v = warnRecord s.own clsSense 2 s.closingSpeed) ∨
      (s.Parts t ∧ v = .mk s.own clsSense 4 0 1 (some (spread (t.windSources.filterMap (·.direction)))) none) := by
  intro t
  obtain ⟨w1, writes1, mem1⟩ := closeVaneInterval_writes s
  obtain ⟨w2, writes2, mem2⟩ := readTwist_writes encoder (closeVaneInterval s)
  obtain ⟨w3, writes3, mem3⟩ := closeAnemometerWindow_writes (readTwist encoder (closeVaneInterval s))
  obtain ⟨w4, writes4, mem4⟩ := shareValues_writes (ownStages s encoder)
  have last : State.Writes (shareValues (ownStages s encoder)) t 0 [] := by
    obtain ⟨-, now, -, -, -, -, -, -, -, -, -, -, -, log⟩ := judgeTwist_frame (shareValues (ownStages s encoder))
    exact .of_log now log
  refine ⟨_, ((((writes1.trans writes2).trans writes3).trans writes4).trans last).mono (by decide), fun v => ?_⟩
  obtain ⟨config1, -⟩ := (closeVaneInterval_blown s).blown
  obtain ⟨config2, threads2, -⟩ := (readTwist_blown encoder s).blown
  obtain ⟨config3, -⟩ := (ownStages_blown s encoder).blown
  obtain ⟨speed1, twist1, agreeing1⟩ := s.wind.vaneStep_parts s.cfg.vane
  obtain ⟨-, speed2, agreeing2⟩ := (s.wind.vaneStep s.cfg.vane).twistStep_parts s.cfg.encoder encoder
  have sources : (ownStages s encoder).windSources = t.windSources := by
    change _ = (windStages s encoder).windSources
    rw [windStages_eq, updateStorm_windSources, formShared_windSources]
  have agreeing : (ownStages s encoder).wind.agreeing = s.wind.agreeing := by
    rw [ownStages_wind, State.windOwn, (WindUnit.speedStep_parts ..).2.2, agreeing2, agreeing1]
  have twistLost : (closeVaneInterval s).wind.twistLost (closeVaneInterval s).cfg.encoder encoder ↔
      s.wind.twistLost s.cfg.encoder encoder := by
    rw [WindUnit.twistLost, closeVaneInterval_wind, cfg_congr config1, (Prod.mk.inj twist1).2]
    exact Iff.rfl
  have wind2 : (readTwist encoder (closeVaneInterval s)).wind =
      (s.wind.vaneStep s.cfg.vane).twistStep s.cfg.encoder encoder := by
    rw [readTwist_wind, closeVaneInterval_wind, cfg_congr config1]
  have fields := speed2.trans speed1
  simp only [WindUnit.speedPart, Prod.mk.injEq] at fields
  obtain ⟨windowCount, edgeCount, -, status, suspectRun, -⟩ := fields
  have closing : (readTwist encoder (closeVaneInterval s)).closingSpeed = s.closingSpeed := by
    rw [State.closingSpeed, wind2, cfg_congr config2, edgeCount]
    rfl
  have speedLost : (readTwist encoder (closeVaneInterval s)).speedLost ↔ s.speedLost := by
    rw [State.speedLost, closing, wind2, cfg_congr config2, peerSpeed_congr config2 threads2, windowCount,
      status, suspectRun]
    exact Iff.rfl
  rw [List.append_nil, List.mem_append, List.mem_append, List.mem_append, mem1, mem2, mem3, mem4, twistLost, speedLost,
    closing, own_congr config1, own_congr config2, own_congr config3, sources, agreeing, or_assoc, or_assoc]
  exact Iff.rfl

theorem exists_extremes {fs : List Int} (apart : sourcesAgree fs = false) :
    ∃ a ∈ fs, ∃ b ∈ fs, spread fs = a - b ∧ ∀ x ∈ fs, b ≤ x ∧ x ≤ a := by
  cases fs with
  | nil => exact nomatch apart
  | cons f rest =>
    obtain ⟨highest, below⟩ := List.max?_eq_some_iff.mp (List.max?_cons' (x := f) (xs := rest))
    obtain ⟨lowest, above⟩ := List.min?_eq_some_iff.mp (List.min?_cons' (x := f) (xs := rest))
    exact ⟨_, highest, _, lowest, rfl, fun x mem => ⟨above x mem, below x mem⟩⟩

theorem suspectSpeed_iff (s : State) (own : Nat) : suspectSpeed own s.peerSpeed = true ↔
    own < 10 ∧ ∃ nr ∈ s.liveRecords, ∃ v, nr.2.windSpeed = some v ∧ 80 ≤ v := by
  unfold suspectSpeed State.peerSpeed
  rw [largest_eq_max?]
  cases max : (s.liveRecords.filterMap (·.2.windSpeed)).max? with
  | none =>
    rw [List.max?_eq_none_iff, List.filterMap_eq_nil_iff] at max
    simp only [Bool.and_false, Bool.false_eq_true, false_iff]
    rintro ⟨-, nr, mem, v, speed, -⟩
    rw [max nr mem] at speed
    exact nomatch speed
  | some m =>
    obtain ⟨mem, most⟩ := List.max?_eq_some_iff.mp max
    obtain ⟨nr, there, speed⟩ := List.mem_filterMap.mp mem
    simp only [Bool.and_eq_true, decide_eq_true_eq]
    refine and_congr_right fun _ => ⟨fun windy => ⟨nr, there, m, speed, windy⟩, ?_⟩
    rintro ⟨nr', there', v, speed', windy⟩
    exact Nat.le_trans windy (most v (List.mem_filterMap.mpr ⟨nr', there', speed'⟩))

theorem twistDetail_some (v : Int) :
    twistDetail (some v) = if v < -32767 then -32767 else if 32767 < v then 32767 else v := rfl

/-- Settles O42: each report by the record its stage writes, and the runs by the part its stage makes. -/
theorem windReports : Obligations.WindReports := by
  intro s t0 encoder on timer due log
  refine ⟨_, exec_windEvaluation_begun encoder on timer due, ?_⟩
  obtain ⟨ws, writes, mem⟩ := windStages_writes (s.blowing t0) encoder
  obtain ⟨vane, speed, -⟩ := windStages_parts (s.blowing t0) encoder
  have agreeing : (windStages (s.blowing t0) encoder).wind.agreeing =
      sourcesAgree ((windStages (s.blowing t0) encoder).windSources.filterMap (·.direction)) := by
    rw [windStages_wind, (WindUnit.stormStep_shared ..).2.1]
    rfl
  generalize windStages (s.blowing t0) encoder = t at *
  have writes : s.Writes t 16 ws := writes
  change ∀ v, v ∈ ws ↔
    (s.wind.vaneLost s.cfg.vane ∧
      v = warnRecord s.own clsSense 1 (min 32767 (s.wind.runOverruns + s.wind.overruns) : Nat)) ∨
    (s.wind.twistLost s.cfg.encoder encoder ∧ v = warnRecord s.own clsSense 3 (twistDetail encoder)) ∨
    (s.speedLost ∧ v = warnRecord s.own clsSense 2 s.closingSpeed) ∨
    (s.Parts t ∧ v = .mk s.own clsSense 4 0 1 (some (spread (t.windSources.filterMap (·.direction)))) none) at mem
  have kinds (w : Written) (there : w ∈ ws) : w.cls = clsSense ∧
      (w.code = 1 → s.wind.vaneLost s.cfg.vane) ∧ (w.code = 3 → s.wind.twistLost s.cfg.encoder encoder) ∧
      (w.code = 2 → s.speedLost) ∧ (w.code = 4 → s.Parts t) := by
    rcases (mem w).mp there with ⟨holds, rfl⟩ | ⟨holds, rfl⟩ | ⟨holds, rfl⟩ | ⟨holds, rfl⟩ <;>
      simp [warnRecord, holds]
  have suspect := suspectSpeed_iff s s.closingSpeed
  have judged (closes : s.cfg.anemometer = true ∧ 9 ≤ s.wind.windowCount) :
      let closed := (s.blowing t0).wind.closeWindow s.cfg.prescaler s.cfg.speedFactor
      let w := closed.judged s.closingSpeed (suspectSpeed s.closingSpeed s.peerSpeed)
      t.wind.speedStatus = w.speedStatus ∧ t.wind.suspectRun = w.suspectRun ∧
        t.wind.speedRecovery = w.speedRecovery := by
    intro closed w
    have step : (s.blowing t0).wind.speedStep (s.blowing t0).cfg.anemometer (s.blowing t0).cfg.prescaler
        (s.blowing t0).cfg.speedFactor (s.blowing t0).peerSpeed = w := by
      have fitted : (s.blowing t0).cfg.anemometer = true := closes.1
      have full : 10 ≤ (s.blowing t0).wind.windowCount + 1 := Nat.succ_le_succ closes.2
      rw [fitted, WindUnit.speedStep_closes full]
      rfl
    rw [step] at speed
    simp only [WindUnit.speedPart, Prod.mk.injEq] at speed
    exact ⟨speed.2.2.2.1, speed.2.2.2.2.1, speed.2.2.2.2.2⟩
  have recovers (out : s.wind.speedStatus = .invalid) (windy : 10 ≤ s.closingSpeed) :
      let w := ((s.blowing t0).wind.closeWindow s.cfg.prescaler s.cfg.speedFactor).judged s.closingSpeed
        (suspectSpeed s.closingSpeed s.peerSpeed)
      w.speedStatus = (if 9 ≤ s.wind.speedRecovery then .valid else .invalid) ∧
        w.speedRecovery = if 9 ≤ s.wind.speedRecovery then 0 else s.wind.speedRecovery + 1 :=
    WindUnit.judged_recovers (w := (s.blowing t0).wind.closeWindow s.cfg.prescaler s.cfg.speedFactor)
      (suspect := suspectSpeed s.closingSpeed s.peerSpeed) (closeWindow_invalid.mpr out) windy
  refine ⟨⟨fun lost => writes.reports log ((mem _).mpr (.inl ⟨lost, rfl⟩)), fun calm =>
      writes.noReport log (by decide) fun w there _ code => calm ((kinds w there).2.1 code)⟩, fun fitted few => ?_,
    ⟨fun bad none => ?_, fun v read bad => ?_, fun calm =>
      writes.noReport log (by decide) fun w there _ code => calm ((kinds w there).2.2.1 code)⟩,
    ⟨fun closes sound => ⟨fun doubt late => ?_, fun doubt early => ?_, fun sure => ?_⟩,
      fun closes out => ⟨fun windy late => ?_, fun windy early => ?_, fun calm => ?_⟩,
      fun calm => writes.noReport log (by decide) fun w there _ code => ?_⟩,
    fun was now => ?_, fun calm => writes.noReport log (by decide) fun w there _ code => ?_⟩
  · have runOverruns := congrArg (·.2.2.2.2.2.2.2.2.2) vane
    have cfg : (s.blowing t0).cfg.vane = true := fitted
    rw [cfg, WindUnit.vaneStep_invalid (by exact few)] at runOverruns
    exact runOverruns
  · have lost : s.wind.twistLost s.cfg.encoder encoder := bad
    have there := writes.reports log ((mem _).mpr (.inr (.inl ⟨lost, rfl⟩)))
    rw [none] at there
    exact there
  · have lost : s.wind.twistLost s.cfg.encoder encoder := bad
    have there := writes.reports log ((mem _).mpr (.inr (.inl ⟨lost, rfl⟩)))
    rw [read, twistDetail_some] at there
    exact there
  · obtain ⟨status, suspectRun, -⟩ := judged closes
    rw [status, suspectRun, suspect.mpr doubt]
    exact ⟨writes.reports log ((mem _).mpr (.inr (.inr (.inl ⟨⟨closes, sound, suspect.mpr doubt, late⟩, rfl⟩)))),
      WindUnit.judged_lost (closeWindow_valid.mpr sound) late⟩
  · obtain ⟨status, suspectRun, -⟩ := judged closes
    rw [status, suspectRun, suspect.mpr doubt]
    exact WindUnit.judged_stays (suspect := true) (closeWindow_valid.mpr sound) fun _ => early
  · obtain ⟨status, suspectRun, -⟩ := judged closes
    have plain : suspectSpeed s.closingSpeed s.peerSpeed = false := by
      rw [← Bool.not_eq_true, suspect]
      exact sure
    rw [status, suspectRun, plain]
    exact WindUnit.judged_stays (suspect := false) (closeWindow_valid.mpr sound) nofun
  · obtain ⟨status, -, recovery⟩ := judged closes
    obtain ⟨status', recovery'⟩ := recovers out windy
    rw [status, recovery, status', recovery', if_pos late, if_pos late]
    exact ⟨rfl, rfl⟩
  · obtain ⟨status, -, recovery⟩ := judged closes
    obtain ⟨status', recovery'⟩ := recovers out windy
    rw [status, recovery, status', recovery', if_neg (Nat.not_le.mpr early), if_neg (Nat.not_le.mpr early)]
    exact ⟨rfl, rfl⟩
  · obtain ⟨status, -, recovery⟩ := judged closes
    rw [status, recovery]
    exact WindUnit.judged_stays_invalid (closeWindow_invalid.mpr out) calm
  · obtain ⟨closes, sound, doubt, late⟩ := (kinds w there).2.2.2.1 code
    rcases calm with open_ | invalid | plain | early
    · exact open_ closes
    · exact sound invalid
    · exact plain (suspect.mp doubt)
    · exact Nat.not_le.mpr early late
  · rw [agreeing] at now
    obtain ⟨va, highest, vb, lowest, eq, within⟩ := exists_extremes now
    obtain ⟨a, memA, dirA⟩ := List.mem_filterMap.mp highest
    obtain ⟨b, memB, dirB⟩ := List.mem_filterMap.mp lowest
    refine ⟨a, memA, b, memB, va, vb, dirA, dirB, ?_, fun x there vx dir =>
      within vx (List.mem_filterMap.mpr ⟨x, there, dir⟩)⟩
    exact eq ▸ writes.reports log ((mem _).mpr (.inr (.inr (.inr ⟨⟨was, now⟩, rfl⟩))))
  · obtain ⟨was, apart⟩ := (kinds w there).2.2.2.2 code
    rw [← agreeing] at apart
    rcases calm with before | after
    · exact Bool.false_ne_true (before.symm.trans was)
    · exact Bool.false_ne_true (apart.symm.trans after)

end Sys2Proof.Machine
end

section
/-! Stuffing and its removal (R1), and what a receiver makes of levels on the line (R9). -/
namespace Sys2Proof.Machine

/-! ## One level at a time -/

/-- The count of equal levels after one more level. -/
def nextCount (last : Level) (count : Nat) (b : Level) : Nat := if b = last then count + 1 else 1

theorem stuffFrom_stuffed (last b : Level) (rest : List Level) :
    stuffFrom last 5 (b :: rest) = (!last) :: stuffFrom (!last) 1 (b :: rest) := by
  cases last <;> cases b <;> rfl

theorem stuffFrom_cons {last : Level} {count : Nat} (b : Level) (rest : List Level) (room : count ≠ 5) :
    stuffFrom last count (b :: rest) = b :: stuffFrom b (nextCount last count b) rest := by
  rw [stuffFrom, if_neg room]
  unfold nextCount
  split <;> rfl

theorem unstuffFrom_stuffed (last : Level) (rest : List Level) :
    unstuffFrom last 5 ((!last) :: rest) = unstuffFrom (!last) 1 rest := by
  rw [unstuffFrom, if_pos rfl, if_neg (by simp)]

theorem unstuffFrom_violation (last : Level) (rest : List Level) : unstuffFrom last 5 (last :: rest) = [] := by
  rw [unstuffFrom, if_pos rfl, if_pos rfl]

theorem unstuffFrom_cons {last : Level} {count : Nat} (b : Level) (rest : List Level) (room : count ≠ 5) :
    unstuffFrom last count (b :: rest) = b :: unstuffFrom b (nextCount last count b) rest := by
  rw [unstuffFrom, if_neg room]
  unfold nextCount
  split <;> rfl

theorem nextCount_range (last b : Level) (count : Nat) :
    1 ≤ nextCount last count b ∧ nextCount last count b ≤ count + 1 := by
  unfold nextCount
  split <;> omega

/-- After `k` of the levels on the line `m` bits have been sent, the last `count` levels equal to `last`: what is left
to send is the stuffing of the bits left, and a receiver has taken the bits sent.  One level in five at most is a stuff
bit. -/
theorem stuffFrom_taken (k : Nat) {last : Level} {count : Nat} {bits : List Level} (low : 1 ≤ count) (high : count ≤ 5)
    (within : k ≤ (stuffFrom last count bits).length) : ∃ m last' count', 1 ≤ count' ∧ count' ≤ 5 ∧ m ≤ bits.length ∧
      4 * k + count' ≤ count + 5 * m ∧
      (stuffFrom last count bits).drop k = stuffFrom last' count' (bits.drop m) ∧
      ∀ post, unstuffFrom last count ((stuffFrom last count bits).take k ++ post) =
        bits.take m ++ unstuffFrom last' count' post := by
  induction k generalizing last count bits with
  | zero => exact ⟨0, last, count, low, high, Nat.zero_le _, by omega, rfl, fun post => rfl⟩
  | succ k ih =>
    cases bits with
    | nil => exact absurd within (Nat.not_succ_le_zero k)
    | cons b rest =>
      rcases Nat.eq_or_lt_of_le high with rfl | room
      · rw [stuffFrom_stuffed] at within ⊢
        obtain ⟨m, last', count', low', high', most, sum, left, taken⟩ :=
          ih (Nat.le_refl 1) (by decide) (Nat.le_of_succ_le_succ within)
        exact ⟨m, last', count', low', high', most, by omega, left, fun post => by
          rw [List.take_succ_cons, List.cons_append, unstuffFrom_stuffed, taken]⟩
      · have notFull : count ≠ 5 := Nat.ne_of_lt room
        rw [stuffFrom_cons b rest notFull] at within ⊢
        obtain ⟨one, next⟩ := nextCount_range last b count
        obtain ⟨m, last', count', low', high', most, sum, left, taken⟩ :=
          ih one (by omega) (Nat.le_of_succ_le_succ within)
        exact ⟨m + 1, last', count', low', high', Nat.succ_le_succ most, by omega, left, fun post => by
          rw [List.take_succ_cons, List.cons_append, unstuffFrom_cons _ _ notFull, taken]
          rfl⟩

theorem stuffFrom_nil_iff (last : Level) (count : Nat) (bits : List Level) :
    stuffFrom last count bits = [] ↔ bits = [] := by
  cases bits with
  | nil => simp [stuffFrom]
  | cons b rest =>
    rw [stuffFrom]
    split <;> simp

/-- Of the levels that are left, four in five at least are bits. -/
theorem stuffFrom_length {last : Level} {count : Nat} (bits : List Level) (low : 1 ≤ count) (high : count ≤ 5) :
    4 * (stuffFrom last count bits).length + 1 ≤ 5 + 5 * bits.length := by
  obtain ⟨m, last', count', low', -, most, sum, -⟩ :=
    stuffFrom_taken _ low high (Nat.le_refl (stuffFrom last count bits).length)
  omega

/-! ## A frame's levels -/

/-- What a receiver has taken of a frame's levels: the whole frame's bits only at its end. -/
theorem unstuff_take {start : Level} {bits : List Level} {k : Nat} (some : 1 ≤ k)
    (within : k ≤ (stuff (start :: bits)).length) : ∃ m last count, 1 ≤ count ∧ count ≤ 5 ∧ m ≤ bits.length ∧
      4 * k ≤ 4 + 5 * m ∧ (k < (stuff (start :: bits)).length ↔ m < bits.length) ∧
      4 * ((stuff (start :: bits)).length - k) ≤ 4 + 5 * (bits.length - m) ∧
      ∀ post, unstuff ((stuff (start :: bits)).take k ++ post) = start :: bits.take m ++
        unstuffFrom last count post := by
  obtain ⟨k, rfl⟩ := Nat.exists_eq_add_of_le' some
  change k + 1 ≤ (start :: stuffFrom start 1 bits).length at within
  obtain ⟨m, last, count, low, high, most, sum, left, taken⟩ :=
    stuffFrom_taken k (Nat.le_refl 1) (by decide) (Nat.le_of_succ_le_succ within)
  have rest := stuffFrom_length (last := last) (bits.drop m) low high
  have ended := stuffFrom_nil_iff last count (bits.drop m)
  rw [← left, List.drop_eq_nil_iff, List.drop_eq_nil_iff] at ended
  have lengths := congrArg List.length left
  rw [List.length_drop] at lengths rest
  have total : (stuff (start :: bits)).length = (stuffFrom start 1 bits).length + 1 := rfl
  refine ⟨m, last, count, low, high, most, by omega, by omega, by omega, fun post => ?_⟩
  change unstuff (start :: ((stuffFrom start 1 bits).take k ++ post)) = _
  exact congrArg (start :: ·) (taken post)

theorem unstuff_stuff (start : Level) (bits : List Level) : unstuff (stuff (start :: bits)) = start :: bits := by
  obtain ⟨m, last, count, -, -, most, -, ended, -, taken⟩ :=
    unstuff_take (start := start) (bits := bits) (k := (stuff (start :: bits)).length) (Nat.le_add_left 1 _)
      (Nat.le_refl (stuff (start :: bits)).length)
  have whole : m = bits.length := by omega
  have all := taken []
  rw [List.append_nil, List.take_of_length_le (Nat.le_refl _), whole, List.take_length] at all
  exact all.trans (List.append_nil _)

/-- A sixth equal level ends the bits: at most five are taken of the run that has it. -/
theorem unstuffFrom_run (last b : Level) {count : Nat} (post : List Level) (low : 1 ≤ count) (high : count ≤ 5) :
    ∃ n ≤ 5, unstuffFrom last count (List.replicate 6 b ++ post) = List.replicate n b := by
  by_cases same : b = last
  · subst same
    refine ⟨5 - count, by omega, ?_⟩
    interval_cases count <;> simp [List.replicate_succ, unstuffFrom]
  · rcases Nat.eq_or_lt_of_le high with rfl | room
    · refine ⟨4, by decide, ?_⟩
      simp [List.replicate_succ, unstuffFrom, same]
    · refine ⟨5, by decide, ?_⟩
      have notFull : count ≠ 5 := Nat.ne_of_lt room
      simp [List.replicate_succ, unstuffFrom, same, notFull]

/-! ## Bits and bytes on the line -/

theorem flatMap_byteBits_length (bytes : List Byte) : (bytes.flatMap byteBits).length = 8 * bytes.length := by
  induction bytes with
  | nil => rfl
  | cons b rest ih =>
    rw [List.flatMap_cons, List.length_append, ih, byteBits_length, List.length_cons]
    omega

theorem bytesOf_flatMap {n : Nat} {bytes : List Byte} (within : n ≤ bytes.length) :
    bytesOf n (bytes.flatMap byteBits) = bytes.take n := by
  induction n generalizing bytes with
  | zero => rfl
  | succ n ih =>
    cases bytes with
    | nil => exact absurd within (Nat.not_succ_le_zero n)
    | cons b rest =>
      rw [List.flatMap_cons, bytesOf, List.take_left' (byteBits_length b), List.drop_left' (byteBits_length b),
        bitsByte_byteBits, ih (Nat.le_of_succ_le_succ within), List.take_succ_cons]

theorem drop_flatMap_byteBits (n : Nat) (bytes : List Byte) :
    (bytes.flatMap byteBits).drop (8 * n) = (bytes.drop n).flatMap byteBits := by
  induction n generalizing bytes with
  | zero => rfl
  | succ n ih =>
    cases bytes with
    | nil => rfl
    | cons b rest =>
      rw [List.flatMap_cons, Nat.mul_succ, Nat.add_comm, ← List.drop_drop, List.drop_left' (byteBits_length b), ih]
      rfl

theorem readHeader_sent (b0 b1 : Byte) : readHeader b0 b1 (headerCheck b0 b1) = some (b0, b1, false) := by
  obtain ⟨clear, zero, even⟩ := sent_header b0 b1
  exact (readHeader_clean clear even).trans (if_pos zero)

/-! ## The receive checks (R9) -/

/-- Fewer bits than a header. -/
theorem receive_short {levels bits : List Level} (taken : unstuff levels = false :: bits) (short : bits.length < 24) :
    receive levels = (false, .abandoned) := by
  rw [receive, taken]
  dsimp only
  rw [if_neg Bool.false_ne_true, if_pos short]

/-- R9: a header and more, by what the header check makes of it. -/
theorem receive_headed {levels bits : List Level} {b0 b1 h : Byte}
    (taken : unstuff levels = false :: (byteBits b0 ++ (byteBits b1 ++ (byteBits h ++ bits)))) :
    receive levels = (readHeader b0 b1 h).elim (false, .abandoned) fun x => (x.2.2, receiveBody x.1 x.2.1 bits) := by
  have long : ¬(byteBits b0 ++ (byteBits b1 ++ (byteBits h ++ bits))).length < 24 := by
    simp only [List.length_append, byteBits_length]
    omega
  have first : bitsByte ((byteBits b0 ++ (byteBits b1 ++ (byteBits h ++ bits))).take 8) = b0 := bitsByte_byteBits b0
  have second : bitsByte (((byteBits b0 ++ (byteBits b1 ++ (byteBits h ++ bits))).drop 8).take 8) = b1 :=
    bitsByte_byteBits b1
  have third : bitsByte (((byteBits b0 ++ (byteBits b1 ++ (byteBits h ++ bits))).drop 16).take 8) = h :=
    bitsByte_byteBits h
  rw [receive, taken]
  dsimp only
  rw [if_neg Bool.false_ne_true, if_neg long, first, second, third]
  cases readHeader b0 b1 h <;> rfl

theorem receive_sent {levels bits : List Level} {b0 b1 : Byte}
    (taken : unstuff levels = false :: (byteBits b0 ++ (byteBits b1 ++ (byteBits (headerCheck b0 b1) ++ bits)))) :
    receive levels = (false, receiveBody b0 b1 bits) := by
  rw [receive_headed taken, readHeader_sent]
  rfl

section body
variable {b0 b1 : Byte} {rest : List Level}

theorem receiveBody_long (long : 32 < b1.toNat) : receiveBody b0 b1 rest = .abandoned := by
  unfold receiveBody
  dsimp only
  rw [if_pos long]

theorem receiveBody_short (some : 1 ≤ b1.toNat) (short : rest.length < 8 * (b1.toNat + 2)) :
    receiveBody b0 b1 rest = .abandoned := by
  unfold receiveBody
  dsimp only
  rw [if_neg (Nat.ne_of_gt some), if_pos short]
  split <;> rfl

/-- R9: steps 4 to 6 on a payload of the length of the header and its check. -/
theorem receiveBody_bytes {payload check : List Byte} (within : b1.toNat ≤ 32) (length : payload.length = b1.toNat)
    (checked : check.length = if payload = [] then 0 else 2) :
    receiveBody b0 b1 ((payload ++ check).flatMap byteBits) =
      if payload ≠ [] ∧ ofBigEndian check ≠ (crc payload).toNat then .discarded
      else if senderAllowed (b0.toNat / 8) (b0.toNat % 8) = false then .foreign
      else if kindLength (b0.toNat / 8) payload.length = false then .discarded
      else ((Frame.ofPayload (b0.toNat / 8) payload).map (Reception.good (b0.toNat % 8))).getD .foreign := by
  have bytes : bytesOf b1.toNat ((payload ++ check).flatMap byteBits) = payload := by
    rw [bytesOf_flatMap (by rw [List.length_append]; omega), List.take_left' length]
  have enough : ¬((payload ++ check).flatMap byteBits).length < 8 * (if b1.toNat = 0 then 0 else b1.toNat + 2) := by
    rw [flatMap_byteBits_length, List.length_append, length, checked]
    by_cases none : payload = []
    · rw [if_pos none, if_pos (by rw [← length, none]; rfl)]
      omega
    · rw [if_neg none]
      split <;> omega
  have last : payload ≠ [] → bytesOf 2 (((payload ++ check).flatMap byteBits).drop (8 * b1.toNat)) = check := by
    intro some
    rw [drop_flatMap_byteBits, List.drop_left' length, bytesOf_flatMap (by rw [checked, if_neg some]),
      List.take_of_length_le (by rw [checked, if_neg some])]
  have wrong : (b1.toNat ≠ 0 ∧
      ofBigEndian (bytesOf 2 (((payload ++ check).flatMap byteBits).drop (8 * b1.toNat))) ≠ (crc payload).toNat) ↔
      payload ≠ [] ∧ ofBigEndian check ≠ (crc payload).toNat := by
    rw [← length, Ne, List.length_eq_zero_iff]
    refine and_congr_right fun some => ?_
    rw [length, last some]
  unfold receiveBody
  dsimp only
  rw [if_neg (Nat.not_lt.mpr within), if_neg enough, bytes]
  by_cases bad : payload ≠ [] ∧ ofBigEndian check ≠ (crc payload).toNat
  · rw [if_pos bad, if_pos (wrong.mpr bad)]
  · rw [if_neg bad, if_neg (fun h => bad (wrong.mp h)), length]
    cases Frame.ofPayload (b0.toNat / 8) payload <;> rfl

end body

theorem ofBigEndian_eq_iff {check : List Byte} {v : Nat} (two : check.length = 2) (low : v < 65536) :
    ofBigEndian check = v ↔ check = bigEndian 2 v := by
  obtain ⟨a, b, rfl⟩ := List.length_eq_two.mp two
  have high := a.isLt
  have low' := b.isLt
  simp only [ofBigEndian, bigEndian, List.foldl_cons, List.foldl_nil, List.cons.injEq, and_true, ← BitVec.toNat_inj,
    BitVec.toNat_ofNat]
  omega

end Sys2Proof.Machine
end

section
/-! The layouts of spec 13: what is written is read back (R187, R188). -/
namespace Sys2Proof.Machine

/-! ## Fields -/

theorem bigEndian_length (n v : Nat) : (bigEndian n v).length = n := by
  induction n with
  | zero => rfl
  | succ n ih => rw [bigEndian, List.length_cons, ih]

theorem ofBigEndian_append (a b : List Byte) :
    ofBigEndian (a ++ b) = ofBigEndian a * 256 ^ b.length + ofBigEndian b := by
  unfold ofBigEndian
  induction b using List.reverseRecOn with
  | nil => simp
  | append_singleton b x ih =>
    rw [← List.append_assoc, List.foldl_append, ih, List.foldl_append (l := b)]
    simp only [List.foldl_cons, List.foldl_nil, List.length_append, List.length_singleton, Nat.pow_succ]
    ring

theorem ofBigEndian_bigEndian (n v : Nat) : ofBigEndian (bigEndian n v) = v % 256 ^ n := by
  induction n with
  | zero => simp [bigEndian, ofBigEndian, Nat.mod_one]
  | succ n ih =>
    have split := ofBigEndian_append [BitVec.ofNat 8 (v / 256 ^ n)] (bigEndian n v)
    have one : ofBigEndian [BitVec.ofNat 8 (v / 256 ^ n)] = v / 256 ^ n % 256 := by simp [ofBigEndian]
    rw [bigEndian, ← List.singleton_append, split, bigEndian_length, one, ih, Nat.pow_succ, Nat.mod_mul]
    ring

theorem field_head (n v : Nat) (rest : List Byte) : field (bigEndian n v ++ rest) 0 n = v % 256 ^ n := by
  rw [field, List.drop_zero, List.take_left' (bigEndian_length n v), ofBigEndian_bigEndian]

theorem field_last (n v : Nat) : field (bigEndian n v) 0 n = v % 256 ^ n := by
  rw [← field_head n v [], List.append_nil]

theorem field_skip {n i : Nat} (v m : Nat) (rest : List Byte) (past : n ≤ i) :
    field (bigEndian n v ++ rest) i m = field rest (i - n) m := by
  rw [field, field, List.drop_append, bigEndian_length, List.drop_of_length_le (by rw [bigEndian_length]; exact past),
    List.nil_append]

/-! ## Values -/

theorem ofTwos_toTwos16 {v : Int} (fits : Signed16 v) : ofTwos 16 (toTwos 16 v % 65536) = v := by
  obtain ⟨low, high⟩ := fits
  simp only [ofTwos, toTwos, Nat.reducePow, Nat.reduceSub, Int.reducePow]
  split_ifs <;> omega

theorem ofTwos_toTwos13 {v : Int} (low : -4096 ≤ v) (high : v < 4096) : ofTwos 13 (toTwos 13 v) = v := by
  simp only [ofTwos, toTwos, Nat.reducePow, Nat.reduceSub, Int.reducePow]
  split_ifs <;> omega

theorem flagBit_lt (b : Bool) : flagBit b < 2 := by cases b <;> decide

theorem flagBit_eq_one (b : Bool) : (flagBit b == 1) = b := by cases b <;> rfl

/-! ## Payloads -/

theorem allocationBytes_length (l : List (Nat × Nat)) : (allocationBytes l).length = 2 * l.length := by
  induction l with
  | nil => rfl
  | cons p rest ih =>
    rw [allocationBytes, List.length_append, List.length_append, bigEndian_length, bigEndian_length, ih,
      List.length_cons]
    omega

theorem readAllocation_allocationBytes {l : List (Nat × Nat)} (fits : ∀ p ∈ l, p.1 < 256 ∧ p.2 < 256) :
    readAllocation (allocationBytes l) = l := by
  induction l with
  | nil => rfl
  | cons p rest ih =>
    obtain ⟨⟨station, count⟩, others⟩ := List.forall_mem_cons.mp fits
    rw [allocationBytes]
    change (_, _) :: readAllocation (allocationBytes rest) = _
    rw [ih others]
    simp only [Nat.pow_zero, Nat.div_one, BitVec.toNat_ofNat, Nat.reducePow, Nat.mod_eq_of_lt station,
      Nat.mod_eq_of_lt count]

/-- The mode and direction byte of a session frame. -/
theorem modeByte_read {mode direction : Nat} (low : mode < 4) (one : direction < 2) :
    (direction * 16 + mode) % 4 = mode ∧ (direction * 16 + mode) % 256 / 16 % 2 = direction := by omega

theorem twistField_read {twist : Option Int} (fits : ∀ v, twist = some v → -32768 < v ∧ v < 32768) :
    (if markedSigned 16 32768 twist % 65536 = 32768 then none
      else some (ofTwos 16 (markedSigned 16 32768 twist % 65536))) = twist := by
  cases twist with
  | none => rfl
  | some v =>
    obtain ⟨low, high⟩ := fits v rfl
    have present : ¬markedSigned 16 32768 (some v) % 65536 = 32768 := by
      simp only [markedSigned, toTwos, Int.reducePow]
      omega
    rw [if_neg present]
    exact congrArg some (ofTwos_toTwos16 ⟨Int.le_of_lt low, high⟩)

/-- The flags byte of a LOG ENTRY. -/
theorem entryFlags_read {empty gap number detail origin : Nat} (e : empty < 2) (g : gap < 2) (n : number < 2)
    (d : detail < 2) (o : origin < 8) :
    let byte := empty * 64 + gap * 32 + number * 16 + detail * 8 + origin
    byte % 256 / 64 % 2 = empty ∧ byte % 256 / 32 % 2 = gap ∧ byte % 256 / 16 % 2 = number ∧
      byte % 256 / 8 % 2 = detail ∧ byte % 256 % 8 = origin := by
  intro byte
  omega

theorem logEntry_read {e : LogEntry} (sequence : e.sequence < 4294967296) (stamp : e.stamp < 4294967296)
    (origin : e.origin < 8) (cls : e.cls < 256) (code : e.code < 256) (severity : e.severity < 256)
    (action : e.action < 256) (detail : ∀ v, e.detail = some v → Signed16 v)
    (number : ∀ v, e.noticeNumber = some v → v < 65536) : LogEntry.ofPayload e.payload = e := by
  obtain ⟨emptyFlag, gapFlag, numberFlag, detailFlag, originField⟩ := entryFlags_read (flagBit_lt e.empty)
    (flagBit_lt e.gap) (flagBit_lt e.noticeNumber.isSome) (flagBit_lt e.detail.isSome) origin
  have detailField : (if e.detail.isSome = true then some (ofTwos 16 (markedSigned 16 0 e.detail % 65536)) else none) =
      e.detail := by
    cases some : e.detail with
    | none => rfl
    | some v => exact congrArg Option.some (ofTwos_toTwos16 (detail v some))
  have numberField : (if e.noticeNumber.isSome = true then some (markedNat 0 e.noticeNumber % 65536) else none) =
      e.noticeNumber := by
    cases some : e.noticeNumber with
    | none => rfl
    | some v => exact congrArg Option.some (Nat.mod_eq_of_lt (number v some))
  simp only [LogEntry.ofPayload, LogEntry.payload, List.append_assoc, field_head, field_skip, field_last, Nat.reducePow,
    Nat.reduceLeDiff, Nat.reduceSub, Nat.mod_eq_of_lt, flagBit_eq_one, *]

theorem toTwos_lt {w : Nat} (v : Int) : toTwos w v < 2 ^ w := by
  have low : 0 ≤ v % 2 ^ w := Int.emod_nonneg _ (by positivity)
  have high : v % 2 ^ w < 2 ^ w := Int.emod_lt_of_pos _ (by positivity)
  have bound : (toTwos w v : Int) < (2 ^ w : Nat) := by
    rw [toTwos, Int.toNat_of_nonneg low]
    exact_mod_cast high
  exact_mod_cast bound

/-- The words of a THREAD STATUS. -/
theorem threadWord_read {trip code capability : Nat} (t : trip < 2) (s : code < 8) (c : capability < 4096) :
    let word := trip * 32768 + code * 4096 + capability
    word % 65536 / 32768 % 2 = trip ∧ word % 65536 / 4096 % 8 = code ∧ word % 65536 % 4096 = capability := by
  intro word
  omega

theorem currentWord_read {code : Nat} {v : Int} (c : code < 8) (low : -4096 ≤ v) (high : v < 4096) :
    (code * 8192 + toTwos 13 v) % 65536 / 8192 % 8 = code ∧
      ofTwos 13 ((code * 8192 + toTwos 13 v) % 65536 % 8192) = v := by
  have small : toTwos 13 v < 8192 := toTwos_lt v
  have value : (code * 8192 + toTwos 13 v) % 65536 % 8192 = toTwos 13 v := by omega
  exact ⟨by omega, by rw [value, ofTwos_toTwos13 low high]⟩

theorem demandByte_read {owner demand : Nat} (o : owner < 2) (d : demand < 128) :
    (owner * 128 + demand) % 256 / 128 % 2 = owner ∧ (owner * 128 + demand) % 256 % 128 = demand := by omega

theorem statusFlags_read {isolated fan pump proposer : Nat} (i : isolated < 2) (f : fan < 2) (h : pump < 2)
    (p : proposer < 8) :
    let byte := isolated * 32 + fan * 16 + pump * 8 + proposer
    byte % 256 / 32 % 2 = isolated ∧ byte % 256 / 16 % 2 = fan ∧ byte % 256 / 8 % 2 = pump ∧
      byte % 256 % 8 = proposer := by
  intro byte
  omega

theorem presentIn_markedSigned {w marker bound : Nat} {lo hi : Int} {x : Option Int}
    (fits : ∀ v, x = some v → lo ≤ v ∧ v ≤ hi) (small : ∀ v, x = some v → ofTwos w (toTwos w v) = v)
    (absent : ¬(lo ≤ ofTwos w marker ∧ ofTwos w marker ≤ hi)) (room : ∀ v, x = some v → toTwos w v < bound)
    (marked : marker < bound) :
    markedSigned w marker x < bound ∧ presentIn lo hi (ofTwos w (markedSigned w marker x)) = x := by
  cases x with
  | none => exact ⟨marked, if_neg absent⟩
  | some v =>
    refine ⟨room v rfl, ?_⟩
    rw [markedSigned, small v rfl]
    exact if_pos (fits v rfl)

theorem direction_read {x : Option Int} (fits : ∀ v, x = some v → -1800 ≤ v ∧ v ≤ 1799) :
    markedSigned 12 2048 x < 4096 ∧ presentIn (-1800) 1799 (ofTwos 12 (markedSigned 12 2048 x)) = x := by
  refine presentIn_markedSigned fits (fun v some => ?_) (by decide) (fun v _ => toTwos_lt v) (by decide)
  obtain ⟨low, high⟩ := fits v some
  simp only [ofTwos, toTwos, Nat.reducePow, Nat.reduceSub, Int.reducePow]
  split_ifs <;> omega

theorem statusTwist_read {x : Option Int} (fits : ∀ v, x = some v → -14400 ≤ v ∧ v ≤ 14400) :
    markedSigned 15 16384 x < 32768 ∧ presentIn (-14400) 14400 (ofTwos 15 (markedSigned 15 16384 x)) = x := by
  refine presentIn_markedSigned fits (fun v some => ?_) (by decide) (fun v _ => toTwos_lt v) (by decide)
  obtain ⟨low, high⟩ := fits v some
  simp only [ofTwos, toTwos, Nat.reducePow, Nat.reduceSub, Int.reducePow]
  split_ifs <;> omega

theorem windSpeed_read {x : Option Nat} (fits : ∀ v, x = some v → v ≤ 800) :
    markedNat 4095 x < 4096 ∧ (if markedNat 4095 x ≤ 800 then some (markedNat 4095 x) else none) = x := by
  cases x with
  | none => exact ⟨by decide, rfl⟩
  | some v =>
    have most := fits v rfl
    exact ⟨Nat.lt_of_le_of_lt most (by decide), if_pos most⟩

theorem windWord_read {direction speed : Nat} (d : direction < 4096) (s : speed < 4096) :
    (direction * 4096 + speed % 4096) % 16777216 / 4096 % 4096 = direction ∧
      (direction * 4096 + speed % 4096) % 16777216 % 4096 = speed := by omega

theorem twistWord_read {released twist : Nat} (r : released < 2) (t : twist < 32768) :
    (released * 32768 + twist) % 65536 / 32768 % 2 = released ∧ (released * 32768 + twist) % 65536 % 32768 = twist := by
  omega

theorem status_read {r : StatusRecord} (fits : r.Fits) : StatusRecord.ofPayload r.payload = r := by
  obtain ⟨tag, threadCode, capability, yawCode, activeLow, activeHigh, motorsReady, reactiveLow, reactiveHigh, heatLoad,
    flowDemand, fanDemand, proposer, sessionTag, direction, windSpeed, twist, cadenceCount, lastWindow,
      foreign, corrected,
    losses, superseded⟩ := fits
  have flag (b : Bool) := flagBit_lt b
  obtain ⟨directionLow, directionField⟩ := direction_read direction
  obtain ⟨speedLow, speedField⟩ := windSpeed_read windSpeed
  obtain ⟨twistLow, twistField⟩ := statusTwist_read twist
  simp only [StatusRecord.ofPayload, StatusRecord.payload, List.append_assoc, field_head, field_skip, field_last,
    Nat.reducePow, Nat.reduceLeDiff, Nat.reduceSub, Nat.mod_eq_of_lt tag, Nat.mod_eq_of_lt threadCode,
    Nat.mod_eq_of_lt capability, Nat.mod_eq_of_lt yawCode, Nat.mod_eq_of_lt motorsReady, Nat.mod_eq_of_lt heatLoad,
    Nat.mod_eq_of_lt flowDemand, Nat.mod_eq_of_lt fanDemand, Nat.mod_eq_of_lt proposer, Nat.mod_eq_of_lt sessionTag,
    Nat.mod_eq_of_lt cadenceCount, Nat.mod_eq_of_lt lastWindow, Nat.mod_eq_of_lt foreign, Nat.mod_eq_of_lt corrected,
    Nat.mod_eq_of_lt losses, Nat.mod_eq_of_lt superseded, threadWord_read (flag _) threadCode capability,
    currentWord_read yawCode activeLow activeHigh, currentWord_read motorsReady reactiveLow reactiveHigh,
    demandByte_read (flag _) flowDemand, demandByte_read (flag _) fanDemand,
    statusFlags_read (flag _) (flag _) (flag _) proposer, windWord_read directionLow speedLow,
    twistWord_read (flag _) twistLow, directionField, speedField, twistField, flagBit_eq_one]

theorem payload_read (sender : Nat) {f : Frame} (fits : f.Fits sender) : Frame.ofPayload f.kind f.payload = some f := by
  cases f with
  | faultNotice n =>
    obtain ⟨-, -, number, cls, code, severity, action, detail, logSequence⟩ := fits
    simp [Frame.kind, Frame.ofPayload, Frame.payload, field_head, field_skip, field_last, Nat.mod_eq_of_lt,
      ofTwos_toTwos16, *]
  | yawStop proposer tag =>
    obtain ⟨-, -, proposer, tag⟩ := fits
    simp [Frame.kind, Frame.ofPayload, Frame.payload, field_head, field_skip, field_last, Nat.mod_eq_of_lt, *]
  | yawStart tag mode direction budget allocation =>
    obtain ⟨-, -, tag, mode, direction, budget, -, -, pairs⟩ := fits
    simp [Frame.kind, Frame.ofPayload, Frame.payload, field_head, field_skip, Nat.mod_eq_of_lt, *]
    exact ⟨(modeByte_read mode direction).1, (modeByte_read mode direction).2, readAllocation_allocationBytes pairs⟩
  | yawAnswer proposer tag verdict offered reason =>
    obtain ⟨-, -, proposer, tag, verdict, offered, reason⟩ := fits
    simp [Frame.kind, Frame.ofPayload, Frame.payload, field_head, field_skip, field_last, Nat.mod_eq_of_lt, *]
  | yawProposal tag mode direction budget twist =>
    obtain ⟨-, -, tag, mode, direction, budget, twist⟩ := fits
    simp [Frame.kind, Frame.ofPayload, Frame.payload, field_head, field_skip, field_last, Nat.mod_eq_of_lt, *]
    exact ⟨(modeByte_read mode direction).1, (modeByte_read mode direction).2, twistField_read twist⟩
  | plantDemand d =>
    obtain ⟨-, tag, modeCode, auxCode, active, reactive, orderCode, budget, ackTag⟩ := fits
    simp [Frame.kind, Frame.ofPayload, Frame.payload, field_head, field_skip, field_last, Nat.mod_eq_of_lt,
      ofTwos_toTwos16, *]
  | threadStatus r =>
    obtain ⟨-, -, fits⟩ := fits
    exact congrArg (fun r => some (Frame.threadStatus r)) (status_read fits)
  | quietOrder interval wakePeriod =>
    obtain ⟨-, interval, wakePeriod⟩ := fits
    simp [Frame.kind, Frame.ofPayload, Frame.payload, field_head, field_skip, field_last, Nat.mod_eq_of_lt, *]
  | logRequest target fromSequence count =>
    obtain ⟨-, target, fromSequence, count⟩ := fits
    simp [Frame.kind, Frame.ofPayload, Frame.payload, field_head, field_skip, field_last, Nat.mod_eq_of_lt, *]
  | logEntry e =>
    obtain ⟨-, -, sequence, stamp, origin, cls, code, severity, action, detail, number⟩ := fits
    exact congrArg (fun e => some (Frame.logEntry e))
      (logEntry_read sequence stamp origin cls code severity action detail number)

end Sys2Proof.Machine
end

section
/-! A frame's levels as a receiver takes them (R6, R9), and the read-back of a sending (R12). -/
namespace Sys2Proof.Machine

/-! ## What a fitting frame has -/

/-- R10: the kind of a frame, its length and its sender stand in the table. -/
theorem Frame.Fits.listed {sender : Nat} {f : Frame} (fits : f.Fits sender) :
    senderAllowed f.kind sender = true ∧ kindLength f.kind f.payload.length = true ∧ f.kind < 32 ∧ sender < 8 ∧
      1 ≤ f.payload.length ∧ f.payload.length ≤ 32 := by
  cases f with
  | yawStart tag mode direction budget allocation =>
    obtain ⟨sends, low, -, -, -, -, some, most, -⟩ := fits
    have length : (Frame.yawStart tag mode direction budget allocation).payload.length = 3 + 2 * allocation.length := by
      simp only [Frame.payload, List.length_append, bigEndian_length, allocationBytes_length]
    rw [length]
    refine ⟨?_, ?_, by simp [Frame.kind], low, by omega, by omega⟩
    · simp [Frame.kind, senderAllowed, kindIsController, Nat.ne_of_gt sends]
    · simp only [Frame.kind, kindLength, Bool.and_eq_true, decide_eq_true_eq, beq_iff_eq]
      omega
  | plantDemand d | quietOrder interval wakePeriod | logRequest target fromSequence count =>
    obtain ⟨rfl, -⟩ := fits
    simp [Frame.kind, senderAllowed, kindIsController, kindLength, Frame.payload, bigEndian_length]
  | faultNotice _ | yawStop _ _ | yawAnswer _ _ _ _ _ | yawProposal _ _ _ _ _ | threadStatus _ | logEntry _ =>
    obtain ⟨sends, low, -⟩ := fits
    simp [Frame.kind, senderAllowed, kindIsController, kindLength, Frame.payload, StatusRecord.payload,
      LogEntry.payload,
      bigEndian_length, Nat.ne_of_gt sends, low]

/-! ## The checks of R9 -/

/-- The levels of a header, a payload and its check. -/
def levelsOf (b0 b1 : Byte) (payload check : List Byte) : List Level :=
  stuff (false :: ([b0, b1, headerCheck b0 b1] ++ payload ++ check).flatMap byteBits)

theorem header_bits (b0 b1 h : Byte) (rest : List Byte) : ([b0, b1, h] ++ rest).flatMap byteBits =
    byteBits b0 ++ (byteBits b1 ++ (byteBits h ++ rest.flatMap byteBits)) := by
  simp only [List.cons_append, List.nil_append, List.flatMap_cons]

theorem receive_levelsOf (b0 b1 : Byte) (payload check : List Byte) :
    receive (levelsOf b0 b1 payload check) = (false, receiveBody b0 b1 ((payload ++ check).flatMap byteBits)) := by
  refine receive_sent ?_
  rw [levelsOf, unstuff_stuff, List.append_assoc, header_bits]

theorem frameLevels_eq (sender : Nat) (f : Frame) (some : 1 ≤ f.payload.length) : frameLevels sender f =
    levelsOf (BitVec.ofNat 8 (f.precedence sender)) (BitVec.ofNat 8 f.payload.length) f.payload
      (bigEndian 2 (crc f.payload).toNat) := by
  unfold frameLevels frameBits frameBytes levelsOf
  dsimp only
  rw [if_neg (Nat.ne_of_gt some)]

theorem precedence_read {sender : Nat} {f : Frame} (fits : f.Fits sender) :
    (BitVec.ofNat 8 (f.precedence sender)).toNat / 8 = f.kind ∧
      (BitVec.ofNat 8 (f.precedence sender)).toNat % 8 = sender := by
  obtain ⟨-, -, kind, low, -⟩ := fits.listed
  rw [Frame.precedence, BitVec.toNat_ofNat]
  omega

theorem length_read {sender : Nat} {f : Frame} (fits : f.Fits sender) :
    (BitVec.ofNat 8 f.payload.length).toNat = f.payload.length := by
  obtain ⟨-, -, -, -, -, most⟩ := fits.listed
  rw [BitVec.toNat_ofNat]
  exact Nat.mod_eq_of_lt (by omega)

theorem receive_frame {sender : Nat} {f : Frame} (fits : f.Fits sender) :
    receive (frameLevels sender f) = (false, .good sender f) := by
  obtain ⟨allowed, kindLength, -, -, some, most⟩ := fits.listed
  obtain ⟨kind, sends⟩ := precedence_read fits
  have present : f.payload ≠ [] := fun none => by simp [none] at some
  have right : ofBigEndian (bigEndian 2 (crc f.payload).toNat) = (crc f.payload).toNat :=
    (ofBigEndian_eq_iff (bigEndian_length 2 _) (crc f.payload).isLt).mpr rfl
  rw [frameLevels_eq sender f some, receive_levelsOf,
    receiveBody_bytes (by rw [length_read fits]; exact most) (length_read fits).symm
      (by rw [bigEndian_length, if_neg present]),
    kind, sends, if_neg (fun wrong => wrong.2 right), if_neg (by simp [allowed]), if_neg (by simp [kindLength]),
    payload_read sender fits]
  rfl

/-- The bits a receiver needs for a frame after its header. -/
theorem frameBits_split {sender : Nat} {f : Frame} (fits : f.Fits sender) :
    ∃ b0 b1 body, frameLevels sender f =
        stuff (false :: (byteBits b0 ++ (byteBits b1 ++ (byteBits (headerCheck b0 b1) ++ body)))) ∧
      b1.toNat = f.payload.length ∧ body.length = 8 * (b1.toNat + 2) := by
  obtain ⟨-, -, -, -, some, -⟩ := fits.listed
  refine ⟨BitVec.ofNat 8 (f.precedence sender), BitVec.ofNat 8 f.payload.length,
    (f.payload ++ bigEndian 2 (crc f.payload).toNat).flatMap byteBits, ?_, length_read fits, ?_⟩
  · rw [frameLevels_eq sender f some, levelsOf, List.append_assoc, header_bits]
  · rw [flatMap_byteBits_length, List.length_append, bigEndian_length, length_read fits]

/-- A frame of which fewer bits are taken than it has is abandoned. -/
theorem receive_cut {levels taken body : List Level} {b0 b1 : Byte} {m : Nat} (some : 1 ≤ b1.toNat)
    (length : body.length = 8 * (b1.toNat + 2))
    (bits : unstuff levels =
      false :: (byteBits b0 ++ (byteBits b1 ++ (byteBits (headerCheck b0 b1) ++ body))).take m ++ taken)
    (few : m + taken.length < 24 + body.length) (header : 24 ≤ m ∨ taken = []) :
    receive levels = (false, .abandoned) := by
  rcases Nat.lt_or_ge m 24 with short | whole
  · have none : taken = [] := header.resolve_left (Nat.not_le.mpr short)
    rw [none, List.append_nil] at bits
    exact receive_short bits (by rw [List.length_take]; omega)
  · obtain ⟨m, rfl⟩ := Nat.exists_eq_add_of_le whole
    have split : (byteBits b0 ++ (byteBits b1 ++ (byteBits (headerCheck b0 b1) ++ body))).take (24 + m) ++ taken =
        byteBits b0 ++ (byteBits b1 ++ (byteBits (headerCheck b0 b1) ++ (body.take m ++ taken))) := by
      have headed : byteBits b0 ++ (byteBits b1 ++ (byteBits (headerCheck b0 b1) ++ body)) =
          (byteBits b0 ++ (byteBits b1 ++ byteBits (headerCheck b0 b1))) ++ body := by simp only [List.append_assoc]
      rw [headed, List.take_append, List.take_of_length_le (by simp only [List.length_append, byteBits_length]; omega)]
      simp only [List.length_append, byteBits_length, List.append_assoc, Nat.add_sub_cancel_left]
    rw [List.cons_append, split] at bits
    rw [receive_sent bits, receiveBody_short some]
    rw [List.length_append, List.length_take]
    omega

/-- R10: the senders and the kinds of the table. -/
def Known (kind sender : Nat) : Prop :=
  (1 ≤ sender ∧ kind ∈ [2, 4, 5, 6, 7, 16, 28]) ∨ (sender = 0 ∧ kind ∈ [10, 20, 24])

theorem senderAllowed_iff (kind sender : Nat) : senderAllowed kind sender = true ↔ Known kind sender := by
  unfold senderAllowed Known
  cases table : kindIsController kind with
  | none =>
    unfold kindIsController at table
    split at table <;> simp_all
  | some controller =>
    cases controller <;>
    · unfold kindIsController at table
      split at table <;> simp_all [Nat.one_le_iff_ne_zero]

theorem kindLength_iff (kind length : Nat) : kindLength kind length = true ↔
    (kind, length) ∈ [(2, 10), (4, 2), (6, 5), (7, 5), (10, 10), (16, 24), (20, 2), (24, 6), (28, 17)] ∨
      (kind = 5 ∧ length ∈ [5, 7, 9, 11, 13, 15, 17]) := by
  unfold kindLength
  split <;> simp_all
  omega

theorem ofPayload_known {kind sender : Nat} (known : Known kind sender) (payload : List Byte) :
    ∃ f, Frame.ofPayload kind payload = some f ∧ f.kind = kind := by
  rcases known with ⟨-, listed⟩ | ⟨-, listed⟩ <;> simp only [List.mem_cons, List.not_mem_nil, or_false] at listed
  · rcases listed with rfl | rfl | rfl | rfl | rfl | rfl | rfl <;> exact ⟨_, rfl, rfl⟩
  · rcases listed with rfl | rfl | rfl <;> exact ⟨_, rfl, rfl⟩

/-- Settles O11: the bits of a frame's levels are its own, all of them only at its end, and the checks of R9 are made on
them in their order. -/
theorem sentFramesAreReceived : Obligations.SentFramesAreReceived := by
  refine ⟨fun sender f => receive_frame, fun sender f k fits => ?_, fun b0 b1 header rest error => ?_,
    fun b0 b1 payload check => ?_⟩
  · obtain ⟨b0, b1, body, levels, length, bodyLength⟩ := frameBits_split fits
    obtain ⟨-, -, -, -, some, -⟩ := fits.listed
    rw [levels]
    generalize bitsEq : byteBits b0 ++ (byteBits b1 ++ (byteBits (headerCheck b0 b1) ++ body)) = bits
    have total : bits.length = 24 + body.length := by
      rw [← bitsEq]
      simp only [List.length_append, byteBits_length]
      omega
    refine ⟨fun short => ?_, fun b post late room => ?_⟩
    · rcases Nat.eq_zero_or_pos k with rfl | started
      · rfl
      · obtain ⟨m, last, count, -, -, most, -, ended, -, taken⟩ := unstuff_take started (Nat.le_of_lt short)
        have cut := taken []
        rw [List.append_nil] at cut
        refine receive_cut (b0 := b0) (b1 := b1) (m := m) (taken := []) (length ▸ some) bodyLength ?_ ?_ (.inr rfl)
        · rw [bitsEq]
          exact cut
        · have := ended.mp short
          simp only [List.length_nil]
          omega
    · obtain ⟨m, last, count, low, high, most, sum, -, left, taken⟩ :=
        unstuff_take (k := k) (start := false) (bits := bits) (by omega)
        (by omega)
      obtain ⟨n, five, run⟩ := unstuffFrom_run last b post low high
      have cut := taken (List.replicate 6 b ++ post)
      rw [run, ← List.append_assoc] at cut
      refine receive_cut (b0 := b0) (b1 := b1) (m := m) (taken := List.replicate n b) (length ▸ some) bodyLength ?_ ?_
        (.inl (by omega))
      · rw [bitsEq]
        exact cut
      · rw [List.length_replicate]
        omega
  · have taken : unstuff (stuff (false :: ([b0, b1, header] ++ rest).flatMap byteBits)) =
        false :: (byteBits b0 ++ (byteBits b1 ++ (byteBits header ++ rest.flatMap byteBits))) := by
      rw [unstuff_stuff, header_bits]
    rw [receive_headed taken, error]
    rfl
  · intro levels kind sender known fits
    have levelsEq : receive levels = (false, receiveBody b0 b1 ((payload ++ check).flatMap byteBits)) :=
      receive_levelsOf b0 b1 payload check
    rw [levelsEq]
    simp only [Prod.mk.injEq, true_and]
    refine ⟨receiveBody_long, fun some _ few => receiveBody_short some ?_, fun within length checked => ?_⟩
    · rw [flatMap_byteBits_length, List.length_append]
      omega
    rw [receiveBody_bytes within length checked]
    have right (good : payload = [] ∨ check = bigEndian 2 (crc payload).toNat) :
        ¬(payload ≠ [] ∧ ofBigEndian check ≠ (crc payload).toNat) := by
      rintro ⟨some, wrong⟩
      rw [if_neg some] at checked
      exact wrong ((ofBigEndian_eq_iff checked (crc payload).isLt).mpr (good.resolve_left some))
    refine ⟨fun present wrong => ?_, fun good => ⟨fun unknown => ?_, fun listed misfit => ?_,
      fun listed fitting => ?_⟩⟩
    · rw [if_neg present] at checked
      exact if_pos ⟨present, fun eq => wrong ((ofBigEndian_eq_iff checked (crc payload).isLt).mp eq)⟩
    · have barred := mt (senderAllowed_iff kind sender).mp unknown
      rw [if_neg (right good), if_pos (Bool.not_eq_true _ ▸ barred)]
    · have allowed := (senderAllowed_iff kind sender).mpr listed
      have misfits := mt (kindLength_iff kind payload.length).mp misfit
      rw [if_neg (right good), if_neg (fun barred => Bool.false_ne_true (barred.symm.trans allowed)),
        if_pos (Bool.not_eq_true _ ▸ misfits)]
    · have allowed := (senderAllowed_iff kind sender).mpr listed
      have fit := (kindLength_iff kind payload.length).mpr fitting
      obtain ⟨f, read, its⟩ := ofPayload_known listed payload
      refine ⟨f, ?_, its⟩
      rw [if_neg (right good), if_neg (fun barred => Bool.false_ne_true (barred.symm.trans allowed)),
        if_neg (fun misfits => Bool.false_ne_true (misfits.symm.trans fit)), read]
      rfl

end Sys2Proof.Machine
end

section
/-! The read-back of a frame being sent (R12). -/
namespace Sys2Proof.Machine

theorem agreeing_self (l : List Level) : agreeing l l = l.length := by
  induction l with
  | nil => rfl
  | cons b rest ih => rw [agreeing, if_pos rfl, ih, List.length_cons]

/-- The runs agree up to the first place at which they differ. -/
theorem agreeing_of_differ {sent heard : List Level} {i : Nat} {a b : Level} (same : heard.take i = sent.take i)
    (sends : sent[i]? = some a) (hears : heard[i]? = some b) (differ : a ≠ b) : agreeing sent heard = i := by
  induction i generalizing sent heard with
  | zero =>
    cases sent with
    | nil => cases sends
    | cons x rest =>
      cases heard with
      | nil => cases hears
      | cons y heard =>
        obtain rfl : x = a := by simpa using sends
        obtain rfl : y = b := by simpa using hears
        rw [agreeing, if_neg differ]
  | succ i ih =>
    cases sent with
    | nil => cases sends
    | cons x rest =>
      cases heard with
      | nil => cases hears
      | cons y heard =>
        obtain ⟨first, later⟩ := List.cons.inj same
        rw [agreeing, if_pos first.symm, ih later sends hears]

/-- The dominant levels that lead a run are those before its first recessive one, or all of it. -/
theorem leadingDominant_eq {l : List Level} {n : Nat} (dominant : ∀ k < n, l[k]? = some false)
    (ends : l[n]? = none ∨ l[n]? = some true) : leadingDominant l = n := by
  induction n generalizing l with
  | zero =>
    cases l with
    | nil => rfl
    | cons b rest =>
      obtain rfl : b = true := by simpa using ends
      rfl
  | succ n ih =>
    cases l with
    | nil => exact absurd (dominant 0 (Nat.succ_pos n)) (by simp)
    | cons b rest =>
      obtain rfl : b = false := by simpa using dominant 0 (Nat.succ_pos n)
      rw [leadingDominant, ih (fun k lt => by simpa using dominant (k + 1) (Nat.succ_lt_succ lt)) (by simpa using ends)]

theorem leadingDominant_ge {l : List Level} {n : Nat} (dominant : ∀ k < n, l[k]? = some false) :
    n ≤ leadingDominant l := by
  induction n generalizing l with
  | zero => exact Nat.zero_le _
  | succ n ih =>
    cases l with
    | nil => exact absurd (dominant 0 (Nat.succ_pos n)) (by simp)
    | cons b rest =>
      obtain rfl : b = false := by simpa using dominant 0 (Nat.succ_pos n)
      rw [leadingDominant]
      exact Nat.succ_le_succ (ih fun k lt => by simpa using dominant (k + 1) (Nat.succ_lt_succ lt))

theorem leadingDominant_le (l : List Level) : leadingDominant l ≤ l.length ∧
    ∀ k < leadingDominant l, l[k]? = some false := by
  induction l with
  | nil => exact ⟨Nat.le_refl 0, nofun⟩
  | cons b rest ih =>
    obtain ⟨length, dominant⟩ := ih
    cases b with
    | true => exact ⟨Nat.zero_le _, nofun⟩
    | false =>
      refine ⟨Nat.succ_le_succ length, fun k lt => ?_⟩
      cases k with
      | zero => rfl
      | succ k => exact dominant k (Nat.lt_of_succ_lt_succ lt)

/-! ## The levels of a frame's start -/

/-- At most five dominant levels in a row are sent. -/
theorem stuffFrom_dominant {count : Nat} {bits : List Level} (high : count ≤ 5) {n : Nat}
    (dominant : ∀ k < n, (stuffFrom false count bits)[k]? = some false) : n + count ≤ 5 := by
  induction bits generalizing count n with
  | nil =>
    cases n with
    | zero => simpa using high
    | succ n => exact absurd (dominant 0 (Nat.succ_pos n)) (by simp [stuffFrom])
  | cons b rest ih =>
    cases n with
    | zero => simpa using high
    | succ n =>
      have first := dominant 0 (Nat.succ_pos n)
      rcases Nat.eq_or_lt_of_le high with rfl | room
      · rw [stuffFrom_stuffed] at first
        exact absurd first (by simp)
      · rw [stuffFrom_cons b rest (Nat.ne_of_lt room)] at first dominant
        obtain rfl : b = false := by simpa using first
        have next : nextCount false count false = count + 1 := if_pos rfl
        rw [next] at dominant
        have := ih (count := count + 1) (by omega) (n := n) fun k lt => by
          simpa using dominant (k + 1) (Nat.succ_lt_succ lt)
        omega

theorem frameLevels_dominant {sender : Nat} {f : Frame} {n : Nat}
    (dominant : ∀ k < n, (frameLevels sender f)[k]? = some false) : n ≤ 5 := by
  cases n with
  | zero => exact Nat.zero_le 5
  | succ n =>
    have := stuffFrom_dominant (count := 1) (by decide) (n := n)
      (bits := (frameBytes sender f).flatMap byteBits) fun k lt => dominant (k + 1) (Nat.succ_lt_succ lt)
    omega

theorem stuffFrom_length_ge (last : Level) (count : Nat) (bits : List Level) :
    bits.length ≤ (stuffFrom last count bits).length := by
  induction bits generalizing last count with
  | nil => exact Nat.zero_le _
  | cons b rest ih =>
    rw [stuffFrom]
    split <;> split <;> simp only [List.length_cons] <;> have := ih b 1 <;> have := ih b 2 <;>
      have := ih b (count + 1) <;> omega

theorem headerLevels_ge (sender : Nat) (f : Frame) : 9 ≤ headerLevels sender f := by
  have bits : (frameBits sender f).take 9 = false :: byteBits (BitVec.ofNat 8 (f.precedence sender)) := rfl
  have length := stuffFrom_length_ge false 1 (byteBits (BitVec.ofNat 8 (f.precedence sender)))
  rw [byteBits_length] at length
  rw [headerLevels, bits]
  exact Nat.succ_le_succ length

/-! ## The outcome -/

/-- R12: the outcome at a first difference, by the level read there and the dominant run it stands in. -/
theorem readBack_differ {sent heard : List Level} {header i : Nat} {level : Level} (same : agreeing sent heard = i)
    (within : i < sent.length) (hears : heard[i]? = some level) :
    readBack sent header heard =
      let before := leadingDominant ((heard.take i).reverse)
      if level = false ∧ 16 ≤ before + leadingDominant (heard.drop i) ∧ 1 ≤ i - before then
        some (if i - before < header then .lost else .corrupted)
      else if level = false ∧ 1 ≤ i ∧ i < header then some .lost
      else some .corrupted := by
  unfold readBack
  rw [same]
  dsimp only
  rw [if_neg (Nat.ne_of_lt within), hears]

theorem reverse_take_getElem? {heard : List Level} {i k : Nat} (within : i ≤ heard.length) (lt : k < i) :
    ((heard.take i).reverse)[k]? = heard[i - 1 - k]? := by
  have length : (heard.take i).length = i := List.length_take_of_le within
  rw [List.getElem?_reverse (by rw [length]; exact lt), length, List.getElem?_take_of_lt (by omega)]

/-- The dominant run around a place reaches from its start to its end. -/
theorem dominantRun {heard : List Level} {i : Nat} (within : i ≤ heard.length) {j : Nat}
    (after : i - leadingDominant ((heard.take i).reverse) ≤ j) (before : j < i + leadingDominant (heard.drop i)) :
    heard[j]? = some false := by
  rcases Nat.lt_or_ge j i with earlier | later
  · have dominant := (leadingDominant_le ((heard.take i).reverse)).2 (i - 1 - j) (by omega)
    rw [reverse_take_getElem? within (by omega)] at dominant
    have index : i - 1 - (i - 1 - j) = j := by omega
    rwa [index] at dominant
  · have dominant := (leadingDominant_le (heard.drop i)).2 (j - i) (by omega)
    rw [List.getElem?_drop] at dominant
    have index : i + (j - i) = j := by omega
    rwa [index] at dominant

/-- The dominant levels before a place, where their run is known to start. -/
theorem leadingDominant_before {heard : List Level} {first i : Nat} (within : i ≤ heard.length) (le : first ≤ i)
    (run : ∀ k, first ≤ k → k < i → heard[k]? = some false) (starts : first = 0 ∨ heard[first - 1]? = some true) :
    leadingDominant ((heard.take i).reverse) = i - first := by
  refine leadingDominant_eq (fun k lt => ?_) ?_
  · rw [reverse_take_getElem? within (by omega)]
    exact run _ (by omega) (by omega)
  · rcases Nat.eq_zero_or_pos first with rfl | pos
    · refine .inl (List.getElem?_eq_none ?_)
      rw [List.length_reverse, List.length_take]
      omega
    · have index : i - 1 - (i - first) = first - 1 := by omega
      rw [reverse_take_getElem? within (by omega), index]
      exact .inr (starts.resolve_left (Nat.ne_of_gt pos))

/-- Settles O14: the place of the first difference, the level read there and the run it stands in decide. -/
theorem readBackJudged : Obligations.ReadBackJudged := by
  intro sender f heard i
  refine ⟨?_, fun within same hears => ?_⟩
  · unfold sendingOutcome readBack
    dsimp only
    rw [agreeing_self, if_pos rfl]
  · have sends : (frameLevels sender f)[i]? = some ((frameLevels sender f).getD i false) := by
      rw [List.getD_eq_getElem?_getD, List.getElem?_eq_getElem within]
      rfl
    have agree := agreeing_of_differ same sends hears (by simp)
    have inside : i ≤ heard.length := by
      obtain ⟨lt, -⟩ := List.getElem?_eq_some_iff.mp hears
      exact Nat.le_of_lt lt
    unfold sendingOutcome
    rw [readBack_differ agree within hears]
    refine ⟨fun broken => ?_, fun first before after run starts => ?_⟩
    · have none : ¬16 ≤ leadingDominant ((heard.take i).reverse) + leadingDominant (heard.drop i) := fun long => by
        have most := (leadingDominant_le ((heard.take i).reverse)).1
        have rest := (leadingDominant_le (heard.drop i)).1
        rw [List.length_reverse, List.length_take] at most
        rw [List.length_drop] at rest
        obtain ⟨k, lt, recessive⟩ := broken (i - leadingDominant ((heard.take i).reverse)) (by omega)
        rw [dominantRun inside (by omega) (by omega)] at recessive
        exact nomatch recessive
      dsimp only
      rw [if_neg (fun long => none long.2.1)]
      cases (frameLevels sender f).getD i false <;> simp
    · have low : (!(frameLevels sender f).getD i false) = false :=
        Option.some.inj (hears.symm.trans (run i before after))
      have length : leadingDominant ((heard.take i).reverse) = i - first :=
        leadingDominant_before inside before (fun k lo hi => run k lo (by omega)) starts
      have rest : first + 16 - i ≤ leadingDominant (heard.drop i) := leadingDominant_ge fun k lt => by
        rw [List.getElem?_drop]
        exact run _ (by omega) (by omega)
      have start : i - (i - first) = first := by omega
      dsimp only
      rw [length, start, low]
      rcases Nat.eq_zero_or_pos first with rfl | pos
      · have sent : ∀ k < i, (frameLevels sender f)[k]? = some false := fun k lt => by
          rw [← List.getElem?_take_of_lt lt, ← same, List.getElem?_take_of_lt lt]
          exact run k (Nat.zero_le k) (by omega)
        have early := frameLevels_dominant sent
        have header := headerLevels_ge sender f
        have later : 1 ≤ i := by
          rcases Nat.eq_zero_or_pos i with rfl | pos
          · exact absurd low (by simp [frameLevels, frameBits, stuff])
          · exact pos
        rw [if_neg (by omega), if_pos ⟨rfl, later, by omega⟩, if_pos (by omega)]
      · rw [if_pos ⟨rfl, by omega, pos⟩]
        split <;> rfl

end Sys2Proof.Machine
end

section
/-! Sending (R11 to R14): the start of the head, and what the end of a sending leaves. -/
namespace Sys2Proof.Machine
variable {s t u : State}

/-! ## The frame on the line -/

section onLine
variable {pre post : List Slot} {f : Frame} (off : ∀ y ∈ pre ++ post, y.onLine = false)
include off

theorem onLineFrame_of : onLineFrame (pre ++ { frame := f, onLine := true } :: post) = some f := by
  have none : pre.find? (·.onLine) = none :=
    List.find?_eq_none.mpr fun y mem => by simp [off y (List.mem_append_left _ mem)]
  rw [onLineFrame, List.find?_append, none]
  rfl

theorem removeOnLine_of : removeOnLine (pre ++ { frame := f, onLine := true } :: post) = pre ++ post := by
  have keepsPre : pre.filter (fun x => !x.onLine) = pre :=
    List.filter_eq_self.mpr fun y mem => by simp [off y (List.mem_append_left _ mem)]
  have keepsPost : post.filter (fun x => !x.onLine) = post :=
    List.filter_eq_self.mpr fun y mem => by simp [off y (List.mem_append_right _ mem)]
  rw [removeOnLine, List.filter_append, List.filter_cons_of_neg (by simp), keepsPre, keepsPost]

theorem keepOnLine_of : keepOnLine (pre ++ { frame := f, onLine := true } :: post) =
    pre ++ { frame := f, onLine := false } :: post := by
  have same (q : List Slot) (none : ∀ y ∈ q, y.onLine = false) : q.map (fun x => { x with onLine := false }) = q := by
    exact (List.map_congr_left fun y mem => by rw [← none y mem]; rfl).trans (List.map_id q)
  rw [keepOnLine, List.map_append, List.map_cons, same pre fun y mem => off y (List.mem_append_left _ mem),
    same post fun y mem => off y (List.mem_append_right _ mem)]

theorem supersededOnLine_of : supersededOnLine (pre ++ { frame := f, onLine := true } :: post) f = true ↔
    f.kind = 16 ∧ ∃ y ∈ pre ++ post, y.frame.kind = 16 := by
  rw [supersededOnLine, Bool.and_eq_true, beq_iff_eq, List.any_eq_true]
  refine and_congr_right fun _ => ⟨?_, ?_⟩
  · rintro ⟨y, mem, status⟩
    simp only [Slot.isStatus, Bool.and_eq_true, Bool.not_eq_true', beq_iff_eq] at status
    rcases List.mem_append.mp mem with before | later
    · exact ⟨y, List.mem_append_left _ before, status.2⟩
    · rcases List.mem_cons.mp later with rfl | after
      · exact nomatch status.1
      · exact ⟨y, List.mem_append_right _ after, status.2⟩
  · rintro ⟨y, mem, kind⟩
    refine ⟨y, ?_, Slot.isStatus_of (off y mem) kind⟩
    rcases List.mem_append.mp mem with before | after
    · exact List.mem_append_left _ before
    · exact List.mem_append_right _ (List.mem_cons_of_mem _ after)

end onLine

/-! ## The end of a sending -/

theorem exec_transmitEnd_of {pre post : List Slot} {f : Frame} {heard : List Level} {o : Sending}
    (joined : s.isJoined = true) (queue : s.link.queue = pre ++ { frame := f, onLine := true } :: post)
    (off : ∀ y ∈ pre ++ post, y.onLine = false) (ends : sendingOutcome s.own f heard = some o) :
    exec (.transmitEnd heard) s = .next (endSending (leaveSending f heard o s) f o) := by
  change Host.Outcome.next (transmitEnd s heard) = _
  rw [transmitEnd, queue, onLineFrame_of off]
  dsimp only
  rw [if_pos joined, ends]

/-- R12: with no answer in progress in ACTIVE a frame that leaves the queue lets nothing else go on. -/
theorem frameLeft_still (active : s.quiet.state = .active) (idle : s.log.cursor = .idle) : frameLeft s = s := by
  have entry : s.log.nextEntry = (s.log, none) := by rw [FaultLog.nextEntry, idle]
  have offered : offerLogEntry s = s := by
    unfold offerLogEntry
    rw [entry]
    split <;> rfl
  rw [frameLeft, offered]
  exact if_neg fun due => by simp [active] at due

theorem frameLeft_steps (running : s.held = false) : ∃ v, exec .logEntryOffer s = .next v ∧
    exec .entryIntoQuiet v = .next (frameLeft s) := by
  refine ⟨offerLogEntry s, rfl, congrArg Host.Outcome.next (if_pos ?_)⟩
  have resets : (offerLogEntry s).resets = s.resets := by
    unfold offerLogEntry
    (repeat' split) <;> rfl
  unfold State.held
  rw [resets]
  exact running

theorem recessiveTail_dominant {heard : List Level} (last : heard.getLast? = some false) : recessiveTail heard = 0 := by
  obtain ⟨rest, rfl⟩ := List.getLast?_eq_some_iff.mp last
  simp [recessiveTail]

theorem recessiveTail_run (a : List Level) (k : Nat) : recessiveTail (a ++ false :: List.replicate k true) = k := by
  simp [recessiveTail]

theorem endSending_receiver (s : State) (f : Frame) (o : Sending) : (endSending s f o).receiver = s.receiver := by
  unfold endSending
  (repeat' split) <;> simp

section ends
variable {pre post : List Slot} {f : Frame} (queue : s.link.queue = pre ++ { frame := f, onLine := true } :: post)
  (off : ∀ y ∈ pre ++ post, y.onLine = false)
include queue off

/-- R14: a frame that lost contention stays, unless it is a status with a newer one queued. -/
theorem endSending_stays (stays : f.kind ≠ 16 ∨ ∀ y ∈ pre ++ post, y.frame.kind ≠ 16) : endSending s f .lost =
    { s with link := { s.link with queue := pre ++ { frame := f, onLine := false } :: post } } := by
  have kept : ¬supersededOnLine s.link.queue f = true := by
    rw [queue, supersededOnLine_of off]
    rintro ⟨status, y, mem, newer⟩
    exact stays.elim (fun other => other status) (fun none => none y mem newer)
  rw [endSending, if_neg kept, queue, keepOnLine_of off]

/-- R12, R14: every other frame leaves the queue, one corrupted as a loss, one that lost contention as superseded. -/
theorem endSending_leaves {o : Sending} (leaves : o ≠ .lost ∨ (f.kind = 16 ∧ ∃ y ∈ pre ++ post, y.frame.kind = 16)) :
    endSending s f o = frameLeft { s with link := { s.link with
      queue := pre ++ post
      losses := if o = .corrupted then min 255 (s.link.losses + 1) else s.link.losses
      superseded := if o = .lost then min 255 (s.link.superseded + 1) else s.link.superseded } } := by
  cases o with
  | complete =>
    rw [endSending, queue, removeOnLine_of off]
    rfl
  | corrupted =>
    rw [endSending, queue, removeOnLine_of off]
    rfl
  | lost =>
    have newer : supersededOnLine s.link.queue f = true := by
      rw [queue, supersededOnLine_of off]
      exact leaves.resolve_left fun other => other rfl
    rw [endSending, if_pos newer, queue, removeOnLine_of off]
    rfl

end ends

/-- R170, R175: with the queue left empty an EMPTY_DUE answer is sent, and no entry into QUIET is made. -/
theorem frameLeft_answers (joined : s.isJoined = true) (empty : s.link.queue = []) (due : s.log.cursor = .emptyDue) :
    (frameLeft s).quiet = s.quiet ∧ (frameLeft s).log.cursor = .idle ∧
      (frameLeft s).link.queue = [{ frame := .logEntry (emptyEntry s.log.newest), onLine := false }] := by
  have entry : s.log.nextEntry = ({ s.log with cursor := .idle, remaining := 0 }, some (emptyEntry s.log.newest)) := by
    rw [FaultLog.nextEntry, due]
  have room : roomForLog s.link.queue = true := by rw [empty]; rfl
  have offered : offerLogEntry s = { s with
      log := { s.log with cursor := .idle, remaining := 0 }
      link := { s.link with queue := [{ frame := .logEntry (emptyEntry s.log.newest), onLine := false }] } } := by
    unfold offerLogEntry
    rw [if_pos ⟨joined, room⟩, entry, empty]
    rfl
  rw [frameLeft, offered, quietTest, if_neg (by simp)]
  exact ⟨rfl, rfl, rfl⟩

/-- R175: with the queue left empty and no answer due a station in QUIET_PENDING and Y_IDLE enters QUIET. -/
theorem frameLeft_enters (joined : s.isJoined = true) (empty : s.link.queue = []) (idle : s.log.cursor = .idle)
    (pending : s.quiet.state = .pending) (still : s.yaw.state = .idle) : frameLeft s = enterQuiet s := by
  have entry : s.log.nextEntry = (s.log, none) := by rw [FaultLog.nextEntry, idle]
  have offered : offerLogEntry s = s := by
    unfold offerLogEntry
    rw [entry]
    split <;> rfl
  rw [frameLeft, offered]
  exact if_pos ⟨pending, ((State.isJoined_iff s).mp joined).2, still, empty⟩

/-- Settles O13: the conditions of R11 at the start, and the outcome of the read-back at the end. -/
theorem sendingBeginsAndEnds : Obligations.SendingBeginsAndEnds := by
  refine ⟨fun s x rest r joined queue off unmarked since => ?_,
    fun s pre post f heard joined active idle queue off => ?_,
    fun s pre post f heard o joined queue off ends => ?_⟩
  · have still : s.sending = false := by
      rw [State.sending, queue, List.any_eq_false]
      exact fun y mem => by simp [off y mem]
    refine ⟨fun due free => ?_, fun keeps running near => ?_, fun early => ?_, ?_⟩
    · have clear : s.inGuard = false := by
        unfold State.inGuard
        rcases free with quiet | stopped | before
        · simp [quiet]
        · simp [stopped]
        · simp [Nat.not_le.mpr before]
      have may : s.maySend false = true := by
        simp [State.maySend, joined, lineIdle_of since due unmarked, queue, still, clear]
      refine congrArg Host.Outcome.next ((if_pos may).trans ?_)
      rw [queue]
      rfl
    · have guarded : s.inGuard = true := by simp [State.inGuard, keeps, running, near]
      exact congrArg Host.Outcome.next (if_neg (by simp [State.maySend, guarded]))
    · have busy : ¬s.lineIdle false = true := fun idle => by
        obtain ⟨-, -, t0, start, late⟩ := (s.lineIdle_iff false).mp idle
        rw [since] at start
        cases start
        omega
      exact congrArg Host.Outcome.next (if_neg (by simp [State.maySend, busy]))
    · exact congrArg Host.Outcome.next (if_neg (by simp [State.maySend, State.lineIdle]))
  · have sent {o : Sending} (ends : sendingOutcome s.own f heard = some o) :=
      exec_transmitEnd_of joined queue off ends
    have left (o : Sending) (leaves : o ≠ .lost ∨ (f.kind = 16 ∧ ∃ y ∈ pre ++ post, y.frame.kind = 16)) :=
      (endSending_leaves (s := leaveSending f heard o s) queue off leaves).trans (frameLeft_still active idle)
    refine ⟨fun ends => ⟨_, sent ends, ?_, ?_⟩, fun ends => ⟨_, sent ends, ?_, ?_⟩,
      fun ends => ⟨_, sent ends, ?_, fun stays => ?_, fun status newer => ?_, ?_⟩, fun t o ends done => ?_⟩
    · rw [left .complete (.inl nofun)]
      rfl
    · rw [endSending_receiver]
      rfl
    · rw [left .corrupted (.inl nofun)]
      rfl
    · rw [endSending_receiver]
      rfl
    · by_cases leaves : f.kind = 16 ∧ ∃ y ∈ pre ++ post, y.frame.kind = 16
      · rw [left .lost (.inr leaves)]
        rfl
      · have stays : f.kind ≠ 16 ∨ ∀ y ∈ pre ++ post, y.frame.kind ≠ 16 := by
          exact (not_and_or.mp leaves).imp id fun none y mem kind => none ⟨y, mem, kind⟩
        rw [endSending_stays (s := leaveSending f heard .lost s) queue off stays]
        rfl
    · rw [endSending_stays (s := leaveSending f heard .lost s) queue off stays]
      rfl
    · rw [left .lost (.inr ⟨status, newer⟩)]
      rfl
    · rw [endSending_receiver]
      change (if decide _ = true then _ else _) = _
      simp only [decide_eq_true_eq]
    · obtain rfl : endSending (leaveSending f heard o s) f o = t := Host.Outcome.next.inj ((sent ends).symm.trans done)
      rw [endSending_receiver]
      refine ⟨fun last => if_pos (recessiveTail_dominant last), ?_⟩
      rintro a k rfl some
      have tail := recessiveTail_run a k
      refine (if_neg (by omega)).trans ?_
      rw [tail, Nat.mul_comm]
  · have sent := exec_transmitEnd_of joined queue off ends
    refine ⟨fun lost stays => ?_, fun leaves => ?_⟩
    · subst lost
      refine ⟨_, sent, ?_⟩
      rw [endSending_stays (s := leaveSending f heard .lost s) queue off stays]
      rfl
    · have left := endSending_leaves (s := leaveSending f heard o s) queue off leaves
      have receiver := endSending_receiver (leaveSending f heard o s) f o
      rw [left] at sent receiver
      obtain ⟨running, -⟩ := (State.isJoined_iff s).mp joined
      obtain ⟨v, offers, enters⟩ := frameLeft_steps (s := { leaveSending f heard o s with
        link := { s.link with
          queue := pre ++ post
          losses := if o = .corrupted then min 255 (s.link.losses + 1) else s.link.losses
          superseded := if o = .lost then min 255 (s.link.superseded + 1) else s.link.superseded } }) running
      refine ⟨_, _, v, sent, offers, enters, ?_, fun empty due => ?_, fun empty idle pending still => ?_⟩
      · rw [receiver]
        rfl
      · exact frameLeft_answers joined empty due
      · have entered := frameLeft_enters (s := { leaveSending f heard o s with
          link := { s.link with
            queue := pre ++ post
            losses := if o = .corrupted then min 255 (s.link.losses + 1) else s.link.losses
            superseded := if o = .lost then min 255 (s.link.superseded + 1) else s.link.superseded } })
              joined empty idle
          pending still
        exact entered ▸ ⟨rfl, rfl, rfl⟩

end Sys2Proof.Machine
end

section
/-! Discards and their windows (R9, R19, R20), and the runs that break a frame (R2 to R4). -/
namespace Sys2Proof.Machine
variable {s t u : State}

/-! ## A discard counted -/

theorem countDiscard_few (few : s.link.windowDiscards ≠ 50) :
    countDiscard s = { s with link := { s.link with windowDiscards := min 65535 (s.link.windowDiscards + 1) } } :=
  if_neg few

theorem countDiscard_many (many : s.link.windowDiscards = 50) :
    countDiscard s = reportFault { s with link := { s.link with windowDiscards := 51 } } clsLink 3 .warn 51 := by
  unfold countDiscard
  dsimp only
  rw [if_pos many, many]
  rfl

/-- R151, R166: a WARN of the Link Controller that finds room, from a state moved in its receiver and its counts. -/
theorem linkWarn_made {r : Receiver} {l : LinkControl} {code : Nat} {detail : Int} (offers : s.takesOffers = true)
    (can : s.CanReport) (state : l.state = s.link.state) (queue : l.queue = s.link.queue)
    (counter : l.noticeCounter = s.link.noticeCounter) :
    let t := reportFault { s with receiver := r, link := l } clsLink code .warn detail
    t = { s with receiver := r, log := t.log, link := t.link } ∧ t.link.windowDiscards = l.windowDiscards ∧
    s.Logged t s.own clsLink code 1 1 (some detail) none ∧ s.Noticed t clsLink code 1 1 detail := by
  intro t
  have running : s.link.state = .listen ∨ s.link.state = .joined := by simpa [State.takesOffers] using offers
  obtain ⟨below, room, active⟩ := can
  obtain ⟨whole, -, discards, logged, number, there⟩ := reportWarn_made (s := { s with link := l }) (r := r) (l := l)
    (c := s.cadence) (code := code) (detail := detail) (state ▸ running) ⟨below, queue ▸ room, active⟩ rfl
  dsimp only at number there
  rw [counter] at number there
  exact ⟨whole, discards, logged, number, there⟩

/-- R20: the discard that makes the window's count 51. -/
theorem countDiscard_made {r : Receiver} {l : LinkControl} (offers : s.takesOffers = true) (can : s.CanReport)
    (state : l.state = s.link.state) (queue : l.queue = s.link.queue) (counter : l.noticeCounter = s.link.noticeCounter)
    (many : l.windowDiscards = 50) :
    let t := countDiscard { s with receiver := r, link := l }
    t = { s with receiver := r, log := t.log, link := t.link } ∧ t.link.windowDiscards = 51 ∧
    s.Logged t s.own clsLink 3 1 1 (some 51) none ∧ s.Noticed t clsLink 3 1 1 51 := by
  intro t
  have made := linkWarn_made (r := r) (l := { l with windowDiscards := 51 }) (code := 3) (detail := 51) offers can state
    queue counter
  have eq : t = reportFault { s with receiver := r, link := { l with windowDiscards := 51 } } clsLink 3 .warn 51 :=
    countDiscard_many (s := { s with receiver := r, link := l }) many
  rw [eq]
  exact made

/-! ## Receptions that fail -/

theorem exec_frameReceived (levels : List Level) (on : s.running = true) (receives : s.receives = true) :
    exec (.frameReceived levels) s = .next (endReception (countCorrection (receive levels).1
      (leaveReception (receive levels).2 s)) (receive levels).2) :=
  congrArg Host.Outcome.next (frameReceived_taken s levels on receives)

/-- R7, R19: the link with a correction counted. -/
def LinkControl.correction (l : LinkControl) (corrected : Bool) : LinkControl :=
  { l with corrected := if corrected then min 255 (l.corrected + 1) else l.corrected }

theorem countCorrection_eq (corrected : Bool) (s : State) :
    countCorrection corrected s = { s with link := s.link.correction corrected } := by
  cases corrected <;> rfl

theorem enterStopping_link (s : State) : (enterStopping s).link = s.link := by
  rw [enterStopping, setYaw_eq]

/-- Settles O10: a failed reception by how its checks end, and the two windows at their ends. -/
theorem discardsAndTheirWindows : Obligations.DiscardsAndTheirWindows := by
  refine ⟨fun s levels out => ?_, fun s levels corrected on receives few => ?_,
    fun s levels sender f good on receives => ?_, fun s levels on receives offers can many fails => ?_,
    fun s t0 on => ⟨fun timer due => ?_, fun timer early => ?_, fun timer due loud => ?_, fun timer due silent => ?_,
      fun timer early => ?_⟩⟩
  · have none : s.receives = false := by
      rw [Bool.eq_false_iff, Ne, State.receives_iff]
      rintro ⟨phase, still⟩
      rcases out with other | sending
      · exact other phase
      · exact Bool.false_ne_true (still.symm.trans sending)
    exact congrArg Host.Outcome.next (frameReceived_ignored s levels none)
  · intro link
    rw [exec_frameReceived levels on receives]
    refine ⟨fun ends => ?_, fun ends => ?_, fun ends => ?_⟩
    · rw [ends, countCorrection_eq]
      exact congrArg Host.Outcome.next (countDiscard_few (by exact few))
    · rw [ends, countCorrection_eq]
      exact congrArg Host.Outcome.next (countDiscard_few (by exact few))
    · rw [ends, countCorrection_eq]
      exact congrArg Host.Outcome.next (countDiscard_few (by exact few))
  · intro counted
    have taken : exec (.frameReceived levels) s = .next (dispatch counted.received sender f) := by
      rw [exec_frameReceived levels on receives, good, countCorrection_eq]
      rfl
    refine ⟨fun clean same => ?_, fun joined e entry => ?_, fun joined part driving stop => ?_⟩
    · rw [taken, exec_frameReceived (s := counted) clean on receives, same]
      rfl
    · rw [taken, entry]
      rfl
    · refine ⟨_, taken, ?_⟩
      have stopped : dispatch counted.received sender f = enterStopping counted.received := by
        rw [stop]
        change (if (s.link.state == .joined) = true then takeStop counted.received sender _ _ else _) = _
        rw [if_pos (by simp [joined]), takeStop, if_pos ⟨part, rfl, rfl⟩]
        have state : counted.received.yaw.state = .driving := driving
        rw [state]
      rw [stopped, enterStopping_link]
      exact ⟨by simp [enterStopping], rfl⟩
  · have ends : ∃ r l, l.state = s.link.state ∧ l.queue = s.link.queue ∧ l.noticeCounter = s.link.noticeCounter ∧
        l.windowDiscards = 50 ∧ endReception (countCorrection (receive levels).1
          (leaveReception (receive levels).2 s)) (receive levels).2 =
          countDiscard { s with receiver := r, link := l } := by
      rw [countCorrection_eq]
      rcases fails with ends | ends | ends <;> rw [ends]
      · exact ⟨_, s.link.correction (receive levels).1, rfl, rfl, rfl, many, rfl⟩
      · exact ⟨_, s.link.correction (receive levels).1, rfl, rfl, rfl, many, rfl⟩
      · exact ⟨_, { s.link.correction (receive levels).1 with foreign := countHeld 255 s.link.foreign }, rfl, rfl, rfl,
          many, rfl⟩
    obtain ⟨r, l, state, queue, counter, fifty, eq⟩ := ends
    obtain ⟨whole, discards, logged, noticed⟩ := countDiscard_made (r := r) offers can state queue counter fifty
    refine ⟨_, exec_frameReceived levels on receives, ?_⟩
    rw [eq]
    have receiver : (countDiscard { s with receiver := r, link := l }).receiver = r := by rw [whole]
    rw [receiver]
    exact ⟨whole, discards, logged, noticed⟩
  · refine congrArg Host.Outcome.next ((if_pos ⟨on, reached_of timer due⟩).trans ?_)
    rw [timer]
    rfl
  · exact congrArg Host.Outcome.next (if_neg (by simp [not_reached_of timer early]))
  · refine congrArg Host.Outcome.next ((if_pos ⟨on, reached_of timer due⟩).trans ?_)
    have : s.isSilent = false := by simp [State.isSilent, loud]
    rw [timer, this]
    rfl
  · refine congrArg Host.Outcome.next ((if_pos ⟨on, reached_of timer due⟩).trans ?_)
    obtain ⟨free, -⟩ := (State.running_iff s).mp on
    have : s.isSilent = true := by simp [State.isSilent, silent, free]
    rw [timer, this]
    rfl
  · exact congrArg Host.Outcome.next (if_neg (by simp [not_reached_of timer early]))

end Sys2Proof.Machine
end

section
/-! What each dominant run does to the receiver and to the window's count (R2 to R4, R19, R20). -/
namespace Sys2Proof.Machine
variable {s t u : State}

/-! ## What leaves the count of discards alone -/

@[simp] theorem offerNotice_counts (s : State) (cls code severity action : Nat) (detail : Int) :
    (offerNotice s cls code severity action detail).link.windowDiscards = s.link.windowDiscards ∧
    (offerNotice s cls code severity action detail).link.lastStuckReport = s.link.lastStuckReport := by
  unfold offerNotice LinkControl.lose
  (repeat' split) <;> exact ⟨rfl, rfl⟩

theorem reportFault_counts {cls code : Nat} {severity : Severity} (s : State) (detail : Int)
    (notNote : severity ≠ .note) (apart : barsSession cls code = false) :
    (reportFault s cls code severity detail).link.windowDiscards = s.link.windowDiscards ∧
    (reportFault s cls code severity detail).link.lastStuckReport = s.link.lastStuckReport := by
  rw [reportFault_apart s severity detail apart, takeReport_eq s cls code detail notNote]
  obtain ⟨link, -⟩ := tripFirst_frame s cls code severity
  simp [link]

@[simp] theorem missReply_discards (s : State) : (missReply s).link.windowDiscards = s.link.windowDiscards := by
  rcases missReply_cases s with silent | reports
  · rw [silent]
  · rw [reports]
    exact (reportFault_counts _ _ (by split <;> simp) (by decide)).1

theorem beginPeriod_discards (s : State) (first : Nat) :
    (beginPeriod s first).link.windowDiscards = s.link.windowDiscards := by
  unfold beginPeriod periodWork beginExchange completeStop startTest
  dsimp only
  (repeat' split) <;> simp

theorem hearMark_discards (s : State) (first : Nat) :
    (hearMark s first).link.windowDiscards = s.link.windowDiscards := by
  unfold hearMark
  split
  · exact beginPeriod_discards ..
  · split
    · exact beginPeriod_discards ..
    · unfold countEarly
      dsimp only
      split
      · exact (reportFault_counts _ _ (by simp) (by decide)).1
      · rfl

theorem quietHearsMark_discards (s : State) (first : Nat) :
    (quietHearsMark s first).link.windowDiscards = s.link.windowDiscards := by
  unfold quietHearsMark hearCallMark callHearsMark
  dsimp only
  (repeat' split) <;> simp

theorem handMark_discards (s : State) (first : Nat) :
    (handMark s first).link.windowDiscards = s.link.windowDiscards := by
  unfold handMark
  split
  · exact hearMark_discards ..
  · split
    · exact hearMark_discards ..
    · exact quietHearsMark_discards ..
  all_goals rfl

/-! ## The run in the receiver -/

/-- R2, R19: the window's count after a run that breaks a frame, or does not. -/
def State.discardsAfter (s : State) (c : RunClass) (start : Nat) : Nat :=
  if runBreaks c start (s.phaseAt start) = true then min 65535 (s.link.windowDiscards + 1) else s.link.windowDiscards

theorem countDiscard_counts (s : State) :
    (countDiscard s).link.windowDiscards = min 65535 (s.link.windowDiscards + 1) ∧
    (countDiscard s).link.lastStuckReport = s.link.lastStuckReport := by
  by_cases many : s.link.windowDiscards = 50
  · rw [countDiscard_many many, many]
    exact reportFault_counts _ _ (by simp) (by decide)
  · rw [countDiscard_few many]
    exact ⟨rfl, rfl⟩

theorem receiveRun_result (s : State) (c : RunClass) (start : Nat) :
    (receiveRun s c start).receiver = { s.receiver with phase := phaseAfterRun c (s.phaseAt start) } ∧
    (receiveRun s c start).link.windowDiscards = s.discardsAfter c start ∧
    (receiveRun s c start).link.lastStuckReport = s.link.lastStuckReport := by
  unfold State.discardsAfter
  rcases receiveRun_cases s c start with ⟨breaks, run⟩ | ⟨whole, run⟩
  · rw [run, if_pos breaks]
    exact ⟨(countDiscard_frame _).2.2.2.2.2.1, countDiscard_counts _⟩
  · rw [run, if_neg (by simp [whole])]
    exact ⟨rfl, rfl, rfl⟩

/-- R2: what the end of a run leaves of the receiver and the count, whatever it is handed on as. -/
theorem dominantRunEnd_result {length : Nat} {early : Fin 4} (on : s.running = true) :
    let c := classifyRun length
    let start := s.now - (4 * length + early)
    (dominantRunEnd s length early).receiver =
      { phase := phaseAfterRun c (s.phaseAt start), recessiveSince := some s.now } ∧
    (dominantRunEnd s length early).link.windowDiscards = s.discardsAfter c start := by
  intro c start
  obtain ⟨receiver, discards, -⟩ := receiveRun_result s c start
  have ended : (endRun (receiveRun s c start)).receiver =
      { phase := phaseAfterRun c (s.phaseAt start), recessiveSince := some s.now } := by
    rw [endRun, receiver, (receiveRun_frame s c start).2.1]
  have counted : (endRun (receiveRun s c start)).link.windowDiscards = s.discardsAfter c start := discards
  unfold dominantRunEnd
  rw [if_pos on]
  dsimp only
  rw [runStart_eq]
  split
  · have link : (endOwnMark (endRun (receiveRun s c start))).link.windowDiscards =
        (endRun (receiveRun s c start)).link.windowDiscards := by simp [endOwnMark]
    exact ⟨(endOwnMark_frame _).2.2.2.2.2.1.trans ended, link.trans counted⟩
  · split
    · have framed := (handMark_moves (may := fun p => p = .offsets ∨ p = .start) (.refl (endRun (receiveRun s c start)))
        start (.inl rfl) (.inr rfl)).framed
      exact ⟨(framed.receiver (by simp) (by simp)).trans ended, (handMark_discards ..).trans counted⟩
    · exact ⟨ended, counted⟩

theorem classifyRun_cases (length : Nat) : (length ≤ 5 ∧ classifyRun length = .frameBits) ∨
    (6 ≤ length ∧ length ≤ 15 ∧ classifyRun length = .symbolError) ∨
    (16 ≤ length ∧ (classifyRun length = .mark ∨ classifyRun length = .stuck)) := by
  unfold classifyRun
  split
  · exact .inl ⟨by assumption, rfl⟩
  · split
    · exact .inr (.inl ⟨by omega, by assumption, rfl⟩)
    · refine .inr (.inr ⟨by omega, ?_⟩)
      split <;> simp

/-- R2: a run that is no mark, and was not the station's own, is handed on to nobody. -/
theorem dominantRunEnd_plain {length : Nat} {early : Fin 4} (on : s.running = true) (unmarked : s.link.ownMark = none)
    (plain : length ≤ 15 ∨ 24 < length) : dominantRunEnd s length early =
      endRun (receiveRun s (classifyRun length) (s.now - (4 * length + early))) := by
  have other : classifyRun length ≠ .mark := by
    unfold classifyRun
    rcases plain with short | long
    · rw [if_pos short]
      split <;> nofun
    · rw [if_neg (by omega), if_neg (by omega), if_neg (by omega)]
      nofun
  have none : s.link.ownMark.isSome = false := by rw [unmarked]; rfl
  unfold dominantRunEnd
  rw [if_pos on]
  dsimp only
  rw [if_neg (by simp [none]), if_neg other, runStart_eq]

section phases
variable {start : Nat}

theorem phaseAt_sending (sending : s.sending = true) : s.phaseAt start = .abandoned := if_pos sending

theorem idleAt_iff_since : s.receiver.idleAt start = true ↔ ∃ r, s.receiver.recessiveSince = some r ∧ r + 48 ≤ start :=
  Receiver.idleAt_iff s.receiver start

theorem phaseAt_idle (still : s.sending = false)
    (idle : ∃ r, s.receiver.recessiveSince = some r ∧ r + 48 ≤ start) : s.phaseAt start = .idle := by
  rw [State.phaseAt, if_neg (by simp [still])]
  exact if_pos (idleAt_iff_since.mpr idle)

theorem phaseAt_busy (still : s.sending = false)
    (busy : ¬∃ r, s.receiver.recessiveSince = some r ∧ r + 48 ≤ start) : s.phaseAt start = s.receiver.phase := by
  rw [State.phaseAt, if_neg (by simp [still])]
  exact if_neg fun idle => busy (idleAt_iff_since.mp idle)

end phases

section runs
variable (length start : Nat)

theorem run_fromIdle : phaseAfterRun (classifyRun length) .idle = (if length ≤ 5 then .receiving else .abandoned) ∧
    (runBreaks (classifyRun length) start .idle = true ↔ 6 ≤ length ∧ length ≤ 15) := by
  rcases classifyRun_cases length with ⟨short, run⟩ | ⟨low, high, run⟩ | ⟨long, run | run⟩ <;> rw [run] <;>
    simp [phaseAfterRun, runBreaks] <;> omega

theorem run_fromReceiving :
    phaseAfterRun (classifyRun length) .receiving = (if length ≤ 5 then .receiving else .abandoned) ∧
    (runBreaks (classifyRun length) start .receiving = true ↔ 6 ≤ length) := by
  rcases classifyRun_cases length with ⟨short, run⟩ | ⟨low, high, run⟩ | ⟨long, run | run⟩ <;> rw [run] <;>
    simp [phaseAfterRun, runBreaks] <;> omega

theorem run_fromAwaiting (e : Nat) : runBreaks (classifyRun length) start (.awaitingIdle e) = true ↔
    (length ≤ 5 ∧ e ≤ start) ∨ (6 ≤ length ∧ length ≤ 15) := by
  rcases classifyRun_cases length with ⟨short, run⟩ | ⟨low, high, run⟩ | ⟨long, run | run⟩ <;> rw [run] <;>
    simp [runBreaks] <;> omega

end runs

theorem discardsAfter_eq {c : RunClass} {start : Nat} {p : ReceiverPhase} {q : Prop} [Decidable q]
    (phase : s.phaseAt start = p) (breaks : runBreaks c start p = true ↔ q) : s.discardsAfter c start =
      if q then min 65535 (s.link.windowDiscards + 1) else s.link.windowDiscards := by
  unfold State.discardsAfter
  rw [phase]
  simp only [breaks]

/-- R20: a run that leaves 51 of 50 has broken a frame. -/
theorem breaks_of_51 {c : RunClass} {start : Nat} (fifty : s.link.windowDiscards = 50)
    (more : s.discardsAfter c start = 51) : receiveRun s c start = countDiscard
      { s with receiver := { s.receiver with phase := phaseAfterRun c (s.phaseAt start) } } := by
  rcases receiveRun_cases s c start with ⟨-, run⟩ | ⟨whole, -⟩
  · exact run
  · rw [State.discardsAfter, if_neg (by simp [whole]), fifty] at more
    exact absurd more (by decide)

/-! ## A run past 24 bit times -/

/-- R4: the report of a stuck run is due. -/
def State.StuckDue (s : State) : Prop := ∀ t0, s.link.lastStuckReport = some t0 → t0 + Config.stuckSpacing ≤ s.now

theorem reportStuck_due (due : s.StuckDue) : reportStuck s =
    reportFault { s with link := { s.link with lastStuckReport := some s.now } } clsLink 4 .warn 0 := by
  unfold reportStuck
  dsimp only
  cases last : s.link.lastStuckReport with
  | none => rfl
  | some t0 => rw [if_pos (decide_eq_true (due t0 last))]

theorem run_stuck (start : Nat) (p : ReceiverPhase) : runBreaks .stuck start p = true ↔ p = .receiving := by
  cases p <;> simp [runBreaks]

theorem reportStuck_early (early : ¬s.StuckDue) : reportStuck s = s := by
  unfold reportStuck
  dsimp only
  cases last : s.link.lastStuckReport with
  | none => exact absurd (fun t0 eq => by rw [last] at eq; cases eq) early
  | some t0 =>
    refine if_neg fun late => early fun t1 eq => ?_
    rw [last] at eq
    cases eq
    exact of_decide_eq_true late

theorem reportStuck_counts (s : State) : (reportStuck s).receiver = s.receiver ∧
    (reportStuck s).link.windowDiscards = s.link.windowDiscards := by
  by_cases due : s.StuckDue
  · rw [reportStuck_due due]
    exact ⟨by simp, (reportFault_counts _ _ (by simp) (by decide)).1⟩
  · rw [reportStuck_early due]
    exact ⟨rfl, rfl⟩

/-- Settles O8: the run by its class, in the phase the receiver was in at its first bit. -/
theorem dominantRunsCounted : Obligations.DominantRunsCounted := by
  refine ⟨fun s length early on some => ?_, fun s early on => ?_⟩
  · intro start idle same more
    obtain ⟨receiver, discards⟩ := dominantRunEnd_result (length := length) (early := early) on
    refine ⟨_, rfl, ?_⟩
    rw [receiver, discards]
    refine ⟨rfl, fun sending => ?_, fun still isIdle => ?_, fun still busy receiving => ?_,
      fun e still busy awaiting => ?_, fun busy abandoned => ?_, fun unmarked plain few => ?_,
      fun unmarked plain fifty reached offers can => ?_⟩
    · have phase := phaseAt_sending (start := start) sending
      exact ⟨by rw [phase]; rfl, by rw [State.discardsAfter, phase]; rfl⟩
    · have phase := phaseAt_idle still isIdle
      obtain ⟨next, breaks⟩ := run_fromIdle length start
      exact ⟨by rw [phase]; exact next, discardsAfter_eq phase breaks⟩
    · have phase := (phaseAt_busy still busy).trans receiving
      obtain ⟨next, breaks⟩ := run_fromReceiving length start
      exact ⟨by rw [phase]; exact next, discardsAfter_eq phase breaks⟩
    · have phase := (phaseAt_busy still busy).trans awaiting
      exact ⟨by rw [phase]; rfl, discardsAfter_eq phase (run_fromAwaiting length start e)⟩
    · have phase : s.phaseAt start = .abandoned := by
        cases sending : s.sending with
        | true => exact phaseAt_sending sending
        | false => exact (phaseAt_busy sending busy).trans abandoned
      exact ⟨by rw [phase]; rfl, by rw [State.discardsAfter, phase]; rfl⟩
    · have run := dominantRunEnd_plain (early := early) on unmarked plain
      change dominantRunEnd s length early = _
      rw [run]
      rcases receiveRun_cases s (classifyRun length) start with ⟨breaks, hit⟩ | ⟨whole, hit⟩
      · rw [State.discardsAfter, if_pos breaks, hit, countDiscard_few (by exact few)]
        rfl
      · rw [State.discardsAfter, if_neg (fun breaks => Bool.false_ne_true (whole.symm.trans breaks)), hit]
        rfl
    · have run := dominantRunEnd_plain (early := early) on unmarked plain
      have broken := breaks_of_51 fifty reached
      obtain ⟨whole, -, logged, noticed⟩ := countDiscard_made (l := s.link)
        (r := { s.receiver with phase := phaseAfterRun (classifyRun length) (s.phaseAt start) }) offers can rfl rfl rfl
        fifty
      change dominantRunEnd s length early = _ ∧ s.Logged (dominantRunEnd s length early) _ _ _ _ _ _ _ ∧
        s.Noticed (dominantRunEnd s length early) _ _ _ _ _
      rw [run, broken]
      generalize countDiscard _ = v at whole logged noticed ⊢
      refine ⟨?_, logged, noticed⟩
      rw [endRun, whole]
  · intro start idle breaks due
    obtain ⟨receiver, discards, last⟩ := receiveRun_result s .stuck start
    have since : (holdRun (receiveRun s .stuck start)).receiver =
        { phase := phaseAfterRun .stuck (s.phaseAt start), recessiveSince := none } := by rw [holdRun, receiver]
    have dueIff : (holdRun (receiveRun s .stuck start)).StuckDue ↔ due := by
      unfold State.StuckDue
      rw [holdRun_now, (receiveRun_frame s .stuck start).2.1]
      change (∀ t0, (receiveRun s .stuck start).link.lastStuckReport = Option.some t0 → _) ↔ _
      rw [last]
    have breaksIff : s.phaseAt start = .receiving ↔ breaks := by
      constructor
      · intro phase
        have still : s.sending = false := by
          rw [← Bool.not_eq_true]
          intro sending
          rw [phaseAt_sending sending] at phase
          exact nomatch phase
        have busy : ¬idle := fun isIdle => by
          rw [phaseAt_idle still isIdle] at phase
          exact nomatch phase
        exact ⟨still, busy, (phaseAt_busy still busy).symm.trans phase⟩
      · rintro ⟨still, busy, receiving⟩
        exact (phaseAt_busy still busy).trans receiving
    have held : exec (.stuckDominant early) s = .next (reportStuck (holdRun (receiveRun s .stuck start))) :=
      congrArg Host.Outcome.next (if_pos on)
    obtain ⟨receiver', discards'⟩ := reportStuck_counts (holdRun (receiveRun s .stuck start))
    have whole (unbroken : ¬breaks) : holdRun (receiveRun s .stuck start) =
        { s with receiver := { phase := phaseAfterRun .stuck (s.phaseAt start), recessiveSince := none } } := by
      rcases receiveRun_cases s .stuck start with ⟨hit, -⟩ | ⟨-, run⟩
      · exact absurd (breaksIff.mp ((run_stuck start _).mp hit)) unbroken
      · rw [run]
        rfl
    refine ⟨_, held, ?_⟩
    rw [receiver', discards', since]
    change _ ∧ _ ∧ _ ∧ (_ → (receiveRun s .stuck start).link.windowDiscards = _) ∧
      (_ → (receiveRun s .stuck start).link.windowDiscards = _) ∧ _
    rw [discards]
    refine ⟨rfl, fun out => ?_, fun e still busy awaiting => ?_, fun broken => ?_, fun unbroken => ?_, fun late => ?_,
      fun unbroken early => ?_, fun unbroken late offers can => ?_⟩
    · by_cases sending : s.sending = true
      · rw [phaseAt_sending sending]
        rfl
      have still : s.sending = false := by simpa using sending
      by_cases isIdle : idle
      · rw [phaseAt_idle still isIdle]
        rfl
      · rw [phaseAt_busy still isIdle]
        rcases out with driven | atIdle | receiving | abandoned
        · exact absurd driven sending
        · exact absurd atIdle isIdle
        · rw [receiving]
          rfl
        · rw [abandoned]
          rfl
    · rw [phaseAt_busy still busy, awaiting]
      rfl
    · exact if_pos ((run_stuck start _).mpr (breaksIff.mpr broken))
    · exact if_neg fun hit => unbroken (breaksIff.mp ((run_stuck start _).mp hit))
    · rw [reportStuck_due (dueIff.mpr late), (reportFault_counts _ _ (by simp) (by decide)).2]
      exact congrArg Option.some (receiveRun_frame s .stuck start).2.1
    · rw [reportStuck_early (fun hit => early (dueIff.mp hit))]
      exact whole unbroken
    · have made := linkWarn_made (l := { s.link with lastStuckReport := Option.some s.now }) (code := 4) (detail := 0)
        (r := { phase := phaseAfterRun .stuck (s.phaseAt start), recessiveSince := none }) offers can rfl rfl rfl
      rw [reportStuck_due (dueIff.mpr late), whole unbroken]
      exact ⟨made.1, made.2.2⟩

end Sys2Proof.Machine
end

section
/-! The clash that silences a station (R22, R147, R172), and the silence kept (R21, R23). -/
namespace Sys2Proof.Machine
variable {may : Part → Prop} {s t u : State}

/-! ## The clash -/

theorem endLocally_checkTimer (s : State) : (endLocally s).yaw.checkTimer = s.yaw.checkTimer := by
  unfold endLocally
  dsimp only
  rw [setYaw_eq]
  (repeat' split) <;> rfl

/-- R22, R152: the silenced station with LINK 1 in its cause set and its record written, before the wake cause. -/
def clashed (s : State) : State :=
  enterRecord (tripThread (addCause (silence s) clsLink 1)) s.own clsLink 1 2 6 (some s.own) none

theorem silence_own (s : State) : (silence s).own = s.own := by
  rw [silence_eq]
  rfl

theorem addressClash_wakes (s : State) : addressClash s = wakeCause (clashed s) := by
  have action : reportAction (silence s) clsLink 1 .tripThread = .silenced := rfl
  have closed : (enterRecord (tripFirst (silence s) clsLink 1 .tripThread) (silence s).own clsLink 1
      Severity.tripThread.code FaultAction.silenced.code (some (s.own : Int)) none).takesOffers = false := by
    obtain ⟨link, -⟩ := tripFirst_frame (silence s) clsLink 1 .tripThread
    have state : (silence s).link.state = .silent := by rw [silence_eq]; rfl
    simp [State.takesOffers, link, state]
  rw [addressClash_report, takeReport_eq _ _ _ _ (by simp), action, (offer_closed _ closed).2.2, silence_own]
  rfl

theorem clashed_frame (s : State) : (clashed s).link = (goSilent s).link ∧ (clashed s).quiet = s.quiet ∧
    (clashed s).cadence = s.cadence ∧ (clashed s).now = s.now ∧ (clashed s).yaw = (silence s).yaw ∧
    (clashed s).log = (goSilent s).log.enter s.now s.own clsLink 1 2 6 (some s.own) none ∧
    (clashed s).thread.state = .tripped := by
  obtain ⟨link, log, quiet, cadence, now, -⟩ := tripFirst_frame (silence s) clsLink 1 .tripThread
  have state : (tripThread (addCause (silence s) clsLink 1)).thread.state = .tripped := by simp
  have yaw : (tripThread (addCause (silence s) clsLink 1)).yaw = (silence s).yaw := by simp
  have same : (silence s).link = (goSilent s).link ∧ (silence s).quiet = s.quiet ∧ (silence s).cadence = s.cadence ∧
      (silence s).now = s.now ∧ (silence s).log = (goSilent s).log := by
    rw [silence_eq]
    exact ⟨rfl, rfl, rfl, rfl, rfl⟩
  refine ⟨link.trans same.1, quiet.trans same.2.1, cadence.trans same.2.2.1, now.trans same.2.2.2.1, yaw, ?_, state⟩
  change FaultLog.enter (tripFirst (silence s) clsLink 1 .tripThread).log
    (tripFirst (silence s) clsLink 1 .tripThread).now _ _ _ _ _ _ _ = _
  rw [log, now, same.2.2.2.1, same.2.2.2.2]

theorem FaultLog.enter_remaining (l : FaultLog) (now origin cls code severity action : Nat) (detail : Option Int)
    (number : Option Nat) : (l.enter now origin cls code severity action detail number).remaining = l.remaining := by
  unfold FaultLog.enter
  (repeat' split) <;> rfl

/-- R175, R177: the clash is a wake cause: a station in QUIET returns, and one in QUIET_PENDING is ACTIVE. -/
theorem wakeCause_silent_cases (silent : s.link.state = .silent) :
    (s.quiet.state ≠ .quiet → (wakeCause s).quiet.state = .active ∧ (wakeCause s).cadence = s.cadence) ∧
    (s.quiet.state = .quiet → wakeCause s = returnToActive s) := by
  unfold wakeCause
  cases state : s.quiet.state with
  | active => exact ⟨fun _ => ⟨state, rfl⟩, nofun⟩
  | pending => exact ⟨fun _ => ⟨rfl, rfl⟩, nofun⟩
  | quiet => exact ⟨fun other => absurd rfl other, fun _ => if_pos silent⟩

/-! ## The silence kept -/

/-- R21, R23: the station is SILENT with nothing queued, and drives at most the mark it was driving. -/
def State.KeepsSilent (s : State) (mark : Option Nat) : Prop :=
  s.link.state = .silent ∧ s.link.queue = [] ∧ (s.link.ownMark = none ∨ s.link.ownMark = mark)

theorem State.KeepsSilent.congr {mark : Option Nat} (silent : s.KeepsSilent mark) (link : t.link = s.link) :
    t.KeepsSilent mark := by
  unfold State.KeepsSilent
  rw [link]
  exact silent

theorem Move.keepsSilent {mark : Option Nat} (move : Move may s t) (silent : s.KeepsSilent mark) :
    t.KeepsSilent mark := by
  have closed := offer_closed s (by simp [State.takesOffers, silent.1])
  have unjoined : s.isJoined = false := by simp [State.isJoined, silent.1]
  obtain ⟨state, queue, marked⟩ := silent
  cases move with
  | plain same => rw [same]; exact ⟨state, queue, marked⟩
  | record => exact ⟨state, queue, marked⟩
  | link move =>
    cases move with
    | offerYaw => rw [closed.1]; exact ⟨state, queue, marked⟩
    | offerStatus => rw [closed.2.1]; exact ⟨state, queue, marked⟩
    | offerNotice => rw [closed.2.2]; exact ⟨state, queue, marked⟩
    | offerLogEntry =>
      rw [offerLogEntry, if_neg (by simp [unjoined])]
      exact ⟨state, queue, marked⟩
    | startHead => exact ⟨state, by simp [queue, Machine.startHead], marked⟩
    | removeOnLine => exact ⟨state, by simp [queue, Machine.removeOnLine], marked⟩
    | keepOnLine => exact ⟨state, by simp [queue, Machine.keepOnLine], marked⟩
    | mark joined => exact absurd joined (by simp [unjoined])
    | unmark => exact ⟨state, queue, .inl rfl⟩
  | thread move => exact State.KeepsSilent.congr ⟨state, queue, marked⟩ (by rw [move.footprint])
  | quiet move => exact State.KeepsSilent.congr ⟨state, queue, marked⟩ (by rw [move.footprint])
  | cadence move => exact State.KeepsSilent.congr ⟨state, queue, marked⟩ (by rw [move.footprint])
  | yaw move => exact State.KeepsSilent.congr ⟨state, queue, marked⟩ (by rw [move.footprint])
  | block move => cases move <;> exact ⟨state, queue, marked⟩
  | state move =>
    cases move with
    | join listening => exact absurd listening (by simp [state])
    | reject image unread => exact absurd unread (by simp [state])
    | accept image unread => exact absurd unread (by simp [state])

/-- Settles O17: what the clash does, step by step, and that no move ends the silence. -/
theorem clashSilences : Obligations.ClashSilences := by
  refine ⟨fun s levels r free receives good => ⟨fun state below => ?_, fun silent => ?_⟩,
    fun c s t silent queue done power input release => ?_⟩
  · have on : s.running = true := (State.running_iff s).mpr ⟨free, state.imp id .inl⟩
    have clash : dispatch s.received s.own (.threadStatus r) = addressClash s.received := by
      change dispatchStatus s.received s.own r = _
      have loud : ¬s.received.link.state = .silent := by
        change ¬s.link.state = .silent
        rcases state with h | h <;> simp [h]
      exact (if_pos rfl).trans (if_neg loud)
    refine ⟨addressClash s.received, congrArg Host.Outcome.next
      ((frameReceived_dispatch on receives good).trans clash), ?_⟩
    generalize received : s.received = u
    obtain ⟨link, quiet, cadence, now, yaw, log, thread⟩ := clashed_frame u
    have silent : (clashed u).link.state = .silent := by rw [link]; rfl
    obtain ⟨awake, asleep⟩ := wakeCause_silent_cases silent
    have framed := (silence_framed (may := (· = .cursor)) (s := u) rfl).trans (addressClash_moves u).framed
    have threads : (addressClash u).table.threads = u.table.threads := framed.threads (by simp) (by simp) (by simp)
    have controller : (addressClash u).table.controller = u.table.controller := framed.controller (by simp)
    have cause := holdsCause_addressClash u
    rw [addressClash_wakes] at threads controller cause ⊢
    have kept := wakeCause_footprint (clashed u)
    have linkKept : (wakeCause (clashed u)).link = (goSilent u).link := by rw [kept]; exact link
    have yawKept : (wakeCause (clashed u)).yaw = (silence u).yaw := by rw [kept]; exact yaw
    have logKept : (wakeCause (clashed u)).log =
        (goSilent u).log.enter u.now u.own clsLink 1 2 6 (some u.own) none := by rw [kept]; exact log
    have threadKept : (wakeCause (clashed u)).thread.state = .tripped := by rw [kept]; exact thread
    subst received
    rw [linkKept, yawKept, threadKept, threads, controller]
    refine ⟨rfl, rfl, rfl, silence_state _, endLocally_checkTimer _, fun busy =>
      endLocally_outputs (by exact busy), rfl,
      cause, ?_, ?_, logged_of_log (s := goSilent s.received) below logKept, rfl, rfl, ?_, fun other => ?_,
      fun isQuiet => ?_⟩
    · rw [logKept, FaultLog.enter_cursor]
      rfl
    · rw [logKept, FaultLog.enter_remaining]
      rfl
    · by_cases isQuiet : (clashed s.received).quiet.state = .quiet
      · rw [asleep isQuiet]
        rfl
      · exact (awake isQuiet).1
    · exact (awake (by rw [quiet]; exact other)).2.trans cadence
    · rw [asleep (by rw [quiet]; exact isQuiet)]
      refine ⟨rfl, rfl, rfl, rfl, ?_⟩
      change { (clashed s.received).cadence with
        reference := .seeking, seekCount := 0, timer := some (clashed s.received).now,
        expiry := Config.wakeExpiry, overdue := false } = _
      rw [cadence, now]
      rfl
  · have on : s.running = true := (State.running_iff s).mpr ⟨free, .inr (.inr silent)⟩
    exact congrArg Host.Outcome.next ((frameReceived_dispatch on receives good).trans
      ((if_pos rfl).trans (if_pos silent)))
  · have notReset : c.isReset = false := notReset_iff.mpr ⟨power, input, release⟩
    have start : s.KeepsSilent s.link.ownMark := ⟨silent, queue, .inr rfl⟩
    cases does_of_exec done notReset with
    | moves moves => exact moves.keep (P := fun u => u.KeepsSilent s.link.ownMark) Move.keepsSilent start
    | clash moves running =>
      have kept := moves.keep (P := fun u => u.KeepsSilent s.link.ownMark) Move.keepsSilent start
      exact absurd kept.1 (by rcases running with h | h <;> simp [h])

end Sys2Proof.Machine
end

section
/-! The log requests taken and the answers offered (R17, R168 to R170). -/
namespace Sys2Proof.Machine
variable {s t u : State}

/-! ## The cursor -/

theorem FaultLog.request_newer {l : FaultLog} {fromSequence : Nat} (count : Nat)
    (newer : l.newest < if fromSequence = 0 then 1 else fromSequence) :
    l.request fromSequence count = { l with cursor := .emptyDue, remaining := 1 } := by
  refine if_pos ?_
  split at newer <;> omega

theorem FaultLog.request_held {l : FaultLog} {fromSequence : Nat} (count : Nat)
    (least : l.overwritten + 1 ≤ if fromSequence = 0 then 1 else fromSequence)
    (most : (if fromSequence = 0 then 1 else fromSequence) ≤ l.newest) :
    l.request fromSequence count = { l with
      cursor := .answering
      next := if fromSequence = 0 then 1 else fromSequence
      remaining := if count = 0 then 1 else if 16 < count then 16 else count
      gap := false } := by
  have first : max 1 fromSequence = if fromSequence = 0 then 1 else fromSequence := by split <;> omega
  have clamped : (if count = 0 then 1 else min 16 count) =
      if count = 0 then 1 else if 16 < count then 16 else count := by
    (repeat' split) <;> omega
  rw [← first] at least most ⊢
  rw [← clamped]
  exact (if_neg (Nat.not_lt.mpr most)).trans (if_pos least)

theorem FaultLog.request_overwritten {l : FaultLog} {fromSequence : Nat} (count : Nat)
    (older : (if fromSequence = 0 then 1 else fromSequence) < l.overwritten + 1)
    (most : (if fromSequence = 0 then 1 else fromSequence) ≤ l.newest) :
    l.request fromSequence count = { l with
      cursor := .answering
      next := l.overwritten + 1
      remaining := if count = 0 then 1 else if 16 < count then 16 else count
      gap := true } := by
  have first : max 1 fromSequence = if fromSequence = 0 then 1 else fromSequence := by split <;> omega
  have clamped : (if count = 0 then 1 else min 16 count) =
      if count = 0 then 1 else if 16 < count then 16 else count := by
    (repeat' split) <;> omega
  rw [← first] at older most
  rw [← clamped]
  exact (if_neg (Nat.not_lt.mpr most)).trans (if_neg (Nat.not_le.mpr older))

/-- R164, R166: in a consecutive log the records held are those from the oldest number to the newest. -/
theorem FaultLog.Consecutive.mem_sequences {l : FaultLog} (kept : l.Consecutive) {n : Nat} :
    n ∈ l.records.map (·.sequence) ↔ l.overwritten + 1 ≤ n ∧ n ≤ l.newest := by
  obtain ⟨-, count, -, sequences⟩ := kept
  rw [sequences, List.mem_range'_1]
  omega

theorem FaultLog.Consecutive.find {l : FaultLog} (kept : l.Consecutive) {n : Nat} (least : l.overwritten + 1 ≤ n)
    (most : n ≤ l.newest) : ∃ r ∈ l.records, r.sequence = n ∧ l.records.find? (fun x => x.sequence == n) = some r := by
  obtain ⟨x, held, sequence⟩ := List.mem_map.mp (kept.mem_sequences.mpr ⟨least, most⟩)
  obtain ⟨r, found⟩ := Option.isSome_iff_exists.mp
    (List.find?_isSome (p := fun x : LogRecord => x.sequence == n).mpr ⟨x, held, by simpa using sequence⟩)
  exact ⟨r, List.mem_of_find?_eq_some found, by simpa using List.find?_some found, found⟩

theorem FaultLog.Consecutive.find_none {l : FaultLog} (kept : l.Consecutive) {n : Nat} (past : l.newest < n) :
    l.records.find? (fun x => x.sequence == n) = none := by
  refine List.find?_eq_none.mpr fun x held sequence => ?_
  have := (kept.mem_sequences (n := n)).mp (List.mem_map.mpr ⟨x, held, by simpa using sequence⟩)
  omega

theorem FaultLog.skip_next (l : FaultLog) : l.skip.next = max l.next (l.overwritten + 1) ∧
    l.skip.gap = (l.gap || decide (l.next < l.overwritten + 1)) := by
  unfold FaultLog.skip FaultLog.oldest
  split
  case isTrue older => exact ⟨by simp only []; omega, by simp [older]⟩
  case isFalse newer => exact ⟨by omega, by simp [newer]⟩

theorem FaultLog.skip_kept (l : FaultLog) : l.skip.records = l.records ∧ l.skip.remaining = l.remaining := by
  unfold FaultLog.skip
  split <;> exact ⟨rfl, rfl⟩

/-- R170: an answer that has passed the newest record ends. -/
theorem FaultLog.nextEntry_past {l : FaultLog} (kept : l.Consecutive) (answering : l.cursor = .answering)
    (past : l.newest < l.next) : l.nextEntry = ({ l with cursor := .idle }, none) := by
  have same : l.skip = l := if_neg (by obtain ⟨-, count, -⟩ := kept; unfold FaultLog.oldest; omega)
  rw [FaultLog.nextEntry, answering]
  simp only [same, kept.find_none past]

/-- R170: the record the cursor names, or the oldest held where that one has been overwritten. -/
theorem FaultLog.nextEntry_record {l : FaultLog} (kept : l.Consecutive) (answering : l.cursor = .answering)
    (holds : l.records ≠ []) (within : l.next ≤ l.newest) :
    ∃ r ∈ l.records, r.sequence = max l.next (l.overwritten + 1) ∧
      l.nextEntry = (l.skip.advance, some (r.entry (l.gap || decide (l.next < l.overwritten + 1)))) := by
  have oldest : l.overwritten + 1 ≤ l.newest := by
    obtain ⟨-, count, -⟩ := kept
    have := List.length_pos_iff.mpr holds
    omega
  obtain ⟨next, gap⟩ := l.skip_next
  obtain ⟨r, held, sequence, found⟩ := kept.find (n := max l.next (l.overwritten + 1)) (by omega) (by omega)
  refine ⟨r, held, sequence, ?_⟩
  rw [FaultLog.nextEntry, answering]
  simp only [l.skip_kept.1, next, found, gap]

/-! ## The offer -/

/-- R13, R17: a LOG ENTRY waits behind every frame queued. -/
theorem insertSlot_logEntry (own : Nat) (e : LogEntry) (q : List Slot) :
    insertSlot own (.logEntry e) q = q ++ [{ frame := .logEntry e, onLine := false }] := by
  induction q with
  | nil => rfl
  | cons x rest ih =>
    have lower : x.frame.kind ≤ 28 := by cases x.frame <;> simp [Frame.kind]
    rw [insertSlot, ih]
    exact if_pos (Nat.add_le_add_right (Nat.mul_le_mul_right 8 lower) own)

theorem roomForLog_iff (q : List Slot) : roomForLog q = true ↔
    q.length ≤ 5 ∧ (q.filter (fun x => x.frame.kind == 28)).length < 2 := by
  simp [roomForLog, Config.queueSlots]

theorem offerLogEntry_entry {l : FaultLog} {e : LogEntry} (joined : s.isJoined = true)
    (room : roomForLog s.link.queue = true) (entry : s.log.nextEntry = (l, some e)) :
    offerLogEntry s = { s with
      log := l
      link := { s.link with queue := s.link.queue ++ [{ frame := .logEntry e, onLine := false }] } } := by
  rw [offerLogEntry, if_pos ⟨joined, room⟩, entry, ← insertSlot_logEntry s.own]

theorem offerLogEntry_none {l : FaultLog} (joined : s.isJoined = true) (room : roomForLog s.link.queue = true)
    (entry : s.log.nextEntry = (l, none)) : offerLogEntry s = { s with log := l } := by
  rw [offerLogEntry, if_pos ⟨joined, room⟩, entry]

theorem offerLogEntry_idle (idle : s.log.cursor = .idle) : offerLogEntry s = s := by
  unfold offerLogEntry
  rw [show s.log.nextEntry = (s.log, none) by rw [FaultLog.nextEntry, idle]]
  split <;> rfl

/-- Settles O56: the three rows of R168 for a request, and those of R170 for an offer. -/
theorem logRequestsAnswered : Obligations.LogRequestsAnswered := by
  refine ⟨fun s levels target fromSequence count joined receives good => ?_, fun s joined =>
    ⟨fun full => ?_, fun idle => ?_,
    fun room few kept => ?_⟩⟩
  · obtain ⟨free, state⟩ := (State.isJoined_iff s).mp joined
    have on : s.running = true := (State.running_iff s).mpr ⟨free, .inr (.inl state)⟩
    have taken : exec (.frameReceived levels) s = .next (takeLogRequest s.received target fromSequence count) :=
      congrArg Host.Outcome.next ((frameReceived_dispatch on receives good).trans
        (if_pos (beq_iff_eq.mpr state)))
    have mine (own : target = s.own) : takeLogRequest s.received target fromSequence count =
        { s.received with log := s.log.request fromSequence count } := if_pos own
    exact ⟨fun other => taken.trans (congrArg Host.Outcome.next (if_neg other)),
      fun own newer => by rw [taken, mine own, FaultLog.request_newer count newer],
      fun own least most => by rw [taken, mine own, FaultLog.request_held count least most],
      fun own older most => by rw [taken, mine own, FaultLog.request_overwritten count older most]⟩
  · have closed : ¬roomForLog s.link.queue = true := by
      rw [roomForLog_iff]
      omega
    exact congrArg Host.Outcome.next (if_neg fun open' => closed open'.2)
  · exact congrArg Host.Outcome.next (offerLogEntry_idle idle)
  · have roomy := (roomForLog_iff s.link.queue).mpr ⟨room, few⟩
    refine ⟨fun due => ?_, fun answering past => ?_, fun answering holds within => ?_⟩
    · exact congrArg Host.Outcome.next (offerLogEntry_entry joined roomy (by rw [FaultLog.nextEntry, due]))
    · exact congrArg Host.Outcome.next (offerLogEntry_none joined roomy (FaultLog.nextEntry_past kept answering past))
    · obtain ⟨r, held, sequence, entry⟩ := FaultLog.nextEntry_record kept answering holds within
      have next : s.log.skip.next = r.sequence := s.log.skip_next.1.trans sequence.symm
      obtain ⟨records, remaining⟩ := s.log.skip_kept
      refine ⟨_, r, congrArg Host.Outcome.next (offerLogEntry_entry joined roomy entry), held, sequence, rfl, records,
        congrArg (· + 1) next, rfl, congrArg (· - 1) remaining, ?_⟩
      exact congrArg (fun n => if n ≤ 1 then CursorState.idle else .answering) remaining

end Sys2Proof.Machine
end

section
/-! Safety inputs (R150, R152), notices of peers (R156, R157) and nacelle flags newly shown (R158, R59). -/
namespace Sys2Proof.Machine
variable {s t u : State} {cls code : Nat}

/-! ## A trip that finds no session -/

/-- R78, R152: a cause taken with the trip it orders leaves the link, the log, the clock, yaw and quiet alone. -/
theorem tripCause_frame (s : State) (cls code : Nat) :
    (tripThread (addCause s cls code)).link = s.link ∧ (tripThread (addCause s cls code)).log = s.log ∧
    (tripThread (addCause s cls code)).now = s.now ∧ (tripThread (addCause s cls code)).yaw = s.yaw ∧
    (tripThread (addCause s cls code)).quiet = s.quiet ∧
    (tripThread (addCause s cls code)).fault = (addCause s cls code).fault := by
  simp

theorem barSession_idle (idle : s.yaw.state = .idle) : barSession s = s := by
  unfold barSession
  rw [idle]

/-- R150 to R152: a report of the nacelle's own in ACTIVE with the queue open and no session in hand. -/
theorem reportFault_nacelle (s : State) (cls code : Nat) (detail : Int) (can : s.CanReport)
    (takes : s.takesOffers = true)
    (idle : s.yaw.state = .idle) :
    (reportFault s cls code .tripNacelle detail).thread.state = .tripped ∧
    (reportFault s cls code .tripNacelle detail).holdsCause cls code = true ∧
    (reportFault s cls code .tripNacelle detail).fault = (addCause s cls code).fault ∧
    s.Logged (reportFault s cls code .tripNacelle detail) s.own cls code 3 3 (some detail) none ∧
    s.Noticed (reportFault s cls code .tripNacelle detail) cls code 3 3 detail := by
  obtain ⟨below, room, active⟩ := can
  have notNote : Severity.tripNacelle ≠ .note := by simp
  have logged := takeReport_logged s cls code detail notNote below room
  have noticed := takeReport_noticed s cls code detail notNote takes room
  have taken : takeReport s cls code .tripNacelle detail = offerNotice
      (enterRecord (tripThread (addCause s cls code)) s.own cls code 3 3 (some detail) none) cls code 3 3 detail := by
    rw [takeReport_eq s cls code detail notNote]
    refine wakeCause_active _ ?_
    rw [offerNotice_footprint]
    exact (congrArg QuietControl.state (tripFirst_frame s cls code .tripNacelle).2.2.1).trans active
  have whole : reportFault s cls code .tripNacelle detail = takeReport s cls code .tripNacelle detail := by
    unfold reportFault
    dsimp only
    rw [barSession_idle]
    · split <;> rfl
    · rw [taken, offerNotice_footprint]
      change (tripThread (addCause s cls code)).yaw.state = _
      simpa using idle
  have fault : (takeReport s cls code .tripNacelle detail).fault = (addCause s cls code).fault := by
    rw [taken, offerNotice_footprint]
    exact (tripCause_frame s cls code).2.2.2.2.2
  have tripped : (takeReport s cls code .tripNacelle detail).thread.state = .tripped := by
    rw [taken, offerNotice_footprint]
    exact tripThread_state _
  rw [whole]
  refine ⟨tripped, ?_, fault, logged, noticed⟩
  unfold State.holdsCause
  rw [fault]
  exact holdsCause_addCause s cls code

/-- R157, R158: PLANT 6 taken in ACTIVE with no session in hand is the trip and the record. -/
theorem takeNacelleTrip_alone {record : State → State} (idle : s.yaw.state = .idle) (active : s.quiet.state = .active)
    (yaw : ∀ u, (record u).yaw = u.yaw) (quiet : ∀ u, (record u).quiet = u.quiet) :
    takeNacelleTrip s record = record (tripThread (addCause s clsPlant 6)) := by
  have awake : wakeCause (record (tripThread (addCause s clsPlant 6))) = record
    (tripThread (addCause s clsPlant 6)) := by
    refine wakeCause_active _ ?_
    rw [quiet]
    simpa using active
  unfold takeNacelleTrip
  dsimp only
  rw [awake, barSession_idle]
  · split <;> rfl
  · rw [yaw]
    simpa using idle

theorem get?_markTaken (s : State) {n : Nat} (low : 1 ≤ n) (high : n ≤ 7) :
    (markTaken s n).fault.taken.get? n = some true := by
  obtain ⟨mark, got⟩ := PerThread.get?_isSome s.fault.taken low high
  exact (PerThread.get?_set_self ..).trans (congrArg _ got)

/-- R158: a flag newly shown trips the thread, and is logged unless that station's notice has been. -/
theorem takeNacelleStatus_alone (idle : s.yaw.state = .idle) (active : s.quiet.state = .active) (n : Nat) :
    takeNacelleStatus s n =
      if s.fault.taken.get? n = some true then tripThread (addCause s clsPlant 6)
      else markTaken (enterRecord (tripThread (addCause s clsPlant 6)) n clsPlant 6 2 4 none none) n :=
  takeNacelleTrip_alone (record := fun u => if s.fault.taken.get? n = some true then u
    else markTaken (enterRecord u n clsPlant 6 2 4 none none) n) idle active
    (fun u => by split <;> rfl) fun u => by split <;> rfl

theorem takeNacelleStatus_taken (idle : s.yaw.state = .idle) (active : s.quiet.state = .active) {n : Nat} (low : 1 ≤ n)
    (high : n ≤ 7) (below : s.log.newest < Config.lastSequence) :
    (takeNacelleStatus s n).link = s.link ∧ (takeNacelleStatus s n).yaw = s.yaw ∧
    (takeNacelleStatus s n).thread.state = .tripped ∧ (takeNacelleStatus s n).holdsCause clsPlant 6 = true ∧
    (takeNacelleStatus s n).fault.taken.get? n = some true ∧
    (s.fault.taken.get? n = some true → (takeNacelleStatus s n).log = s.log) ∧
    (s.fault.taken.get? n = some false → s.Logged (takeNacelleStatus s n) n clsPlant 6 2 4 none none) := by
  obtain ⟨link, log, now, yaw, -, fault⟩ := tripCause_frame s clsPlant 6
  have held := (holdsCause_tripThread (addCause s clsPlant 6) clsPlant 6).trans (holdsCause_addCause ..)
  rw [takeNacelleStatus_alone idle active]
  by_cases marked : s.fault.taken.get? n = some true
  · rw [if_pos marked]
    exact ⟨link, yaw, tripThread_state _, held, by rw [fault]; exact marked, fun _ => log,
      fun clear => absurd (marked.symm.trans clear) (by simp)⟩
  · rw [if_neg marked]
    refine ⟨link, yaw, tripThread_state _, held, get?_markTaken _ low high, fun taken => absurd taken marked, fun _ =>
      logged_of_log below ?_⟩
    change FaultLog.enter (tripThread (addCause s clsPlant 6)).log (tripThread (addCause s clsPlant 6)).now
      _ _ _ _ _ _ _ = _
    rw [log, now]

/-- R59: a flag is told where it is newly shown, or where the status makes its entry LIVE. -/
theorem tellsNacelleTrip_iff {e : Entry StatusRecord} {r : StatusRecord} {stale : Nat}
    (new : e.isRepeat r.tag = false) (shows : r.nacelleTrip = true) :
    tellsNacelleTrip e (e.take .thread r.tag r stale) r = true ↔
      (¬(∃ o, e.record = some o ∧ o.nacelleTrip = true)) ∨ (e.state = .heard ∧ e.age ≤ stale ∧ 3 ≤ e.good + 1) := by
  have live : (e.advance stale).1 = .live ∧ e.state = .heard ↔ e.state = .heard ∧ e.age ≤ stale ∧ 3 ≤ e.good + 1 := by
    unfold Entry.advance
    (repeat' split) <;> simp_all
  rw [Entry.take_new new, ← live]
  cases record : e.record <;> simp [tellsNacelleTrip, shows, record, and_comm]

/-! ## The end of a latched cause -/

theorem endConditionIn_latched {l : List Cause}
    (latched : ∀ c ∈ l, c.cls = cls → c.code = code → c.kind = .latched) :
    (endConditionIn cls code l).length = l.length ∧
    (l.any (fun c => c.cls == cls && c.code == code) = true → ∃ c ∈ endConditionIn cls code l,
      c.cls = cls ∧ c.code = code ∧ c.kind = .latched ∧ c.ended = true) := by
  induction l with
  | nil => exact ⟨rfl, by simp⟩
  | cons c rest ih =>
    obtain ⟨first, others⟩ := List.forall_mem_cons.mp latched
    obtain ⟨length, ended⟩ := ih others
    unfold endConditionIn
    by_cases same : c.cls = cls ∧ c.code = code
    · have kind := first same.1 same.2
      rw [if_pos same, kind]
      exact ⟨rfl, fun _ => ⟨_, List.mem_cons_self, same.1, same.2, rfl, rfl⟩⟩
    · rw [if_neg same]
      refine ⟨congrArg (· + 1) length, fun held => ?_⟩
      rw [List.any_cons, Bool.or_eq_true] at held
      obtain ⟨d, mem, d'⟩ := ended (held.resolve_left (by simpa using same))
      exact ⟨d, List.mem_cons_of_mem _ mem, d'⟩

/-- R152, R153: a latched cause whose condition ends is marked and stays. -/
theorem State.CausesKept.ends (kept : s.CausesKept) (latched : causeKind cls code = .latched)
    (held : s.holdsCause cls code = true) :
    (endConditionIn cls code s.fault.causes).length = s.fault.causes.length ∧
    ∃ c ∈ endConditionIn cls code s.fault.causes, c.cls = cls ∧ c.code = code ∧ c.kind = .latched ∧ c.ended = true := by
  obtain ⟨-, listed, -⟩ := kept
  obtain ⟨length, ended⟩ := endConditionIn_latched (cls := cls) (code := code)
    (l := s.fault.causes) fun c mem sameCls sameCode =>
    (causeKind_of_row (listed c mem)).trans (by rw [sameCls, sameCode, latched])
  exact ⟨length, ended held⟩

/-! ## The safety inputs -/

theorem exec_safetyInputChange (on : s.running = true) (input : SafetyInput) (active : Bool) :
    exec (.safetyInputChange input active) s =
      .next (seeSafety { s with pins := s.pins.setSafety input active } input active) :=
  congrArg Host.Outcome.next (if_pos on)

theorem seeSafety_active {input : SafetyInput} (unseen : s.fault.seen input = false) :
    seeSafety s input true =
      reportFault { s with fault := s.fault.see input true } clsPlant (safetyCode input) .tripNacelle 0 :=
  if_pos ⟨rfl, unseen⟩

theorem seeSafety_inactive {input : SafetyInput} (seen : s.fault.seen input = true) :
    seeSafety s input false = endCondition { s with fault := s.fault.see input false } clsPlant (safetyCode input) := by
  simp [seeSafety, seen]

/-- Settles O53: a safety input by its level, a notice by its flag, and a nacelle flag by whether it is new. -/
theorem safetyInputsAndPeerNotices : Obligations.SafetyInputsAndPeerNotices := by
  refine ⟨fun s => ⟨fun off active => ⟨?_, ?_⟩, fun on can takes idle => ⟨fun unseen => ?_, fun unseen => ?_⟩,
      fun on seen kept held => ?_, fun on seen kept held => ?_⟩,
    fun s levels n f joined receives good least most below => ?_,
    fun s levels n r e on receives good other got new shows idle active below => ?_⟩
  · exact congrArg Host.Outcome.next (if_neg (by simp [off]))
  · exact congrArg Host.Outcome.next (if_neg (by simp [off]))
  · obtain ⟨tripped, holds, fault, logged, noticed⟩ := reportFault_nacelle
      { s with pins := s.pins.setSafety .emergencyStop true, fault := s.fault.see .emergencyStop true } clsPlant 1 0
      can takes idle
    exact ⟨_, (exec_safetyInputChange on ..).trans (congrArg Host.Outcome.next (seeSafety_active unseen)),
      tripped, holds,
      congrArg FaultUnit.stopSeen fault, logged, noticed⟩
  · obtain ⟨tripped, holds, fault, logged, noticed⟩ := reportFault_nacelle
      { s with pins := s.pins.setSafety .arcOrFire true, fault := s.fault.see .arcOrFire true } clsPlant 2 0
      can takes idle
    exact ⟨_, (exec_safetyInputChange on ..).trans (congrArg Host.Outcome.next (seeSafety_active unseen)),
      tripped, holds,
      congrArg FaultUnit.fireSeen fault, logged, noticed⟩
  · obtain ⟨length, ended⟩ := kept.ends rfl held
    exact ⟨_, (exec_safetyInputChange on ..).trans (congrArg Host.Outcome.next (seeSafety_inactive seen)),
      rfl, rfl, ended,
      length⟩
  · obtain ⟨length, ended⟩ := kept.ends rfl held
    exact ⟨_, (exec_safetyInputChange on ..).trans (congrArg Host.Outcome.next (seeSafety_inactive seen)),
      rfl, rfl, ended,
      length⟩
  · obtain ⟨free, state⟩ := (State.isJoined_iff s).mp joined
    have on : s.running = true := (State.running_iff s).mpr ⟨free, .inr (.inl state)⟩
    have taken : exec (.frameReceived levels) s = .next (takeNotice s.received n f) := by
      refine congrArg Host.Outcome.next ((frameReceived_dispatch on receives good).trans (if_neg fun listening => ?_))
      exact absurd (state.symm.trans listening) (by simp)
    have known : ¬(f.cls = 0 ∨ 8 < f.cls) := by omega
    refine ⟨fun plain accepts => ?_, fun plain refuses => ?_, fun flagged idle active => ?_⟩
    · have entered : takeNotice s.received n f =
          enterRecord s.received n f.cls f.code f.severity f.action (some f.detail) (some f.number) :=
        (if_neg known).trans ((if_neg plain).trans (if_pos accepts))
      exact ⟨_, taken.trans (congrArg Host.Outcome.next entered), rfl, logged_of_log below rfl⟩
    · exact taken.trans (congrArg Host.Outcome.next
        ((if_neg known).trans ((if_neg plain).trans (if_neg (by exact Bool.eq_false_iff.mp refuses)))))
    · have entered : takeNotice s.received n f = markTaken (enterRecord (tripThread (addCause s.received clsPlant 6))
          n f.cls f.code 3 4 (some f.detail) (some f.number)) n := by
        rw [← flagged]
        exact (if_neg known).trans ((if_pos flagged).trans
          (takeNacelleTrip_alone (record := fun u => markTaken (enterRecord u n f.cls f.code f.severity
            FaultAction.nacelleTripTaken.code (some f.detail) (some f.number)) n) idle active
              (fun _ => rfl) fun _ => rfl))
      obtain ⟨link, log, now, -, -, fault⟩ := tripCause_frame s.received clsPlant 6
      refine ⟨_, taken.trans (congrArg Host.Outcome.next entered), tripThread_state _, ?_, link, ?_, fun low high => ?_⟩
      · exact (holdsCause_tripThread ..).trans (holdsCause_addCause ..)
      · refine logged_of_log below ?_
        change FaultLog.enter (tripThread (addCause s.received clsPlant 6)).log
          (tripThread (addCause s.received clsPlant 6)).now _ _ _ _ _ _ _ = _
        rw [log, now]
        rfl
      · exact get?_markTaken _ low high
  · let e' := e.take .thread r.tag r s.quiet.threadLimits.1
    obtain ⟨low, high⟩ := PerThread.get?_range got
    have fresh := Entry.not_isRepeat new
    have eq : frameReceived s levels = judgeStatus (if tellsNacelleTrip e e' r
        then takeNacelleStatus (s.received.withStatus n e') n else s.received.withStatus n e') n := by
      rw [frameReceived_dispatch on receives good]
      exact (if_neg other).trans (takeStatus_new (s := s.received) got fresh)
    refine ⟨_, congrArg Host.Outcome.next eq, ?_⟩
    by_cases told : tellsNacelleTrip e e' r = true
    · obtain ⟨link, yaw, tripped, held, taken, kept, logged⟩ :=
        takeNacelleStatus_taken (s := s.received.withStatus n e') idle active low high below
      rw [if_pos told, judgeStatus_idle (yaw ▸ idle)]
      have newly := (tellsNacelleTrip_iff fresh shows).mp told
      exact ⟨link, fun _ => ⟨tripped, held, taken, kept, logged⟩, fun shown made =>
        (newly.elim (fun hidden => hidden shown) made).elim⟩
    · rw [if_neg told, judgeStatus_idle (by exact idle)]
      exact ⟨rfl, fun newly => absurd ((tellsNacelleTrip_iff fresh shows).mpr newly) told, fun _ _ => rfl⟩

end Sys2Proof.Machine
end

section
/-! Release, brakes and driving (R139, R141, R142, R143, R145). -/
namespace Sys2Proof.Machine
variable {s t u : State}

/-! ## The motors started (R141) -/

theorem PerMotor.get?_set {α : Type} (ms : PerMotor α) (m n : Nat) (a : α) :
    (ms.set m a).get? n = if n = m then (ms.get? n).map fun _ => a else ms.get? n := by
  unfold PerMotor.set
  split <;> unfold PerMotor.get? <;> split <;> simp_all <;> omega

theorem PerMotor.get?_foldl_set {α : Type} (a : α) (l : List Nat) (ms : PerMotor α) (n : Nat) :
    (l.foldl (fun ms m => ms.set m a) ms).get? n = if n ∈ l then (ms.get? n).map fun _ => a else ms.get? n := by
  induction l generalizing ms with
  | nil => simp
  | cons m rest ih =>
    rw [List.foldl_cons, ih, PerMotor.get?_set]
    by_cases first : n = m
    · subst first
      cases ms.get? n <;> simp
    · simp [first]

theorem PerMotor.get?_all {α : Type} (a : α) {n : Nat} (low : 1 ≤ n) (high : n ≤ 4) :
    (PerMotor.all a).get? n = some a := by
  have cases : n = 1 ∨ n = 2 ∨ n = 3 ∨ n = 4 := by omega
  rcases cases with rfl | rfl | rfl | rfl <;> rfl

theorem State.drivenMotors_get? (s : State) {m : Nat} (low : 1 ≤ m) (high : m ≤ 4) : s.drivenMotors.get? m = some
    (if m ∈ s.readyMotors.take s.yaw.session.runCount then s.yaw.session.direction.output else .off) := by
  rw [State.drivenMotors, PerMotor.get?_foldl_set, PerMotor.get?_all MotorOutput.off low high]
  split <;> rfl

/-- R141: as many motors run as the run count and the ready motors allow. -/
theorem State.drivenMotors_count (s : State) : s.drivenMotors.running = min s.yaw.session.runCount s.motorsReady := by
  have sub : (s.readyMotors.take s.yaw.session.runCount).Sublist [1, 2, 3, 4] :=
    (List.take_sublist ..).trans (List.filter_sublist.trans List.filter_sublist)
  have started : [1, 2, 3, 4].filter (fun m => s.drivenMotors.get? m != some .off) =
      [1, 2, 3, 4].filter (· ∈ s.readyMotors.take s.yaw.session.runCount) := by
    refine List.filter_congr fun m mem => ?_
    have range : 1 ≤ m ∧ m ≤ 4 := by simp only [List.mem_cons, List.not_mem_nil, or_false] at mem; omega
    rw [s.drivenMotors_get? range.1 range.2]
    have on : s.yaw.session.direction.output ≠ .off := by cases s.yaw.session.direction <;> simp [Direction.output]
    split <;> simp_all
  have distinct : [1, 2, 3, 4].Nodup := by decide
  have same : ([1, 2, 3, 4].filter (· ∈ s.readyMotors.take s.yaw.session.runCount)).Perm
      (s.readyMotors.take s.yaw.session.runCount) := by
    refine (List.perm_ext_iff_of_nodup (distinct.filter _) (distinct.sublist sub)).mpr fun m => ?_
    rw [List.mem_filter, decide_eq_true_iff]
    exact ⟨And.right, fun mem => ⟨sub.subset mem, mem⟩⟩
  rw [PerMotor.running, started, same.length_eq, List.length_take]
  rfl

/-! ## The states of a session entered -/

theorem enterDriving_yaw (s : State) : (enterDriving s).yaw = { s.yaw.noTimers with
    motors := s.drivenMotors
    driveTimer := some s.yaw.session.startTime
    state := .driving
    stagger := (enterDriving s).yaw.stagger } := by
  unfold enterDriving
  rw [setYaw_eq]

theorem stopSession_yaw (s : State) : (stopSession s).yaw = { s.yaw.noTimers.motorsOff with
    brakeDelay := some s.now
    state := .stopping
    stagger := (stopSession s).yaw.stagger } := by
  unfold stopSession enterStopping
  rw [setYaw_eq]
  simp

theorem enterIdle_yaw (s : State) : (enterIdle s).yaw = { s.yaw.noTimers.motorsOff with
    state := .idle
    stagger := (enterIdle s).yaw.stagger } := by
  unfold enterIdle
  rw [setYaw_eq]
  simp

theorem finishStopping_yaw (s : State) : (finishStopping s).yaw = { s.yaw.noTimers.motorsOff with
    hold := some s.now
    state := .idle
    stagger := (finishStopping s).yaw.stagger } :=
  enterIdle_yaw (startHold s)

/-- R139, R141: the driving of the session in hand has begun. -/
def State.Driven (s t : State) : Prop :=
  t.yaw.state = .driving ∧ t.yaw.driveTimer = some s.yaw.session.startTime ∧ t.yaw.releaseWait = none ∧
  (∀ m, 1 ≤ m → m ≤ 4 → t.yaw.motors.get? m = some
    (if m ∈ s.readyMotors.take s.yaw.session.runCount then s.yaw.session.direction.output else .off)) ∧
  t.yaw.running = min s.yaw.session.runCount s.motorsReady

theorem enterDriving_driven (s : State) : s.Driven (enterDriving s) := by
  unfold State.Driven YawControl.running
  rw [enterDriving_yaw]
  exact ⟨rfl, rfl, rfl, fun m => s.drivenMotors_get?, s.drivenMotors_count⟩

/-- A participant's record counts as released in the session in hand. -/
def State.Shows (s : State) (n : Nat) : Prop := ∃ r, s.recordOf n = some r ∧
  r.proposer = s.yaw.session.proposer ∧ r.sessionTag = s.yaw.session.tag ∧
  ((r.yawCode = 3 ∧ r.brakesReleased = true) ∨ r.yawCode = 4)

theorem State.mayDrive_iff (s : State) : s.mayDrive = true ↔ s.pins.brakesReleased = true ∧
    (∀ n ∈ s.otherParticipants, s.Shows n) ∧
    twistReached s.yaw.session.mode s.yaw.session.direction s.wind.sharedTwist = false := by
  have participant (n : Nat) : (match s.recordOf n with
      | some r => s.yaw.session.released r
      | none => false) = true ↔ s.Shows n := by
    unfold State.Shows
    cases s.recordOf n <;> simp [Session.released_iff]
  simp only [State.mayDrive, Bool.and_eq_true, List.all_eq_true, Bool.not_eq_true', and_assoc]
  exact and_congr_right fun _ => and_congr_left fun _ => forall₂_congr fun n _ => participant n

theorem judgeDriving_driven (releasing : s.yaw.state = .releasing) (able : s.mayDrive = true) :
    judgeDriving s = enterDriving s := if_pos ⟨releasing, able⟩

theorem State.Driven.congr (driven : u.Driven t) (yaw : u.yaw = s.yaw) (pins : u.pins = s.pins)
    (config : u.config = s.config) : s.Driven t := by
  have ready : u.readyMotors = s.readyMotors := by
    unfold State.readyMotors State.configuredMotors
    rw [cfg_congr config, pins]
  unfold State.Driven State.motorsReady at driven ⊢
  rwa [← yaw, ← ready]

theorem State.Shows.congr {n : Nat} (shows : s.Shows n) (yaw : t.yaw = s.yaw)
    (entry : t.table.threads.get? n = s.table.threads.get? n) : t.Shows n := by
  unfold State.Shows State.recordOf at shows ⊢
  rwa [yaw, entry]

theorem otherParticipants_congr (yaw : t.yaw = s.yaw) (config : t.config = s.config) :
    t.otherParticipants = s.otherParticipants := by
  unfold State.otherParticipants
  rw [yaw, own_congr config]

/-! ## The shared twist (R123) -/

/-- R123: the own twist is the shared one where no source of a lower number has one. -/
theorem sharing_ownTwist {v : Int} {e : Entry StatusRecord} (w : WindUnit) (got : s.table.threads.get? s.own = some e)
    (twist : s.ownWind.twist = some v) (absent : ∀ p ∈ s.liveRecords, p.1 < s.own → p.2.twist = none) :
    (w.sharing s.windSources).sharedTwist = some v := by
  obtain ⟨low, high⟩ := PerThread.get?_range got
  obtain ⟨a, b, split⟩ := List.append_of_mem ((s.mem_windSources s.ownWind).mpr (.inl ⟨low, high, rfl⟩))
  refine (WindUnit.sharing_sharedTwist_iff ..).mpr ⟨a, s.ownWind, b, split, twist, fun y mem => ?_⟩
  have before : y.station < s.own := by
    have order := s.windSources_ascending
    rw [split, List.map_append, List.map_cons, List.pairwise_append] at order
    exact order.2.2 _ (List.mem_map_of_mem mem) _ List.mem_cons_self
  have source : y ∈ s.windSources := by simp [split, mem]
  rcases (s.mem_windSources y).mp source with ⟨-, -, rfl⟩ | ⟨r, live, eq⟩
  · exact absurd before (Nat.lt_irrefl _)
  · rw [eq]
    exact absent _ live before

/-! ## A shared twist formed in a session -/

/-- The state in which an evaluation judges the new shared twist. -/
def State.twistFormed (s : State) (t0 : Nat) (encoder : Option Int) : State :=
  shareValues (ownStages (s.blowing t0) encoder)

theorem shareValues_wind (s : State) : (shareValues s).wind = s.wind.sharing s.windSources ∧
    (shareValues s).config = s.config := by
  unfold shareValues
  dsimp only
  split <;> exact ⟨rfl, rfl⟩

theorem State.twistFormed_frame (s : State) (t0 : Nat) (encoder : Option Int) :
    (s.twistFormed t0 encoder).yaw = s.yaw ∧ (s.twistFormed t0 encoder).pins = s.pins ∧
    (s.twistFormed t0 encoder).config = s.config ∧ (s.twistFormed t0 encoder).table.threads = s.table.threads ∧
    (s.twistFormed t0 encoder).now = s.now := by
  have blown := ownStages_blown (s.blowing t0) encoder
  obtain ⟨config, threads, now⟩ := blown.blown
  obtain ⟨yaw, pins, table⟩ := shareValues_frame (ownStages (s.blowing t0) encoder)
  have clock : (shareValues (ownStages (s.blowing t0) encoder)).now = (ownStages (s.blowing t0) encoder).now := by
    unfold shareValues
    dsimp only
    split <;> rfl
  refine ⟨yaw.trans (ownStages_yaw ..), pins.trans ?_, (shareValues_wind _).2.trans config, ?_, clock.trans now⟩
  · exact blown.framed.pins (by simp [windPart]) (by simp [windPart])
  · exact (congrArg PeerTable.threads table).trans threads

theorem exec_windEvaluation_judged {t0 : Nat} (encoder : Option Int) (on : s.running = true)
    (timer : s.wind.timer = some t0) (due : t0 + Config.evaluation ≤ s.now) :
    ∃ t, exec (.windEvaluation encoder) s = .next t ∧ t.yaw = (judgeTwist (s.twistFormed t0 encoder)).yaw ∧
      t.wind.sharedTwist = (s.twistFormed t0 encoder).wind.sharedTwist ∧
      t = updateStorm (judgeTwist (s.twistFormed t0 encoder)) := by
  have judged := (judgeTwist_moves (may := (· = .driving)) (.refl (s.twistFormed t0 encoder)) rfl).framed
  exact ⟨_, exec_windEvaluation_begun encoder on timer due, rfl,
    (updateStorm_twist _).trans (judged.twist (by simp)), rfl⟩

/-- R123: the own encoder's read is the shared twist where no source of a lower number has one. -/
theorem State.twistFormed_own {t0 : Nat} {v : Int} (s : State) (own : s.OwnEntryKept) (joined : s.isJoined = true)
    (encoder : s.cfg.encoder = true) (low : -14400 ≤ v) (high : v ≤ 14400)
    (absent : ∀ p ∈ s.liveRecords, p.1 < s.own → p.2.twist = none) :
    (s.twistFormed t0 (some v)).wind.sharedTwist = some v := by
  obtain ⟨config, threads, -⟩ := (ownStages_blown (s.blowing t0) (some v)).blown
  obtain ⟨e, got, -⟩ := own (.inr (.inl ((State.isJoined_iff s).mp joined).2))
  have parts : (ownStages (s.blowing t0) (some v)).wind.twistPart = (some v, .valid) := by
    have fitted : (s.blowing t0).cfg.encoder = true := encoder
    rw [ownStages_wind]
    unfold State.windOwn
    rw [(WindUnit.speedStep_parts ..).2.1, fitted, WindUnit.twistStep_good low high]
    rfl
  unfold State.twistFormed
  rw [(shareValues_wind _).1]
  refine sharing_ownTwist (e := e) _ ?_ ?_ ?_
  · rw [own_congr config, threads]
    exact got
  · obtain ⟨twist, status⟩ := Prod.mk.inj parts
    have fitted : (ownStages (s.blowing t0) (some v)).cfg.encoder = true := (cfg_congr config ▸ encoder :)
    unfold State.ownWind
    simp only [fitted, status, twist]
    rfl
  · rw [liveRecords_congr config threads, own_congr config]
    exact absent

/-! ## A participant's status -/

theorem Session.stopped_iff (x : Session) (r : StatusRecord) : x.stopped r = true ↔
    r.proposer = x.proposer ∧ r.sessionTag = x.tag ∧ (r.yawCode = 5 ∨ r.yawCode = 0) := by
  have code : (match YawState.ofCode r.yawCode with
      | some .stopping | some .idle => true
      | _ => false) = true ↔ r.yawCode = 5 ∨ r.yawCode = 0 := by
    rcases r.yawCode with _ | _ | _ | _ | _ | _ | n <;> simp [YawState.ofCode]
  simp only [Session.stopped, Session.bornBy, Bool.and_eq_true, beq_iff_eq, and_assoc]
  exact and_congr_right fun _ => and_congr_right fun _ => code

theorem judgeStatus_goes {n : Nat} {r : StatusRecord} (record : s.recordOf n = some r)
    (goes : s.yaw.session.stopped r = false) (party : n ∈ s.otherParticipants) : judgeStatus s n = judgeDriving s := by
  simp [judgeStatus, record, goes, party]

theorem recordOf_withStatus {n : Nat} {e e' : Entry StatusRecord} (got : s.table.threads.get? n = some e) :
    (s.withStatus n e').recordOf n = e'.record := by
  unfold State.recordOf State.withStatus
  rw [PerThread.get?_set_self, got]
  rfl

/-- R43: a new status that shows no nacelle trip is judged on its entry by Yaw Control alone. -/
theorem exec_frameReceived_status {levels : List Level} {n : Nat} {r : StatusRecord} {e : Entry StatusRecord}
    (on : s.running = true) (receives : s.receives = true) (good : receive levels = (false, .good n (.threadStatus r)))
    (other : n ≠ s.own) (got : s.table.threads.get? n = some e) (new : e.record = none ∨ e.lastTag ≠ some r.tag)
    (plain : r.nacelleTrip = false) : exec (.frameReceived levels) s = .next
      (judgeStatus (s.received.withStatus n (e.take .thread r.tag r s.quiet.threadLimits.1)) n) := by
  have untold : tellsNacelleTrip e (e.take .thread r.tag r s.received.quiet.threadLimits.1) r = false := by
    simp [tellsNacelleTrip, plain]
  have taken := takeStatus_new (s := s.received) got (Entry.not_isRepeat new)
  dsimp only at taken
  rw [untold, if_neg (by simp)] at taken
  exact congrArg Host.Outcome.next ((frameReceived_dispatch on receives good).trans ((if_neg other).trans taken))

/-! ## The brake feedback -/

theorem judgeBrakes_releasing (releasing : s.yaw.state = .releasing) : judgeBrakes s = judgeDriving s := by
  rw [judgeBrakes, releasing]

theorem judgeBrakes_driving (driving : s.yaw.state = .driving) (applied : s.pins.brakesReleased = false) :
    judgeBrakes s = stopSession (reportFault { s with yaw := s.yaw.motorsOff } clsYaw 1 .warn 2) := by
  rw [judgeBrakes, driving]
  exact if_neg (by simp [applied])

theorem judgeBrakes_idle (idle : s.yaw.state = .idle) : judgeBrakes s = s := by
  rw [judgeBrakes, idle]

theorem judgeBrakes_stopping (stopping : s.yaw.state = .stopping) (applied : s.pins.brakesReleased = false)
    (waits : s.yaw.applyWait.isSome = true) : judgeBrakes s = finishStopping s := by
  rw [judgeBrakes, stopping]
  exact if_pos ⟨applied, waits⟩

theorem exec_brakeFeedback (joined : s.isJoined = true) (released : Bool) : exec (.brakeFeedbackChange released) s =
    .next (judgeBrakes { s with pins := { s.pins with brakesReleased := released } }) :=
  congrArg Host.Outcome.next (if_pos joined)

theorem finishStopping_holds (s : State) : (finishStopping s).yaw.state = .idle ∧
    (finishStopping s).yaw.hold = some s.now ∧
    (finishStopping s).yaw.applyWait = none ∧ (finishStopping s).yaw.release = s.yaw.release ∧
    (finishStopping s).log = s.log := by
  rw [finishStopping_yaw]
  exact ⟨rfl, rfl, rfl, rfl, by simp⟩

/-- Settles O50: the feedback and the waits of the brakes by the yaw state, then the status and the shared twist that
bring the last condition of R139. -/
theorem brakesAndDriving : Obligations.BrakesAndDriving := by
  refine ⟨fun s joined active => ⟨fun releasing shown short => ?_, fun driving can => ?_, fun idle released => ?_,
      fun t0 stopping timer due => ⟨fun released => ?_, fun applied => ?_⟩,
      fun t0 stopping timer => ⟨?_, fun due can => ?_⟩⟩,
    fun s levels n r e joined receives releasing released good party got new plain shown others short => ?_,
    fun s t0 encoder joined releasing released timer due shown => ?_⟩
  · have able : State.mayDrive { s with pins := { s.pins with brakesReleased := true } } = true :=
      (State.mayDrive_iff _).mpr ⟨rfl, shown, short⟩
    have judged := (judgeBrakes_releasing (s := { s with pins := { s.pins with brakesReleased := true } })
      releasing).trans (judgeDriving_driven releasing able)
    obtain ⟨state, driveTimer, releaseWait, motors, running⟩ :=
      enterDriving_driven { s with pins := { s.pins with brakesReleased := true } }
    refine ⟨_, (exec_brakeFeedback joined true).trans (congrArg Host.Outcome.next judged), state,
      driveTimer, releaseWait,
      ?_, motors, running⟩
    unfold enterDriving
    simp
  · refine ⟨_, (exec_brakeFeedback joined false).trans
      (congrArg Host.Outcome.next (judgeBrakes_driving driving rfl)), ?_⟩
    generalize begun : ({ s with
      pins := { s.pins with brakesReleased := false }
      yaw := s.yaw.motorsOff } : State) = u
    have logged := takeReport_logged (severity := .warn) u clsYaw 1 2 (by simp) (begun ▸ can.1) (begun ▸ can.2.1)
    rw [← reportFault_apart u .warn 2 rfl] at logged
    have now : (reportFault u clsYaw 1 .warn 2).now = s.now := by rw [reportWarn_footprint, ← begun]
    have pins : (reportFault u clsYaw 1 .warn 2).pins.brakesReleased = false := by rw [reportWarn_footprint, ← begun]
    subst begun
    generalize reportFault _ clsYaw 1 .warn 2 = v at logged now pins ⊢
    refine ⟨stopSession_state v, by rw [stopSession_yaw]; rfl, by rw [stopSession_yaw, now], ?_, ?_⟩
    · simpa using pins
    · unfold State.Logged
      rw [show (stopSession v).log = v.log by simp]
      exact logged
  · exact (exec_brakeFeedback joined released).trans (congrArg Host.Outcome.next (judgeBrakes_idle idle))
  · have reached : s.isJoined = true ∧ s.yaw.state = .stopping ∧
        s.yaw.brakeDelay.reached s.now Config.brakeDelay = true := ⟨joined, stopping, reached_of timer due⟩
    exact congrArg Host.Outcome.next ((if_pos reached).trans (if_pos released))
  · have reached : s.isJoined = true ∧ s.yaw.state = .stopping ∧
        s.yaw.brakeDelay.reached s.now Config.brakeDelay = true := ⟨joined, stopping, reached_of timer due⟩
    obtain ⟨state, hold, -, release, log⟩ := finishStopping_holds
      { s with yaw := { s.yaw with release := false, brakeDelay := none, applyWait := some s.now } }
    exact ⟨_, congrArg Host.Outcome.next ((if_pos reached).trans (if_neg (by simp [applied]))), state,
      release, hold, log⟩
  · obtain ⟨state, hold, wait, -, log⟩ := finishStopping_holds
      { s with pins := { s.pins with brakesReleased := false } }
    refine ⟨_, (exec_brakeFeedback joined false).trans (congrArg Host.Outcome.next
      (judgeBrakes_stopping stopping rfl ?_)), state, hold, wait, log⟩
    change s.yaw.applyWait.isSome = true
    rw [timer]
    rfl
  · have reached : s.isJoined = true ∧ s.yaw.state = .stopping ∧
        s.yaw.applyWait.reached s.now Config.applyWait = true := ⟨joined, stopping, reached_of timer due⟩
    have logged := takeReport_logged (severity := .warn) s clsYaw 2 0 (by simp) can.1 can.2.1
    have report := reportFault_apart s .warn 0 (cls := clsYaw) (code := 2) rfl
    have yaw : (reportFault s clsYaw 2 .warn 0).yaw = s.yaw := by rw [reportWarn_footprint]
    have now : (reportFault s clsYaw 2 .warn 0).now = s.now := by rw [reportWarn_footprint]
    obtain ⟨state, hold, wait, release, log⟩ := finishStopping_holds (reportFault s clsYaw 2 .warn 0)
    refine ⟨_, congrArg Host.Outcome.next (if_pos reached), state, hold.trans (congrArg some now), wait,
      release.trans (congrArg YawControl.release yaw), ?_⟩
    unfold State.Logged
    rw [log, report]
    exact logged
  · obtain ⟨free, state⟩ := (State.isJoined_iff s).mp joined
    have on : s.running = true := (State.running_iff s).mpr ⟨free, .inr (.inl state)⟩
    have other : n ≠ s.own := by
      simp only [State.otherParticipants, List.mem_filter, decide_eq_true_eq] at party
      exact party.2
    have fresh := Entry.not_isRepeat new
    generalize taken : s.received.withStatus n (e.take .thread r.tag r s.quiet.threadLimits.1) = u
    have record : u.recordOf n = some r := by
      rw [← taken, recordOf_withStatus (by exact got), Entry.take_new fresh]
    have yaw : u.yaw = s.yaw := by rw [← taken]; rfl
    have pins : u.pins = s.pins := by rw [← taken]; rfl
    have wind : u.wind = s.wind := by rw [← taken]; rfl
    have config : u.config = s.config := by rw [← taken]; rfl
    have goes : u.yaw.session.stopped r = false := by
      rw [yaw, Bool.eq_false_iff, Ne, Session.stopped_iff]
      rintro ⟨-, -, code⟩
      obtain ⟨-, -, code'⟩ := shown
      omega
    have able : u.mayDrive = true := by
      refine (State.mayDrive_iff u).mpr ⟨by rw [pins]; exact released, fun m mem => ?_, by rw [yaw, wind]; exact short⟩
      by_cases this : m = n
      · exact ⟨r, this ▸ record, by rw [yaw]; exact shown⟩
      · refine State.Shows.congr (others m (otherParticipants_congr yaw config ▸ mem) this) yaw ?_
        rw [← taken]
        exact PerThread.get?_set_ne _ _ (Ne.symm this)
    have judged := (judgeStatus_goes record goes (otherParticipants_congr yaw config ▸ party)).trans
      (judgeDriving_driven (yaw ▸ releasing) able)
    obtain ⟨driving, driveTimer, releaseWait, motors, running⟩ := (enterDriving_driven u).congr yaw pins config
    have run := exec_frameReceived_status on receives good other got new plain
    rw [taken, judged] at run
    refine ⟨_, run, driving, driveTimer, releaseWait, motors, running, ?_, ?_, ?_⟩
    · have leaves : ¬u.yaw.state = .driving := by simp [yaw, releasing]
      unfold enterDriving setYaw
      exact congrArg (fun v : State => v.table.changePending) (if_neg leaves)
    · rw [show (enterDriving u).link = u.link by simp [enterDriving], ← taken]
      rfl
    · rw [show (enterDriving u).log = u.log by simp [enterDriving], ← taken]
      rfl
  · obtain ⟨free, state⟩ := (State.isJoined_iff s).mp joined
    have on : s.running = true := (State.running_iff s).mpr ⟨free, .inr (.inl state)⟩
    obtain ⟨t, run, yawOf, twist, -⟩ := exec_windEvaluation_judged encoder on timer due
    obtain ⟨yaw, pins, config, threads, -⟩ := s.twistFormed_frame t0 encoder
    have formed (v : Int) := s.twistFormed_own (t0 := t0) (v := v)
    refine ⟨t, run, fun v own read encoded low high absent => ?_, fun reached => ?_, fun short => ?_⟩
    · rw [twist, read]
      exact formed v own joined encoded low high absent
    · rw [twist] at reached
      have stops : judgeTwist (s.twistFormed t0 encoder) = stopSession (s.twistFormed t0 encoder) := by
        refine if_pos ⟨?_, yaw ▸ reached⟩
        simp [State.inSession, yaw, releasing]
      rw [yawOf, stops, stopSession_yaw]
      exact ⟨rfl, rfl⟩
    · rw [twist] at short
      generalize s.twistFormed t0 encoder = u at yaw pins config threads yawOf short
      have able : u.mayDrive = true := by
        refine (State.mayDrive_iff u).mpr ⟨by rw [pins]; exact released, fun m mem => ?_, by rw [yaw]; exact short⟩
        exact State.Shows.congr (shown m (otherParticipants_congr yaw config ▸ mem)) yaw (by rw [threads])
      have drives : judgeTwist u = enterDriving u :=
        (if_neg (by simp [yaw, short])).trans (judgeDriving_driven (yaw ▸ releasing) able)
      have driven := (enterDriving_driven u).congr yaw pins config
      unfold State.Driven at driven
      rw [yawOf, drives]
      exact driven

end Sys2Proof.Machine
end

section
/-! Sessions stopped at once: motor faults, stale peers, the echo of a stop, the twist limit, PLANT causes (R142, R143).
-/
namespace Sys2Proof.Machine
variable {s t u v : State} {cls code : Nat} {detail : Int}

/-! ## A stopped session -/

theorem stopSession_stops (s : State) : (stopSession s).yaw.state = .stopping ∧
    (stopSession s).yaw.motors = PerMotor.all .off ∧ (stopSession s).yaw.brakeDelay = some s.now ∧
    (stopSession s).yaw.release = s.yaw.release ∧ (stopSession s).yaw.session = s.yaw.session ∧
    (stopSession s).yaw.faultMotor = s.yaw.faultMotor := by
  rw [stopSession_yaw]
  exact ⟨rfl, rfl, rfl, rfl, rfl, rfl⟩

theorem stopSession_link (s : State) : (stopSession s).link = (offerStop s).link := enterStopping_link _

theorem State.Tripped.congr (tripped : s.Tripped u cls code detail) (thread : t.thread = u.thread)
    (allotment : t.allotment = u.allotment) (fault : t.fault = u.fault) (log : t.log = u.log) :
    s.Tripped t cls code detail := by
  unfold State.Tripped State.tripLine State.holdsCause State.Logged at tripped ⊢
  rwa [thread, allotment, fault, log]

/-! ## Frames offered with room in the queue -/

/-- R16: a YAW STOP enters an open queue that has room. -/
theorem offerStop_queued (takes : s.takesOffers = true) (room : s.link.queue.length < 8) :
    ∃ x ∈ (offerStop s).link.queue, x.frame = .yawStop s.yaw.session.proposer s.yaw.session.tag := by
  unfold offerStop
  rw [offerYaw_enters _ takes (roomForUrgent_free room)]
  exact ⟨_, (mem_insertSlot ..).mpr (.inl rfl), rfl⟩

theorem offerYaw_link_congr (link : t.link = s.link) (config : t.config = s.config) (f : Frame) :
    (offerYaw t f).link = (offerYaw s f).link := by
  have takes : t.takesOffers = s.takesOffers := by rw [State.takesOffers, link]; rfl
  unfold offerYaw
  rw [takes, link, own_congr config]
  split
  · exact link
  · split <;> rfl

theorem offerStop_link_congr (link : t.link = s.link) (session : t.yaw.session = s.yaw.session)
    (config : t.config = s.config) : (offerStop t).link = (offerStop s).link := by
  unfold offerStop
  rw [session]
  exact offerYaw_link_congr link config _

/-- At most one frame more stands in the queue, which is open as before. -/
def State.QueuesOne (s t : State) : Prop :=
  t.takesOffers = s.takesOffers ∧ (s.link.queue.length < 8 → t.link.queue.length ≤ s.link.queue.length + 1)

theorem State.QueuesOne.of_link (link : t.link = s.link) : s.QueuesOne t := by
  unfold State.QueuesOne State.takesOffers
  rw [link]
  exact ⟨rfl, fun _ => Nat.le_succ _⟩

theorem offerNotice_queuesOne (s : State) (cls code severity action : Nat) (detail : Int) :
    s.QueuesOne (offerNotice s cls code severity action detail) := by
  cases takes : s.takesOffers with
  | false => exact .of_link (by rw [(offer_closed s takes).2.2])
  | true =>
    by_cases room : s.link.queue.length < 8
    · rw [offerNotice_enters _ _ _ _ _ takes (roomForUrgent_free room)]
      exact ⟨rfl, fun _ => by simp⟩
    · refine ⟨?_, fun free => absurd free room⟩
      unfold offerNotice
      (repeat' split) <;> rfl

theorem takeReport_queuesOne (s : State) (detail : Int) {severity : Severity} (notNote : severity ≠ .note) :
    s.QueuesOne (takeReport s cls code severity detail) := by
  obtain ⟨link, -⟩ := tripFirst_frame s cls code severity
  rw [takeReport_eq s cls code detail notNote]
  generalize entered : enterRecord (tripFirst s cls code severity) _ _ _ _ _ _ _ = w
  have same : w.link = s.link := by rw [← entered]; exact link
  obtain ⟨open', grows⟩ := offerNotice_queuesOne w cls code severity.code (reportAction s cls code severity).code detail
  unfold State.QueuesOne State.takesOffers at *
  rw [(wakeCause_frame _).2.2.2.2.2.2.1]
  rw [same] at open' grows
  exact ⟨open', grows⟩

/-! ## A session barred by a PLANT cause -/

/-- R136, R138, R143, R157: what PLANT 1, 2 or 6 entering the cause set makes of the session in hand. -/
def State.Barred (s t : State) : Prop :=
  let stop := Frame.yawStop s.yaw.session.proposer s.yaw.session.tag
  ((s.yaw.state = .releasing ∨ s.yaw.state = .driving) → t.yaw.state = .stopping ∧
    t.yaw.motors = PerMotor.all .off ∧ t.yaw.brakeDelay = some s.now ∧ ∃ x ∈ t.link.queue, x.frame = stop) ∧
  (s.yaw.state = .proposing → t.yaw.state = .idle ∧ t.yaw.hold = some s.now ∧ t.yaw.answerWait = none ∧
    s.Reports t clsYaw 6 0 1 (80 + s.own : Nat) ∧ ∃ x ∈ t.link.queue, x.frame = stop) ∧
  (s.yaw.state = .joined → t.yaw.state = .idle ∧ t.yaw.hold = s.yaw.hold ∧ t.yaw.startWait = none ∧
    s.NoReport t clsYaw 6 ∧ ∃ x ∈ t.link.queue, x.frame = stop) ∧
  ((s.yaw.state = .idle ∨ s.yaw.state = .stopping) → t.yaw = s.yaw)

theorem abandon_yaw (s : State) (reason station : Nat) : (abandon s reason station).yaw =
    { s.yaw.noTimers.motorsOff with
      hold := some s.now
      state := .idle
      stagger := (abandon s reason station).yaw.stagger } := by
  unfold abandon
  rw [enterIdle_yaw]
  simp [startHold, reportNote, enterRecord, YawControl.noTimers, YawControl.motorsOff]

theorem abandon_writes (s : State) (reason station : Nat) : s.Writes (abandon s reason station) 1
    [.mk s.own clsYaw 6 0 1 (some (10 * reason + station : Nat)) none] := by
  refine State.Writes.enter (by simp) ?_ (by decide)
  simp [abandon, startHold, reportNote, enterRecord]
  rfl

theorem abandon_link (s : State) (reason station : Nat) : (abandon s reason station).link = (offerStop s).link := by
  have offered := offerStop_link_congr (s := s) (t := reportNote s clsYaw 6 (10 * reason + station)) rfl rfl rfl
  unfold abandon
  simp only [enterIdle_frame]
  exact offered

/-- The cause taken on a state whose session is that of `s`, its record written and its notice queued. -/
theorem State.Barred.of {ws : List Written} (yaw : u.yaw = s.yaw) (own : u.own = s.own) (takes : u.takesOffers = true)
    (room : u.link.queue.length < 8) (log : s.LogOpen) (writes : s.Writes u 2 ws)
    (others : ∀ w ∈ ws, w.cls = clsYaw → w.code ≠ 6) : s.Barred (barSession u) := by
  have now : u.now = s.now := writes.1
  have stop := offerStop_queued takes room
  rw [yaw] at stop
  refine ⟨fun moving => ?_, fun proposing => ?_, fun joined => ?_, fun still => ?_⟩
  · have stops : barSession u = stopSession u := by
      unfold barSession
      rw [yaw]
      rcases moving with state | state <;> rw [state]
    obtain ⟨state, motors, delay, -⟩ := stopSession_stops u
    rw [stops, stopSession_link]
    exact ⟨state, motors, delay.trans (congrArg some now), stop⟩
  · have abandons : barSession u = abandon u reasonEmergency u.own := by
      unfold barSession
      rw [yaw, proposing]
    rw [abandons, abandon_yaw, abandon_link, own, now]
    refine ⟨rfl, rfl, rfl, ?_, stop⟩
    have all := (writes.trans (abandon_writes u reasonEmergency s.own)).mono (show 2 + 1 ≤ 16 by decide)
    refine all.reports log (List.mem_append_right _ ?_)
    rw [own]
    exact List.mem_cons_self
  · have leaves : barSession u = enterIdle (offerStop u) := by
      unfold barSession
      rw [yaw, joined]
    have writes' : s.Writes (enterIdle (offerStop u)) 2 ws := by
      simpa using writes.trans (State.Writes.of_log (t := enterIdle (offerStop u)) (by simp) (by simp))
    rw [leaves, enterIdle_yaw]
    refine ⟨rfl, ?_, rfl, (writes'.mono (by decide)).noReport log (by decide) others, ?_⟩
    · have same : (offerStop u).yaw = s.yaw := by simpa using yaw
      rw [← same]
      rfl
    · rw [show (enterIdle (offerStop u)).link = (offerStop u).link by simp]
      exact stop
  · have stays : barSession u = u := by
      unfold barSession
      rw [yaw]
      rcases still with state | state <;> rw [state]
    rw [stays, yaw]

/-! ## Entries gone STALE -/

/-- R142, R143: station `n`'s entry goes STALE at a step, and stops the session in hand. -/
def State.Gone (s : State) (n : Nat) : Prop := n ≠ s.own ∧
  (if s.yaw.session.proposer = s.own then n ∈ s.otherParticipants else n = s.yaw.session.proposer) ∧
  ∃ e, s.table.threads.get? n = some e ∧ e.state = .live ∧ s.quiet.threadLimits.1 < min 65535 (e.age + 1) ∧
    min 65535 (e.age + 1) ≤ s.quiet.threadLimits.2

/-- The stations whose entries a step turns STALE, stopping the session. -/
def State.gone (s : State) : List Nat := (newlyStale s.table.threads s.aged.table.threads).filter s.staleStops

theorem newlyStale_map (p : PerThread (Entry StatusRecord)) (f : Nat → Entry StatusRecord → Entry StatusRecord) :
    newlyStale p (p.map f) =
      (p.toList.filter (fun ne => ne.2.state != .stale && (f ne.1 ne.2).state == .stale)).map (·.1) := by
  have zipped : p.toList.zip (p.map f).toList = p.toList.map fun ne => (ne, (ne.1, f ne.1 ne.2)) := rfl
  rw [newlyStale, zipped, List.filter_map, List.map_map]
  rfl

theorem Entry.ageStep_turns {ρ : Type} (e : Entry ρ) (limits : Nat × Nat) :
    (e.state ≠ .stale ∧ (e.ageStep limits).state = .stale) ↔
      e.state = .live ∧ limits.1 < min 65535 (e.age + 1) ∧ min 65535 (e.age + 1) ≤ limits.2 := by
  by_cases absent : e.state = .absent
  · rw [Entry.ageStep_absent absent]
    simp [absent]
  · rw [Entry.ageStep_heard absent]
    split
    case isTrue lost => simp only [reduceCtorEq, and_false, false_iff]; omega
    case isFalse within =>
      split
      case isTrue turns => simp [turns.2]; omega
      case isFalse fresh =>
        constructor
        · rintro ⟨other, stale⟩
          exact absurd stale other
        · rintro ⟨live, late, -⟩
          exact absurd ⟨late, live⟩ fresh

theorem State.mem_gone (s : State) (moving : s.inSession = true) (n : Nat) : n ∈ s.gone ↔ s.Gone n := by
  have aged : s.aged.table.threads =
      s.table.threads.map (fun n e => if n = s.own then e else e.ageStep s.quiet.threadLimits) := rfl
  have stops : s.staleStops n = true ↔
      (if s.yaw.session.proposer = s.own then n ∈ s.otherParticipants else n = s.yaw.session.proposer) := by
    unfold State.staleStops
    rw [moving, Bool.true_and]
    split <;> simp
  rw [State.gone, List.mem_filter, stops, aged, newlyStale_map]
  simp only [List.mem_map, List.mem_filter, Prod.exists, exists_and_right, exists_eq_right, PerThread.mem_toList]
  unfold State.Gone
  by_cases own : n = s.own
  · simp [own]
  · have turns (e : Entry StatusRecord) := e.ageStep_turns s.quiet.threadLimits
    simp only [own, if_false, Bool.and_eq_true, bne_iff_ne, beq_iff_eq, turns, Ne, not_false_eq_true, true_and]
    exact And.comm

theorem State.gone_ascending (s : State) : s.gone.Pairwise (· < ·) := by
  refine List.Pairwise.filter _ ?_
  change (newlyStale s.table.threads (s.table.threads.map _)).Pairwise _
  rw [newlyStale_map]
  exact ascending_filter (PerThread.toList_ascending _) _

theorem age_eq (s : State) : age s = s.gone.head?.elim s.controllerJudged (stopForStale s.controllerJudged) := by
  unfold age
  dsimp only
  change (match s.gone with
    | [] => s.controllerJudged
    | n :: _ => stopForStale s.controllerJudged n) = _
  cases s.gone <;> rfl

/-- R48: the loss of entry 0 writes PLANT 3 at most, and leaves the session alone. -/
theorem controllerJudged_writes (s : State) : ∃ ws, s.Writes s.controllerJudged 2 ws ∧ ∀ w ∈ ws, w.cls = clsPlant := by
  unfold State.controllerJudged
  split
  · have report := reportFault_writes (severity := .warn) (cls := clsPlant) (code := 3) s.aged
      (min 32767 s.aged.table.controller.age) (by simp) rfl (by decide)
    exact ⟨_, (report.trans (.of_log (by simp) (by simp)) : State.Writes s.aged _ _ _), by simp⟩
  · exact ⟨[], (State.Writes.of_log rfl rfl).mono (by decide), by simp⟩

theorem controllerJudged_frame (s : State) : s.controllerJudged.yaw = s.yaw ∧ s.controllerJudged.config = s.config ∧
    s.QueuesOne s.controllerJudged := by
  unfold State.controllerJudged
  split
  · have yaw : (reportFault s.aged clsPlant 3 .warn (min 32767 s.aged.table.controller.age)).yaw = s.yaw := by
      rw [reportWarn_footprint]
      rfl
    have queues := takeReport_queuesOne (cls := clsPlant) (code := 3) s.aged (min 32767 s.aged.table.controller.age)
      (severity := .warn) (by simp)
    rw [← reportWarn_eq] at queues
    refine ⟨by simpa using yaw, by simp [State.aged], ?_⟩
    unfold State.QueuesOne State.takesOffers at queues ⊢
    simp only [judgeDemand_frame]
    exact queues
  · exact ⟨rfl, rfl, .of_link rfl⟩

/-- R142, R143: the report and the stop for an entry gone STALE. -/
theorem stopForStale_stops (s : State) (n : Nat) (takes : s.takesOffers = true) (room : s.link.queue.length < 7) :
    (stopForStale s n).yaw.state = .stopping ∧ (stopForStale s n).yaw.motors = PerMotor.all .off ∧
    (stopForStale s n).yaw.brakeDelay = some s.now ∧ (stopForStale s n).yaw.release = s.yaw.release ∧
    (stopForStale s n).yaw.session = s.yaw.session ∧
    s.Writes (stopForStale s n) 2 [.mk s.own clsYaw 7 1 5 (some n) none] ∧
    ∃ x ∈ (stopForStale s n).link.queue, x.frame = .yawStop s.yaw.session.proposer s.yaw.session.tag := by
  have writes := reportFault_writes (severity := .warn) (cls := clsYaw) (code := 7) s n (by simp) rfl (by decide)
  have yaw : (reportFault s clsYaw 7 .warn n).yaw = s.yaw := by rw [reportWarn_footprint]
  obtain ⟨open', grows⟩ := takeReport_queuesOne (cls := clsYaw) (code := 7) s n (severity := .warn) (by simp)
  rw [← reportWarn_eq] at open' grows
  unfold stopForStale
  generalize reportFault s clsYaw 7 .warn n = u at *
  have now : u.now = s.now := writes.1
  obtain ⟨state, motors, delay, release, session, -⟩ := stopSession_stops u
  rw [yaw] at release session
  have stop := offerStop_queued (open'.trans takes) (by have := grows (by omega); omega)
  rw [yaw] at stop
  rw [stopSession_link]
  exact ⟨state, motors, delay.trans (congrArg some now), release, session,
    writes.trans (.of_log (by simp) (by simp)), stop⟩

/-! ## The causes told to Yaw Control -/

theorem reportFault_barred {c : Nat} (bars : barsSession clsPlant c = true) (fresh : s.holdsCause clsPlant c = false)
    (takes : s.takesOffers = true) (room : s.link.queue.length ≤ 6) (log : s.LogOpen) :
    s.Barred (reportFault s clsPlant c .tripNacelle 0) := by
  have writes := takeReport_writes (severity := .tripNacelle) (cls := clsPlant) (code := c) s 0 (by simp) (by decide)
  obtain ⟨open', grows⟩ := takeReport_queuesOne (cls := clsPlant) (code := c) s 0 (severity := .tripNacelle) (by simp)
  have barred : reportFault s clsPlant c .tripNacelle 0 = barSession (takeReport s clsPlant c .tripNacelle 0) :=
    if_pos ⟨rfl, bars, fresh⟩
  rw [barred]
  refine State.Barred.of (by simp) (own_congr (by simp)) (open'.trans takes)
    (by have := grows (by omega); omega) log writes ?_
  simp [clsPlant, clsYaw]

/-- R157: PLANT 6 taken from a peer's notice. -/
theorem takeNacelleNotice_barred {n : Nat} {f : Notice} (fresh : s.holdsCause clsPlant 6 = false)
    (takes : s.takesOffers = true) (room : s.link.queue.length ≤ 6) (log : s.LogOpen) (other : f.cls ≠ clsYaw) :
    s.Barred (takeNacelleNotice s n f) := by
  obtain ⟨link, log', now, yaw, -, -⟩ := tripCause_frame s clsPlant 6
  have barred : takeNacelleNotice s n f = barSession
    (wakeCause (markTaken (enterRecord (tripThread (addCause s clsPlant 6))
      n f.cls f.code f.severity FaultAction.nacelleTripTaken.code (some f.detail) (some f.number)) n)) := if_pos fresh
  have writes : ∃ ws, s.Writes (wakeCause (markTaken (enterRecord (tripThread (addCause s clsPlant 6))
      n f.cls f.code f.severity FaultAction.nacelleTripTaken.code (some f.detail) (some f.number)) n)) 2 ws ∧
      ∀ w ∈ ws, w.cls = clsYaw → w.code ≠ 6 := by
    let w : Written := .mk n f.cls f.code f.severity 4 (some f.detail) (some f.number)
    refine ⟨_, ⟨by simp [markTaken], [w], ?_, Nat.le_succ 1, rfl⟩, fun x mem yaw => absurd yaw ?_⟩
    · rw [(wakeCause_frame _).2.2.2.2.2.2.2.2.2.2.2.2]
      change FaultLog.enter (tripThread (addCause s clsPlant 6)).log (tripThread (addCause s clsPlant 6)).now
        _ _ _ _ _ _ _ = _
      rw [log', now]
      rfl
    · rw [List.mem_singleton.mp (List.mem_filter.mp mem).1]
      exact other
  obtain ⟨ws, writes, others⟩ := writes
  rw [barred]
  generalize taken : wakeCause _ = u at *
  have sameLink : u.link = s.link := by rw [← taken]; simp [markTaken]
  refine State.Barred.of (ws := ws) (by rw [← taken]; simp [markTaken]) (own_congr (by rw [← taken]; simp [markTaken]))
    ?_ ?_ log writes others
  · rw [State.takesOffers, sameLink]
    exact takes
  · rw [sameLink]
    omega

theorem exec_motorFaultInput (on : s.running = true) (motor : Nat) : exec (.motorFaultInput motor true) s = .next
    (if s.inSession = true ∧ s.motorRuns motor = true then
      stopSession (reportFault { s with
        pins := { s.pins with motorFault := s.pins.motorFault.set motor true }
        yaw := { s.yaw with faultMotor := some motor } } clsYaw 3 .tripThread motor)
    else { s with pins := { s.pins with motorFault := s.pins.motorFault.set motor true } }) :=
  congrArg Host.Outcome.next (if_neg (by simp [on]))

theorem exec_motorFaultInput_ends (on : s.running = true) (motor : Nat) : exec (.motorFaultInput motor false) s = .next
    (if s.yaw.faultMotor = some motor then
      endCondition { s with
        pins := { s.pins with motorFault := s.pins.motorFault.set motor false }
        yaw := { s.yaw with faultMotor := none } } clsYaw 3
    else { s with pins := { s.pins with motorFault := s.pins.motorFault.set motor false } }) :=
  congrArg Host.Outcome.next ((if_neg (by simp [on])).trans (if_neg (by simp)))

/-- R142, R143: a status judged in the session in hand. -/
theorem judgeStatus_stops {n : Nat} {r : StatusRecord} (record : s.recordOf n = some r)
    (stops : s.inSession = true ∧ s.yaw.session.stopped r = true ∧
      (n = s.yaw.session.proposer ∨ (s.yaw.session.proposer = s.own ∧ n ∈ s.otherParticipants))) :
    judgeStatus s n = stopSession s := by
  simp only [judgeStatus, record]
  exact if_pos stops

theorem judgeDriving_states (s : State) : ((judgeDriving s).yaw.state = .driving ∨
    (judgeDriving s).yaw.state = s.yaw.state) ∧ (judgeDriving s).link = s.link ∧ (judgeDriving s).log = s.log := by
  unfold judgeDriving
  split
  · exact ⟨.inl (enterDriving_driven s).1, by simp [enterDriving], by simp [enterDriving]⟩
  · exact ⟨.inr rfl, rfl, rfl⟩

theorem judgeStatus_passes {n : Nat} {r : StatusRecord} (record : s.recordOf n = some r)
    (passes : ¬(n = s.yaw.session.proposer ∨ (s.yaw.session.proposer = s.own ∧ n ∈ s.otherParticipants))) :
    ((judgeStatus s n).yaw.state = .driving ∨ (judgeStatus s n).yaw.state = s.yaw.state) ∧
    (judgeStatus s n).link = s.link ∧ (judgeStatus s n).log = s.log := by
  have judged : judgeStatus s n = if n ∈ s.otherParticipants then judgeDriving s else s := by
    simp only [judgeStatus, record]
    exact if_neg fun stops => passes stops.2.2
  rw [judged]
  split
  · exact judgeDriving_states s
  · exact ⟨.inr rfl, rfl, rfl⟩

theorem inSession_iff (s : State) : s.inSession = true ↔ s.yaw.state = .releasing ∨ s.yaw.state = .driving := by
  simp [State.inSession]

/-- Settles O51: each event by what it finds of the session in hand. -/
theorem sessionsStoppedAtOnce : Obligations.SessionsStoppedAtOnce := by
  refine ⟨fun s motor on low high => ⟨fun driving runs takes can => ?_, fun rests => ?_, fun marked => ?_,
    fun other => ?_⟩,
    fun s t0 on timer due moving log takes room => ?_,
    fun s levels n r e joined receives good other got new plain moving proposer tag code => ?_,
    fun s t0 encoder on timer due moving log => ?_, ?_⟩
  · have moving := (inSession_iff s).mpr (.inr driving)
    generalize begun : ({ s with
      pins := { s.pins with motorFault := s.pins.motorFault.set motor true }
      yaw := { s.yaw with faultMotor := some motor } } : State) = u
    have tripped : s.Tripped (reportFault u clsYaw 3 .tripThread motor) clsYaw 3 motor := by
      subst begun
      exact reportFault_tripThread _ clsYaw 3 motor can takes rfl (by decide)
    have pins : (reportFault u clsYaw 3 .tripThread motor).pins = u.pins := by simp
    have yaw : (reportFault u clsYaw 3 .tripThread motor).yaw = u.yaw := by
      rw [reportFault_apart u .tripThread motor rfl]
      simp
    have now : (reportFault u clsYaw 3 .tripThread motor).now = u.now := by simp
    have run := exec_motorFaultInput on motor
    rw [begun, if_pos ⟨moving, runs⟩] at run
    generalize reportFault u clsYaw 3 .tripThread motor = v at *
    obtain ⟨state, motors, delay, release, session, fault⟩ := stopSession_stops v
    refine ⟨_, run, state, motors, ?_, tripped.congr (by simp) (by simp) (by simp) (by simp), ?_⟩
    · rw [fault, yaw, ← begun]
    · rw [show (stopSession v).pins = v.pins by simp, pins, ← begun]
  · exact (exec_motorFaultInput on motor).trans (congrArg Host.Outcome.next (if_neg fun stops => by
      rw [rests] at stops
      cases stops.2))
  · exact (exec_motorFaultInput_ends on motor).trans (congrArg Host.Outcome.next (if_pos marked))
  · exact (exec_motorFaultInput_ends on motor).trans (congrArg Host.Outcome.next (if_neg other))
  · have stepped := ageingStep_due on timer due
    generalize begun : ({ s with table := { s.table with ageTimer := some (t0 + Config.ageing) } } :
      State) = u at stepped
    have gone (n : Nat) : n ∈ u.gone ↔ s.Gone n := by
      subst begun
      exact State.mem_gone _ ((inSession_iff s).mpr moving) n
    have queue : u.link = s.link := by rw [← begun]
    have fromU {t : State} {ws : List Written} (writes : u.Writes t 16 ws) : s.Writes t 16 ws := by
      subst begun
      exact writes
    obtain ⟨ws, writes, plant⟩ := controllerJudged_writes u
    obtain ⟨yaw, config, open', grows⟩ := controllerJudged_frame u
    have yawS : u.controllerJudged.yaw = s.yaw := yaw.trans (by rw [← begun])
    have ownS : u.controllerJudged.own = s.own := own_congr (config.trans (by rw [← begun]))
    have nowS : u.controllerJudged.now = s.now := writes.1.trans (by rw [← begun])
    refine ⟨_, congrArg Host.Outcome.next (stepped.trans (age_eq u)), fun none => ?_, fun n is least => ?_⟩
    · have nil : u.gone = [] := List.eq_nil_iff_forall_not_mem.mpr fun n mem => none n ((gone n).mp mem)
      rw [nil]
      refine ⟨yawS, (fromU (writes.mono (by decide))).noReport log (by decide) fun w mem cls => ?_⟩
      rw [plant w mem] at cls
      exact absurd cls (by decide)
    · have head : u.gone.head? = some n := by
        have ascending := u.gone_ascending
        have mem := (gone n).mpr is
        cases list : u.gone with
        | nil => simp [list] at mem
        | cons m rest =>
          rw [list] at ascending mem
          have first := least m ((gone m).mp (list ▸ List.mem_cons_self))
          rcases List.mem_cons.mp mem with same | later
          · rw [same]; rfl
          · have := (List.pairwise_cons.mp ascending).1 n later
            omega
      rw [head]
      obtain ⟨state, motors, delay, release, session, stale, stop⟩ := stopForStale_stops u.controllerJudged n
        (open'.trans (by rw [State.takesOffers, queue]; exact takes))
          (by rw [queue] at grows; have := grows (by omega); omega)
      rw [yawS] at release session stop
      rw [ownS] at stale
      exact ⟨state, motors, delay.trans (congrArg some nowS), release, session,
        (fromU ((writes.trans stale).mono (by decide))).reports log (List.mem_append_right _ List.mem_cons_self), stop⟩
  · obtain ⟨free, state⟩ := (State.isJoined_iff s).mp joined
    have on : s.running = true := (State.running_iff s).mpr ⟨free, .inr (.inl state)⟩
    have run := exec_frameReceived_status on receives good other got new plain
    generalize taken : s.received.withStatus n (e.take .thread r.tag r s.quiet.threadLimits.1) = u at run
    have record : u.recordOf n = some r := by
      rw [← taken, recordOf_withStatus (by exact got), Entry.take_new (Entry.not_isRepeat new)]
    have yaw : u.yaw = s.yaw := by rw [← taken]; rfl
    have config : u.config = s.config := by rw [← taken]; rfl
    have link : u.link = s.link := by rw [← taken]; rfl
    have log : u.log = s.log := by rw [← taken]; rfl
    have now : u.now = s.now := by rw [← taken]; rfl
    have own : u.own = s.own := own_congr config
    have party : u.otherParticipants = s.otherParticipants := otherParticipants_congr yaw config
    by_cases stops : n = s.yaw.session.proposer ∨ (s.yaw.session.proposer = s.own ∧ n ∈ s.otherParticipants)
    · have judged : judgeStatus u n = stopSession u := by
        refine judgeStatus_stops record ⟨(inSession_iff u).mpr (yaw ▸ moving), ?_, ?_⟩
        · exact (Session.stopped_iff _ r).mpr (yaw ▸ ⟨proposer, tag, code⟩)
        · rw [yaw, own, party]
          exact stops
      obtain ⟨state', motors, delay, -⟩ := stopSession_stops u
      rw [judged] at run
      refine ⟨_, run, by simpa using log, fun _ => ⟨state', motors, delay.trans (congrArg some now), ?_⟩,
        fun apart other' => ?_⟩
      · rw [stopSession_link]
        exact offerStop_link_congr link (congrArg YawControl.session yaw) config
      · rcases stops with same | ⟨same, mem⟩
        · exact absurd same apart
        · exact absurd mem (other'.resolve_left (fun differs => differs same))
    · obtain ⟨states, link', log'⟩ := judgeStatus_passes record (by rw [yaw, own, party]; exact stops)
      refine ⟨_, run, log'.trans log, fun does => absurd does stops, fun _ _ => ⟨?_, link'.trans link⟩⟩
      rw [yaw] at states
      rcases states with h | h <;> rw [h]
      · simp
      · rcases moving with m | m <;> simp [m]
  · obtain ⟨t, run, yawOf, twist, eq⟩ := exec_windEvaluation_judged encoder on timer due
    obtain ⟨yaw, -, -, -, now⟩ := s.twistFormed_frame t0 encoder
    have whole : t = windStages (s.blowing t0) encoder :=
      Host.Outcome.next.inj (run.symm.trans (exec_windEvaluation_begun encoder on timer due))
    obtain ⟨ws, writes, mem⟩ := windStages_writes (s.blowing t0) encoder
    have sense : ∀ w ∈ ws, w.cls = clsSense := by
      intro w there
      rcases (mem w).mp there with ⟨-, rfl⟩ | ⟨-, rfl⟩ | ⟨-, rfl⟩ | ⟨-, rfl⟩ <;> rfl
    rw [← whole] at writes
    refine ⟨t, run, fun code => State.Writes.noReport (s := s) writes log (by decide) fun w there cls => ?_,
      fun reached => ?_,
      fun short => ?_⟩
    · rw [sense w there] at cls
      exact absurd cls (by decide)
    · rw [twist] at reached
      have stops : judgeTwist (s.twistFormed t0 encoder) = stopSession (s.twistFormed t0 encoder) :=
        if_pos ⟨(inSession_iff _).mpr (yaw ▸ moving), yaw ▸ reached⟩
      obtain ⟨state, motors, delay, release, -⟩ := stopSession_stops (s.twistFormed t0 encoder)
      rw [yawOf, stops]
      exact ⟨state, motors, delay.trans (congrArg some now), release.trans (congrArg YawControl.release yaw)⟩
    · rw [twist] at short
      have goes : judgeTwist (s.twistFormed t0 encoder) = judgeDriving (s.twistFormed t0 encoder) :=
        if_neg (by simp [yaw, short])
      rw [yawOf, goes, ← yaw]
      exact (judgeDriving_states _).1
  · refine ⟨fun s on takes room log => ⟨fun unseen fresh => ⟨_, (exec_safetyInputChange on ..).trans
        (congrArg Host.Outcome.next (seeSafety_active unseen)), ?_⟩, fun unseen fresh =>
          ⟨_, (exec_safetyInputChange on ..).trans
        (congrArg Host.Outcome.next (seeSafety_active unseen)), ?_⟩⟩,
      fun s levels n f joined receives good least most other flagged fresh room log => ?_⟩
    · exact reportFault_barred (c := 1)
        (s := { s with pins := s.pins.setSafety .emergencyStop true, fault := s.fault.see .emergencyStop true })
        rfl fresh takes room log
    · exact reportFault_barred (c := 2)
        (s := { s with pins := s.pins.setSafety .arcOrFire true, fault := s.fault.see .arcOrFire true })
        rfl fresh takes room log
    · obtain ⟨free, state⟩ := (State.isJoined_iff s).mp joined
      have on : s.running = true := (State.running_iff s).mpr ⟨free, .inr (.inl state)⟩
      have taken : frameReceived s levels = takeNacelleNotice s.received n f := by
        refine (frameReceived_dispatch on receives good).trans ((if_neg fun listening => ?_).trans
          ((if_neg (by omega)).trans (if_pos flagged)))
        exact absurd (state.symm.trans listening) (by simp)
      refine ⟨_, congrArg Host.Outcome.next taken, ?_⟩
      exact takeNacelleNotice_barred (s := s.received) fresh (takesOffers_of (.inr state)) room log other

end Sys2Proof.Machine
end

section
/-! The waits of a session, and the proposer's checks (R136, R138, R140, R142, R146). -/
namespace Sys2Proof.Machine
variable {s t u : State} {t0 : Nat}

/-! ## A session left -/

/-- R136: a proposal abandoned starts the hold and is recorded as YAW 6. -/
theorem abandon_abandons (s : State) (reason station : Nat) (below : s.log.newest < Config.lastSequence) :
    (abandon s reason station).yaw.state = .idle ∧ (abandon s reason station).yaw.hold = some s.now ∧
    (abandon s reason station).yaw.answerWait = none ∧ (abandon s reason station).link = (offerStop s).link ∧
    s.Logged (abandon s reason station) s.own clsYaw 6 0 1 (some (10 * reason + station : Nat)) none := by
  rw [abandon_link, abandon_yaw]
  refine ⟨rfl, rfl, rfl, rfl, logged_of_log below ?_⟩
  simp [abandon, startHold, reportNote, enterRecord]
  rfl

theorem enterIdle_leaves (s : State) : (enterIdle s).yaw.state = .idle ∧ (enterIdle s).yaw.hold = s.yaw.hold ∧
    (enterIdle s).yaw.startWait = none ∧ (enterIdle s).yaw.session = s.yaw.session ∧ (enterIdle s).link = s.link ∧
    (enterIdle s).log = s.log := by
  rw [enterIdle_yaw]
  exact ⟨rfl, rfl, rfl, rfl, by simp, by simp⟩

/-! ## The proposer's check (R142) -/

theorem nearZero_iff (limit : Nat) (v : Option Int) : nearZero limit v = true ↔
    v = none ∨ ∃ a, v = some a ∧ -(limit : Int) ≤ a ∧ a ≤ limit := by
  cases v with
  | none => simp [nearZero]
  | some a =>
    simp only [nearZero, decide_eq_true_eq, reduceCtorEq, Option.some.injEq, exists_eq_left', false_or]
    omega

/-- R142: the check of a station whose session is released or driving judges no trigger. -/
theorem exec_yawCheck_moving (joined : s.isJoined = true) (moving : s.yaw.state = .releasing ∨ s.yaw.state = .driving)
    (timer : s.yaw.checkTimer = some t0) (due : t0 + Config.evaluation ≤ s.now) : exec .yawCheck s = .next
      (judgeProposer { s with yaw := { s.yaw.dwell s.wind.misalignment with
        checkTimer := some (t0 + Config.evaluation) } }) := by
  have reached : (s.isJoined || s.isSilent) = true ∧ s.yaw.checkTimer.reached s.now Config.evaluation = true :=
    ⟨by simp [joined], reached_of timer due⟩
  have again : s.yaw.checkTimer.again Config.evaluation = some (t0 + Config.evaluation) := by rw [timer]; rfl
  refine congrArg Host.Outcome.next ((if_pos reached).trans ?_)
  rw [again]
  refine congrArg judgeProposer (if_neg ?_)
  have busy : ¬s.yaw.state = .idle := by rcases moving with h | h <;> simp [h]
  simp [State.judgesTriggers, YawControl.dwell, busy]

/-- R142: the stop conditions of the session in hand. -/
def State.SessionDone (s : State) : Prop :=
  let x := s.yaw.session
  let near (k : Int) (v : Option Int) : Prop := v = none ∨ ∃ a, v = some a ∧ -k ≤ a ∧ a ≤ k
  s.yaw.driveReached = true ∨ (∃ d, s.yaw.driveTimer = some d ∧ d + Config.driveTime ≤ s.now) ∨
  (x.mode = .auto ∧ near 15 s.wind.misalignment) ∨ (x.mode = .storm ∧ near 10 s.wind.misalignment) ∨
  (x.mode = .untwist ∧ near 900 s.wind.sharedTwist) ∨
  (x.mode ≠ .storm ∧ (s.wind.sharedTwist = none ∨ s.demand.order = .hold)) ∨
  (x.mode = .auto ∧ s.demand.order ≠ .auto) ∨ (x.mode = .untwist ∧ s.demand.order ≠ .untwist) ∨
  (x.mode = .order ∧ x.direction = .cw ∧ s.demand.order ≠ .turnCw) ∨
  (x.mode = .order ∧ x.direction = .ccw ∧ s.demand.order ≠ .turnCcw)

/-- R142: the conditions by the mode, the twist and the order, and the drive time, in the order of the table. -/
theorem stopConditions_iff (m : SessionMode) (d : Direction) (o : YawOrder)
    (nearAuto nearStorm nearUntwist lost reached done : Prop) :
    ((m = .auto ∧ nearAuto ∨ m = .storm ∧ nearStorm ∨ m = .untwist ∧ nearUntwist) ∨
      (m ≠ .storm ∧ lost ∨ m = .auto ∧ o ≠ .auto ∨ m = .untwist ∧ o ≠ .untwist ∨
        m = .order ∧ d = .cw ∧ o ≠ .turnCw ∨ m = .order ∧ d = .ccw ∧ o ≠ .turnCcw)) ∨ (reached ∨ done) ↔
    reached ∨ done ∨ m = .auto ∧ nearAuto ∨ m = .storm ∧ nearStorm ∨ m = .untwist ∧ nearUntwist ∨
      m ≠ .storm ∧ (lost ∨ o = .hold) ∨ m = .auto ∧ o ≠ .auto ∨ m = .untwist ∧ o ≠ .untwist ∨
      m = .order ∧ d = .cw ∧ o ≠ .turnCw ∨ m = .order ∧ d = .ccw ∧ o ≠ .turnCcw := by
  have holds : o = .hold → o ≠ .auto ∧ o ≠ .untwist ∧ o ≠ .turnCw ∧ o ≠ .turnCcw := by rintro rfl; simp
  cases m with
  | storm => simp only [reduceCtorEq, false_and, true_and, false_or, or_false, ne_eq, not_true_eq_false]; tauto
  | auto => simp only [reduceCtorEq, false_and, true_and, false_or, or_false, ne_eq, not_false_eq_true]; tauto
  | untwist => simp only [reduceCtorEq, false_and, true_and, false_or, or_false, ne_eq, not_false_eq_true]; tauto
  | order => cases d <;> simp only [reduceCtorEq, false_and, true_and, false_or, or_false, ne_eq,
               not_false_eq_true] <;> tauto

theorem State.sessionDone_iff (s : State) : (s.modeStops || s.orderStops || s.driveDone) = true ↔ s.SessionDone := by
  have near (k : Nat) (v : Option Int) := nearZero_iff k v
  have drive : s.driveDone = true ↔ s.yaw.driveReached = true ∨
      ∃ d, s.yaw.driveTimer = some d ∧ d + Config.driveTime ≤ s.now := by
    simp [State.driveDone, Timer.reached_iff]
  have mode : s.modeStops = true ↔
      (s.yaw.session.mode = .auto ∧ nearZero 15 s.wind.misalignment = true) ∨
      (s.yaw.session.mode = .storm ∧ nearZero 10 s.wind.misalignment = true) ∨
      (s.yaw.session.mode = .untwist ∧ nearZero 900 s.wind.sharedTwist = true) := by
    unfold State.modeStops
    cases s.yaw.session.mode <;> simp
  have order : s.orderStops = true ↔ (s.yaw.session.mode ≠ .storm ∧ s.wind.sharedTwist = none) ∨
      (s.yaw.session.mode = .auto ∧ s.demand.order ≠ .auto) ∨
        (s.yaw.session.mode = .untwist ∧ s.demand.order ≠ .untwist) ∨
      (s.yaw.session.mode = .order ∧ s.yaw.session.direction = .cw ∧ s.demand.order ≠ .turnCw) ∨
      (s.yaw.session.mode = .order ∧ s.yaw.session.direction = .ccw ∧ s.demand.order ≠ .turnCcw) := by
    unfold State.orderStops
    cases s.yaw.session.mode <;> cases s.yaw.session.direction <;> simp [orderOf]
  rw [Bool.or_eq_true, Bool.or_eq_true, mode, order, drive, near, near, near]
  unfold State.SessionDone
  exact stopConditions_iff ..

/-- Settles O49: each wait at its end, and the check by the conditions of R142. -/
theorem sessionWaitsEnd : Obligations.SessionWaitsEnd := by
  refine ⟨fun s t0 joined can => ⟨fun n proposing timer due missing => ?_, fun state timer due => ?_,
    fun releasing timer due => ?_, fun driving timer due => ?_, fun driving reached own timer due => ?_,
    fun timer due => ?_⟩, fun s t0 joined moving timer due => ?_⟩
  · obtain ⟨idle, hold, wait, link, logged⟩ := abandon_abandons s reasonNoAnswer n can.1
    refine ⟨_, congrArg Host.Outcome.next ((if_pos ⟨joined, proposing, reached_of timer due⟩).trans ?_),
      idle, hold, wait,
      logged, link⟩
    rw [missing]
  · obtain ⟨idle, hold, wait, -, link, log⟩ := enterIdle_leaves s
    exact ⟨_, congrArg Host.Outcome.next (if_pos ⟨joined, state, reached_of timer due⟩), idle, hold, wait, link, log⟩
  · have logged := takeReport_logged (severity := .warn) s clsYaw 1 1 (by simp) can.1 can.2.1
    rw [← reportWarn_eq] at logged
    have yaw : (reportFault s clsYaw 1 .warn 1).yaw = s.yaw := by rw [reportWarn_footprint]
    have now : (reportFault s clsYaw 1 .warn 1).now = s.now := by rw [reportWarn_footprint]
    refine ⟨_, congrArg Host.Outcome.next (if_pos ⟨joined, releasing, reached_of timer due⟩), ?_⟩
    generalize reportFault s clsYaw 1 .warn 1 = u at *
    obtain ⟨state, motors, delay, release, -⟩ := stopSession_stops u
    refine ⟨state, delay.trans (congrArg some now), by rw [stopSession_yaw]; rfl,
      release.trans (congrArg _ yaw), motors, ?_⟩
    unfold State.Logged
    rw [show (stopSession u).log = u.log by simp]
    exact logged
  · exact congrArg Host.Outcome.next (if_pos ⟨joined, driving, reached_of timer due⟩)
  · have run := exec_yawCheck_moving joined (.inr driving) timer due
    generalize begun : ({ s with yaw := { s.yaw.dwell s.wind.misalignment with
      checkTimer := some (t0 + Config.evaluation) } } : State) = u at run
    have stops : judgeProposer u = stopSession u := by
      refine if_pos ⟨(inSession_iff u).mpr (.inr ?_), ?_, ?_⟩
      · rw [← begun]; exact driving
      · rw [← begun]; exact own
      · rw [State.sessionDone_iff, ← begun]
        exact .inl reached
    obtain ⟨state, motors, -⟩ := stopSession_stops u
    rw [stops] at run
    exact ⟨_, run, state, motors, by simp [← begun]⟩
  · exact congrArg Host.Outcome.next (if_pos ⟨((State.isJoined_iff s).mp joined).1, reached_of timer due⟩)
  · have run := exec_yawCheck_moving joined moving timer due
    generalize begun : ({ s with yaw := { s.yaw.dwell s.wind.misalignment with
      checkTimer := some (t0 + Config.evaluation) } } : State) = u at run
    have inSession : u.inSession = true := (inSession_iff u).mpr (by rw [← begun]; exact moving)
    have yaw : u.yaw.session = s.yaw.session ∧ u.yaw.release = s.yaw.release := by rw [← begun]; exact ⟨rfl, rfl⟩
    have done : (u.modeStops || u.orderStops || u.driveDone) = true ↔ s.SessionDone := by
      rw [State.sessionDone_iff, ← begun]
      exact Iff.rfl
    by_cases stops : s.yaw.session.proposer = s.own ∧ s.SessionDone
    · have judged : judgeProposer u = stopSession u :=
        if_pos ⟨inSession, by rw [← begun]; exact stops.1, done.mpr stops.2⟩
      obtain ⟨state, motors, delay, release, session, -⟩ := stopSession_stops u
      rw [judged] at run
      refine ⟨_, run, by simp [← begun], session.trans yaw.1, release.trans yaw.2, fun _ _ => ⟨state, motors, ?_, ?_⟩,
        fun other => ?_⟩
      · rw [delay, ← begun]
      · rw [stopSession_link]
        exact offerStop_link_congr (s := s) (by rw [← begun]) yaw.1 (by rw [← begun])
      · exact absurd stops fun both => other.elim (fun differs => differs both.1) (fun undone => undone both.2)
    · have judged : judgeProposer u = u :=
        if_neg fun due => stops ⟨by rw [← begun] at due; exact due.2.1, done.mp due.2.2⟩
      rw [judged] at run
      refine ⟨_, run, by rw [← begun], yaw.1, yaw.2, fun own is => absurd ⟨own, is⟩ stops, fun _ => ?_⟩
      subst begun
      exact ⟨rfl, rfl, rfl, rfl, rfl⟩

end Sys2Proof.Machine
end

section
/-! The answers, the START and the STOP of a session as a station takes them (R136 to R138, R144, R127, R188). -/
namespace Sys2Proof.Machine
variable {s t u : State} {levels : List Level} {n : Nat} {f : Frame}

/-! ## The frames taken -/

theorem State.running_of_joined (joined : s.isJoined = true) : s.running = true :=
  (State.running_iff s).mpr ⟨((State.isJoined_iff s).mp joined).1, .inr (.inl ((State.isJoined_iff s).mp joined).2)⟩

theorem exec_frameReceived_good (joined : s.isJoined = true) (receives : s.receives = true)
    (good : receive levels = (false, .good n f)) :
    exec (.frameReceived levels) s = .next (dispatch s.received n f) :=
  congrArg Host.Outcome.next (frameReceived_dispatch (State.running_of_joined joined) receives good)

theorem State.joined_beq (joined : s.isJoined = true) : (s.received.link.state == .joined) = true :=
  beq_iff_eq.mpr ((State.isJoined_iff s).mp joined).2

theorem exec_frameReceived_answer {proposer tag verdict offered reason : Nat} (joined : s.isJoined = true)
    (receives : s.receives = true) (good : receive levels =
    (false, .good n (.yawAnswer proposer tag verdict offered reason))) :
    exec (.frameReceived levels) s = .next (takeAnswer s.received n proposer tag verdict offered reason) :=
  (exec_frameReceived_good joined receives good).trans (congrArg Host.Outcome.next (if_pos (State.joined_beq joined)))

theorem exec_frameReceived_start {tag mode direction budget : Nat} {allocation : List (Nat × Nat)}
    (joined : s.isJoined = true)
    (receives : s.receives = true)
    (good : receive levels = (false, .good n (.yawStart tag mode direction budget allocation))) :
    exec (.frameReceived levels) s = .next (takeStart s.received n tag mode direction budget allocation) :=
  (exec_frameReceived_good joined receives good).trans (congrArg Host.Outcome.next (if_pos (State.joined_beq joined)))

theorem exec_frameReceived_stop {p tag : Nat} (joined : s.isJoined = true) (receives : s.receives = true)
    (good : receive levels = (false, .good n (.yawStop p tag))) :
    exec (.frameReceived levels) s = .next (takeStop s.received n p tag) :=
  (exec_frameReceived_good joined receives good).trans (congrArg Host.Outcome.next (if_pos (State.joined_beq joined)))

theorem exec_frameReceived_proposal {tag mode direction budget : Nat} {twist : Option Int} (joined : s.isJoined = true)
    (receives : s.receives = true)
    (good : receive levels = (false, .good n (.yawProposal tag mode direction budget twist))) :
    exec (.frameReceived levels) s = .next (takeProposal s.received n tag mode direction budget twist) :=
  (exec_frameReceived_good joined receives good).trans (congrArg Host.Outcome.next (if_pos (State.joined_beq joined)))

theorem takesPart_iff (s : State) : s.takesPart = false ↔ s.cfg.motors = 0 ∨ s.cfg.isolated = true := by
  unfold State.takesPart
  cases s.cfg.isolated <;> simp

/-- R127: a station without motors, or isolated, takes no part in the session that a frame bears on. -/
theorem takeProposal_apart {p tag mode direction budget : Nat} {twist : Option Int}
    (out : s.takesPart = false ∨ budget = 0) : takeProposal s p tag mode direction budget twist = s := by
  unfold takeProposal
  split
  · refine if_neg fun takes => ?_
    rcases out with apart | none
    · simp [apart] at takes
    · exact takes.2 none
  · rfl

/-! ## The offers and the allocation (R137) -/

theorem mem_insertStation {p q : Nat × Nat} {l : List (Nat × Nat)} : q ∈ insertStation p l ↔ q = p ∨ q ∈ l := by
  induction l with
  | nil => simp [insertStation]
  | cons x rest ih =>
    unfold insertStation
    split
    · simp
    · simp only [List.mem_cons, ih]
      tauto

theorem insertStation_ascending {p : Nat × Nat} {l : List (Nat × Nat)} (order : (l.map (·.1)).Pairwise (· < ·))
    (new : p.1 ∉ l.map (·.1)) : ((insertStation p l).map (·.1)).Pairwise (· < ·) := by
  induction l with
  | nil => simp [insertStation]
  | cons x rest ih =>
    obtain ⟨first, others⟩ := List.pairwise_cons.mp order
    obtain ⟨apart, new'⟩ := not_or.mp fun is => new (List.mem_cons.mpr is)
    unfold insertStation
    split
    case isTrue le =>
      have lt : p.1 < x.1 := lt_of_le_of_ne le apart
      refine List.pairwise_cons.mpr ⟨fun y mem => ?_, order⟩
      rcases List.mem_cons.mp mem with rfl | later
      · exact lt
      · exact lt.trans (first y later)
    case isFalse gt =>
      refine List.pairwise_cons.mpr ⟨fun y mem => ?_, ih others new'⟩
      obtain ⟨q, there, rfl⟩ := List.mem_map.mp mem
      rcases mem_insertStation.mp there with rfl | old
      · exact Nat.not_le.mp gt
      · exact first _ (List.mem_map_of_mem old)

/-- The motors an expected station has offered. -/
def Session.offeredBy (x : Session) (n : Nat) : Nat :=
  (x.answers.find? (fun a => a.station == n)).elim 0 (·.offered)

theorem State.offers_eq (s : State) : s.offers = s.yaw.session.expected.foldr
    (fun n => insertStation (n, s.yaw.session.offeredBy n)) [(s.own, s.motorsReady)] := by
  unfold State.offers
  congr 1
  funext n acc
  unfold Session.offeredBy
  cases s.yaw.session.answers.find? (fun a => a.station == n) <;> rfl

theorem mem_offers (offered : Nat → Nat) (base : Nat × Nat) (l : List Nat) (q : Nat × Nat) :
    q ∈ l.foldr (fun n => insertStation (n, offered n)) [base] ↔ q = base ∨ (q.1 ∈ l ∧ q.2 = offered q.1) := by
  induction l with
  | nil => simp
  | cons x rest ih =>
    rw [List.foldr_cons, mem_insertStation, ih, List.mem_cons, Prod.ext_iff]
    constructor
    · rintro (⟨station, count⟩ | same | ⟨mem, count⟩)
      · exact .inr ⟨.inl station, station ▸ count⟩
      · exact .inl same
      · exact .inr ⟨.inr mem, count⟩
    · rintro (same | ⟨station | mem, count⟩)
      · exact .inr (.inl same)
      · exact .inl ⟨station, count.trans (congrArg offered station)⟩
      · exact .inr (.inr ⟨mem, count⟩)

theorem offers_ascending (offered : Nat → Nat) (base : Nat × Nat) {l : List Nat} (distinct : l.Nodup)
    (apart : base.1 ∉ l) :
    ((l.foldr (fun n => insertStation (n, offered n)) [base]).map (·.1)).Pairwise (· < ·) := by
  induction l with
  | nil => simp
  | cons x rest ih =>
    obtain ⟨new, distinct'⟩ := List.nodup_cons.mp distinct
    obtain ⟨other, apart'⟩ := not_or.mp fun is => apart (List.mem_cons.mpr is)
    refine insertStation_ascending (ih distinct' apart') fun mem => ?_
    obtain ⟨q, there, station⟩ := List.mem_map.mp mem
    rcases (mem_offers ..).mp there with rfl | ⟨listed, -⟩
    · exact other station
    · exact new ((show q.1 = x from station) ▸ listed)

theorem allocate_stations (budget : Nat) (offers : List (Nat × Nat)) :
    (allocate budget offers).map (·.1) = offers.map (·.1) := by
  obtain ⟨level, raised, kept, parts, eq, -⟩ := allocate_eq budget offers
  rw [eq, parts, List.map_append, List.map_append]
  simp [runCountsAt, Function.comp_def]

theorem runCountOf_mem {allocation : List (Nat × Nat)} (listed : n ∈ allocation.map (·.1)) :
    ∃ count, runCountOf allocation n = some count ∧ (n, count) ∈ allocation := by
  obtain ⟨q, mem, rfl⟩ := List.mem_map.mp listed
  obtain ⟨r, found⟩ := Option.isSome_iff_exists.mp
    (List.find?_isSome (p := fun p : Nat × Nat => p.1 == q.1).mpr ⟨q, mem, beq_self_eq_true _⟩)
  have station : r.1 = q.1 := by simpa using List.find?_some found
  refine ⟨r.2, by rw [runCountOf, found]; rfl, ?_⟩
  rw [← station]
  exact List.mem_of_find?_eq_some found

theorem runCountOf_none {allocation : List (Nat × Nat)} (absent : ∀ p ∈ allocation, p.1 ≠ n) :
    runCountOf allocation n = none := by
  rw [runCountOf, List.find?_eq_none.mpr (by simpa using absent)]
  rfl

theorem runCountOf_listed {allocation : List (Nat × Nat)} {count : Nat}
    (order : allocation.Pairwise (fun a b => a.1 < b.1))
    (mem : (n, count) ∈ allocation) : runCountOf allocation n = some count := by
  obtain ⟨c, found, mem'⟩ := runCountOf_mem (List.mem_map_of_mem (f := (·.1)) mem)
  have distinct : (allocation.map (·.1)).Nodup := (List.pairwise_map.mpr order).imp Nat.ne_of_lt
  rw [found, (Prod.mk.inj (List.inj_on_of_nodup_map distinct mem mem' rfl)).2]

theorem goodAllocation_iff (allocation : List (Nat × Nat)) : goodAllocation allocation = true ↔
    allocation.Pairwise (fun a b => a.1 < b.1) ∧ ∀ p ∈ allocation, p.2 ≤ 4 := by
  induction allocation with
  | nil => simp [goodAllocation]
  | cons p rest ih =>
    obtain ⟨n, count⟩ := p
    unfold goodAllocation
    rw [Bool.and_eq_true, Bool.and_eq_true, ih, decide_eq_true_iff, List.pairwise_cons, List.forall_mem_cons]
    cases rest with
    | nil => simp
    | cons q rest =>
      simp only [decide_eq_true_eq]
      constructor
      · rintro ⟨⟨few, lt⟩, order, fews⟩
        refine ⟨⟨fun y mem => ?_, order⟩, few, fews⟩
        rcases List.mem_cons.mp mem with rfl | later
        · exact lt
        · exact lt.trans ((List.pairwise_cons.mp order).1 y later)
      · rintro ⟨⟨before, order⟩, few, fews⟩
        exact ⟨⟨few, before q List.mem_cons_self⟩, order, fews⟩

/-! ## The release begun (R139) -/

theorem enterReleasing_yaw (s : State) : (enterReleasing s).yaw = { s.yaw.noTimers with
    release := true
    releaseWait := some s.now
    state := .releasing
    stagger := (enterReleasing s).yaw.stagger } := by
  unfold enterReleasing
  rw [setYaw_eq]

theorem setYaw_changed {y : YawState} (other : s.yaw.state ≠ y) : (setYaw s y).table.changePending = true :=
  congrArg (fun v : State => v.table.changePending) (if_neg other)

/-- R137: the allocation of the round over the offers, and the START it is offered with. -/
theorem allocateAndStart_starts (s : State) (other : s.yaw.state ≠ .releasing) :
    (allocateAndStart s).yaw.state = .releasing ∧ (allocateAndStart s).yaw.release = true ∧
    (allocateAndStart s).yaw.releaseWait = some s.now ∧ (allocateAndStart s).yaw.answerWait = none ∧
    (allocateAndStart s).yaw.session = { s.yaw.session with
      allocation := allocate s.yaw.session.budget s.offers
      runCount := (runCountOf (allocate s.yaw.session.budget s.offers) s.own).getD 0
      startTime := s.now } ∧
    (allocateAndStart s).link = (offerYaw s (.yawStart s.yaw.session.tag s.yaw.session.mode.code
      s.yaw.session.direction.code s.yaw.session.budget (allocate s.yaw.session.budget s.offers))).link ∧
    (allocateAndStart s).table.changePending = true ∧ (allocateAndStart s).log = s.log := by
  unfold allocateAndStart
  dsimp only
  generalize begun : ({ s with yaw := { s.yaw with session := { s.yaw.session with
    allocation := allocate s.yaw.session.budget s.offers
    runCount := (runCountOf (allocate s.yaw.session.budget s.offers) s.own).getD 0
    startTime := s.now } } } : State) = u
  have yaw (f : Frame) : (offerYaw u f).yaw = u.yaw := (offerYaw_frame u f).2.2.2.2.2.2.2.2.2.2.2.2.2.1
  have now (f : Frame) : (offerYaw u f).now = u.now := (offerYaw_frame u f).2.1
  rw [enterReleasing_yaw, yaw, now]
  subst begun
  refine ⟨rfl, rfl, rfl, rfl, rfl, ?_, ?_, by simp⟩
  · simp only [enterReleasing_frame]
    exact offerYaw_link_congr (s := s) (by rfl) (by rfl) _
  · exact setYaw_changed (by simpa [YawControl.noTimers] using other)

theorem Session.complete_iff (x : Session) : x.complete = true ↔
    ∀ n ∈ x.expected, ∃ a ∈ x.answers, a.station = n ∧ a.ready = true := by
  simp [Session.complete]

theorem State.takesAnswer_iff (s : State) (sender proposer tag : Nat) : s.takesAnswer sender proposer tag = true ↔
    s.takesPart = true ∧ s.yaw.state = .proposing ∧ proposer = s.own ∧ tag = s.yaw.session.tag ∧
      sender ∈ s.yaw.session.expected ∧ ∀ a ∈ s.yaw.session.answers, a.station ≠ sender := by
  simp [State.takesAnswer, and_assoc]

/-- An answer as the list takes it. -/
def heardAnswer (n verdict offered reason : Nat) : Answer where
  station := n
  ready := verdict == verdictReady
  offered := offered
  reason := reason

/-- R136: an answer with a verdict of R188 that the list takes. -/
theorem takeAnswer_takes {proposer tag verdict offered reason : Nat} (takes : s.takesAnswer n proposer tag = true)
    (known : verdict = 1 ∨ verdict = 2) : takeAnswer s n proposer tag verdict offered reason =
      if verdict = verdictRefuse then abandon (addAnswer s (heardAnswer n verdict offered reason)) reason n
      else if (addAnswer s (heardAnswer n verdict offered reason)).yaw.session.complete then
        allocateAndStart (addAnswer s (heardAnswer n verdict offered reason))
      else addAnswer s (heardAnswer n verdict offered reason) :=
  if_pos ⟨known, takes⟩

/-- R137: the offers of a list just completed, each station's as it answered. -/
theorem offeredBy_added {x : Session} {offered reason k m : Nat} (fresh : ∀ a ∈ x.answers, a.station ≠ n)
    (distinct : (x.answers.map (·.station)).Nodup)
    (answered : m = n ∨ ∃ a ∈ x.answers, a.station = m) :
    k = ({ x with answers := x.answers ++ [heardAnswer n 1 offered reason] } : Session).offeredBy m ↔
      (m = n ∧ k = offered) ∨ (m ≠ n ∧ ∃ a ∈ x.answers, a.station = m ∧ a.offered = k) := by
  unfold Session.offeredBy
  by_cases same : m = n
  · subst same
    have none : x.answers.find? (fun a => a.station == m) = none := List.find?_eq_none.mpr (by simpa using fresh)
    simp [List.find?_append, none, heardAnswer]
  · obtain ⟨a, mem, station⟩ := answered.resolve_left same
    obtain ⟨b, found⟩ := Option.isSome_iff_exists.mp
      (List.find?_isSome (p := fun a : Answer => a.station == m).mpr ⟨a, mem, by simpa using station⟩)
    have there := List.mem_of_find?_eq_some found
    have stationB : b.station = m := by simpa using List.find?_some found
    rw [List.find?_append, found]
    simp only [Option.some_or, Option.elim_some, same, false_and, ne_eq, not_false_eq_true, true_and, false_or]
    constructor
    · exact fun eq => ⟨b, there, stationB, eq.symm⟩
    · rintro ⟨c, memC, stationC, eq⟩
      rw [List.inj_on_of_nodup_map distinct there memC (stationB.trans stationC.symm)]
      exact eq.symm

/-- R136, R137: the answer that completes the list. -/
theorem takeAnswer_completes {offered reason : Nat} (takes : s.takesAnswer n s.own s.yaw.session.tag = true)
    (distinct : s.yaw.session.expected.Nodup) (apart : s.own ∉ s.yaw.session.expected)
    (once : (s.yaw.session.answers.map (·.station)).Nodup)
    (others : ∀ m ∈ s.yaw.session.expected, m ≠ n → ∃ a ∈ s.yaw.session.answers, a.station = m ∧ a.ready = true) :
    ∃ offers : List (Nat × Nat), (offers.map (·.1)).Pairwise (· < ·) ∧
      (∀ m k, (m, k) ∈ offers ↔ (m = s.own ∧ k = s.motorsReady) ∨ (m = n ∧ k = offered) ∨
        (m ∈ s.yaw.session.expected ∧ m ≠ n ∧ ∃ a ∈ s.yaw.session.answers, a.station = m ∧ a.offered = k)) ∧
      (addAnswer s (heardAnswer n 1 offered reason)).offers = offers ∧
      takeAnswer s n s.own s.yaw.session.tag 1 offered reason =
        allocateAndStart (addAnswer s (heardAnswer n 1 offered reason)) := by
  obtain ⟨-, proposing, -, -, expected, fresh⟩ := (State.takesAnswer_iff ..).mp takes
  have complete : (addAnswer s (heardAnswer n 1 offered reason)).yaw.session.complete = true := by
    refine (Session.complete_iff _).mpr fun m mem => ?_
    by_cases same : m = n
    · exact ⟨_, List.mem_append_right _ List.mem_cons_self, same.symm, rfl⟩
    · obtain ⟨a, there, is⟩ := others m mem same
      exact ⟨a, List.mem_append_left _ there, is⟩
  refine ⟨_, ?_, fun m k => ?_, State.offers_eq _, (takeAnswer_takes takes (.inl rfl)).trans
    ((if_neg (by decide)).trans (if_pos complete))⟩
  · exact offers_ascending _ _ distinct apart
  · refine (mem_offers ..).trans ?_
    have listed : m ∈ s.yaw.session.expected →
      (k = (addAnswer s (heardAnswer n 1 offered reason)).yaw.session.offeredBy m ↔
        (m = n ∧ k = offered) ∨ (m ≠ n ∧ ∃ a ∈ s.yaw.session.answers, a.station = m ∧ a.offered = k)) := by
      intro mem
      refine offeredBy_added (x := s.yaw.session) fresh once ?_
      by_cases same : m = n
      · exact .inl same
      · obtain ⟨a, there, station, -⟩ := others m mem same
        exact .inr ⟨a, there, station⟩
    rw [Prod.ext_iff]
    refine or_congr Iff.rfl ?_
    constructor
    · rintro ⟨mem, is⟩
      exact ((listed mem).mp is).imp id fun ⟨other, a⟩ => ⟨mem, other, a⟩
    · rintro (⟨same, is⟩ | ⟨mem, other, a⟩)
      · exact ⟨by rw [same]; exact expected, (listed (by rw [same]; exact expected)).mpr (.inl ⟨same, is⟩)⟩
      · exact ⟨mem, (listed mem).mpr (.inr ⟨other, a⟩)⟩

/-! ## START and STOP -/

theorem takeStart_takes {tag budget : Nat} {mode : SessionMode} {direction : Direction} {allocation : List (Nat × Nat)}
    (takes : s.takesPart = true) (joined : s.yaw.state = .joined) (some' : budget ≠ 0)
    (good : goodAllocation allocation = true)
    (from' : n = s.yaw.session.proposer) (same : tag = s.yaw.session.tag) :
    takeStart s n tag mode.code direction.code budget allocation = (runCountOf allocation s.own).elim (enterIdle s)
      fun count => enterReleasing { s with yaw := { s.yaw with session := { s.yaw.session with
        allocation := allocation, runCount := count, startTime := s.now } } } := by
  have known : (SessionMode.ofCode mode.code).isSome = true ∧ (Direction.ofCode direction.code).isSome = true := by
    cases mode <;> cases direction <;> exact ⟨rfl, rfl⟩
  refine (if_pos ⟨takes, known.1, known.2, some', good, joined, from', same⟩).trans ?_
  cases runCountOf allocation s.own <;> rfl

theorem enterStopping_stops (s : State) : (enterStopping s).yaw.state = .stopping ∧
    (enterStopping s).yaw.motors = PerMotor.all .off ∧ (enterStopping s).yaw.brakeDelay = some s.now ∧
    (enterStopping s).yaw.release = s.yaw.release ∧ (enterStopping s).yaw.session = s.yaw.session := by
  unfold enterStopping
  rw [setYaw_eq]
  exact ⟨rfl, rfl, rfl, rfl, rfl⟩

/-- Settles O47: the answers, the START and the STOP, each by what it finds of the session in hand. -/
theorem sessionFramesTaken : Obligations.SessionFramesTaken := by
  refine ⟨⟨fun s levels n offered reason joined receives takes proposing own expected fresh =>
        ⟨fun good distinct apart once others => ?_, fun good below active => ?_⟩,
      fun s levels n tag mode direction budget allocation joined receives good out => ?_,
      fun s levels budget mode direction allocation joined receives takes state some' order few good =>
        ⟨fun count mem => ?_, fun absent active => ?_⟩⟩,
    fun s levels n p tag joined receives takes good => ⟨fun out => ?_, fun proposer same =>
      ⟨fun moving => ?_, fun state active => ?_, fun proposing active below => ?_⟩⟩,
    fun s levels n proposer tag verdict offered reason joined receives takes good => ⟨fun out => ?_,
      fun proposing own same expected unlisted ready missing => ?_⟩,
    fun s levels n f joined receives out good kind => ?_⟩
  · have taken := (State.takesAnswer_iff s.received n s.own s.yaw.session.tag).mpr
      ⟨takes, proposing, rfl, rfl, expected, fresh⟩
    obtain ⟨offers, ascending, mem, eq, starts⟩ := takeAnswer_completes (s := s.received) (offered := offered)
      (reason := reason) taken distinct apart once others
    obtain ⟨releasing, release, wait, answerWait, session, link, change, log⟩ := allocateAndStart_starts
      (addAnswer s.received (heardAnswer n 1 offered reason)) (by simp [addAnswer, State.received, proposing])
    have run := (exec_frameReceived_answer joined receives good).trans (congrArg Host.Outcome.next starts)
    rw [eq] at session link
    have listed : s.own ∈ (allocate s.yaw.session.budget offers).map (·.1) := by
      rw [allocate_stations]
      exact List.mem_map_of_mem (f := (·.1)) ((mem s.own s.motorsReady).mpr (.inl ⟨rfl, rfl⟩))
    obtain ⟨count, found, counted⟩ := runCountOf_mem listed
    generalize allocateAndStart _ = t at *
    refine ⟨t, offers, run, releasing, release, wait, answerWait, by rw [session]; rfl, ascending,
      mem, by rw [session]; rfl,
      ?_, ?_, change, log⟩
    · rw [session]
      change (s.own, (runCountOf (allocate s.yaw.session.budget offers) s.own).getD 0) ∈
        allocate s.yaw.session.budget offers
      rw [found]
      exact counted
    · rw [link, session]
      exact offerYaw_link_congr (s := s) (by rfl) (by rfl) _
  · have taken := (State.takesAnswer_iff s.received n s.own s.yaw.session.tag).mpr
      ⟨takes, proposing, rfl, rfl, expected, fresh⟩
    obtain ⟨idle, hold, wait, link, logged⟩ := abandon_abandons (addAnswer s.received (heardAnswer n 2 offered reason))
      reason n below
    refine ⟨_, (exec_frameReceived_answer joined receives good).trans (congrArg Host.Outcome.next
      ((takeAnswer_takes taken (.inr rfl)).trans (if_pos rfl))), idle, hold, wait, logged, link.trans ?_⟩
    unfold offerStop
    rw [show (addAnswer s.received (heardAnswer n 2 offered reason)).yaw.session.proposer = s.own from own]
    exact offerYaw_link_congr (s := s) (by rfl) (by rfl) _
  · refine (exec_frameReceived_start joined receives good).trans (congrArg Host.Outcome.next (if_neg ?_))
    rintro ⟨-, -, -, some', listed, state, from', same⟩
    obtain ⟨order, few⟩ := (goodAllocation_iff allocation).mp listed
    rcases out with h | h | h | h | h | ⟨p, mem, more⟩
    · exact h state
    · exact h from'
    · exact h same
    · exact some' h
    · exact h order
    · have := few p mem
      omega
  · have starts := takeStart_takes (s := s.received) takes state some'
      ((goodAllocation_iff allocation).mpr ⟨order, few⟩)
      (mode := mode) (direction := direction) rfl rfl
    rw [show s.received.own = s.own from rfl, runCountOf_listed order mem] at starts
    refine ⟨_, (exec_frameReceived_start joined receives good).trans (congrArg Host.Outcome.next starts), ?_⟩
    dsimp only [Option.elim_some]
    rw [enterReleasing_yaw]
    refine ⟨rfl, rfl, rfl, rfl, rfl, ?_, by simp only [enterReleasing_frame]; rfl,
      by simp only [enterReleasing_frame]; rfl⟩
    exact setYaw_changed (by simp [YawControl.noTimers, State.received, state])
  · have leaves := takeStart_takes (s := s.received) takes state some'
      ((goodAllocation_iff allocation).mpr ⟨order, few⟩)
      (mode := mode) (direction := direction) rfl rfl
    rw [runCountOf_none (n := s.received.own) absent] at leaves
    obtain ⟨idle, hold, -, session, link, -⟩ := enterIdle_leaves s.received
    exact ⟨_, (exec_frameReceived_start joined receives good).trans (congrArg Host.Outcome.next leaves), idle,
      hold, session,
      link⟩
  · refine (exec_frameReceived_stop joined receives good).trans (congrArg Host.Outcome.next ?_)
    unfold takeStop
    split
    case isTrue bears =>
      rcases out with h | h | h | h
      · exact absurd bears.2.1 h
      · exact absurd bears.2.2 h
      · rw [show s.received.yaw.state = .idle from h]
      · rw [show s.received.yaw.state = .stopping from h]
    case isFalse => rfl
  · have stops : takeStop s.received n p tag = enterStopping s.received := by
      refine (if_pos ⟨takes, proposer, same⟩).trans ?_
      rcases moving with h | h <;> rw [show s.received.yaw.state = _ from h]
    obtain ⟨state, motors, delay, release, session⟩ := enterStopping_stops s.received
    exact ⟨_, (exec_frameReceived_stop joined receives good).trans (congrArg Host.Outcome.next stops), state,
      motors, delay,
      release, session, enterStopping_link _, by simp only [enterStopping_frame]; rfl⟩
  · have leaves : takeStop s.received n p tag = enterIdle s.received := by
      refine (if_pos ⟨takes, proposer, same⟩).trans ?_
      rw [show s.received.yaw.state = .joined from state]
    obtain ⟨idle, hold, wait, -, link, log⟩ := enterIdle_leaves s.received
    exact ⟨_, (exec_frameReceived_stop joined receives good).trans (congrArg Host.Outcome.next leaves), idle,
      hold, wait, link,
      log⟩
  · have abandons : takeStop s.received n p tag = abandon s.received reasonStopHeard n := by
      refine (if_pos ⟨takes, proposer, same⟩).trans ?_
      rw [show s.received.yaw.state = .proposing from proposing]
    obtain ⟨idle, hold, wait, link, logged⟩ := abandon_abandons s.received reasonStopHeard n below
    exact ⟨_, (exec_frameReceived_stop joined receives good).trans (congrArg Host.Outcome.next abandons),
      idle, hold, wait,
      link.trans (offerStop_link_congr (by rfl) (by rfl) (by rfl)), logged⟩
  · refine (exec_frameReceived_answer joined receives good).trans (congrArg Host.Outcome.next (if_neg ?_))
    rintro ⟨known, taken⟩
    obtain ⟨-, state, from', same, mem, unlisted⟩ := (State.takesAnswer_iff ..).mp taken
    rcases out with h | h | h | h | ⟨a, there, station⟩ | ⟨h, h'⟩
    · exact h state
    · exact h from'
    · exact h same
    · exact h mem
    · exact unlisted a there station
    · exact known.elim h h'
  · subst own same ready
    have taken := (State.takesAnswer_iff s.received n s.own s.yaw.session.tag).mpr
      ⟨takes, proposing, rfl, rfl, expected, fun a mem station => unlisted ⟨a, mem, station⟩⟩
    obtain ⟨m, memM, other, none⟩ := missing
    have incomplete : ¬(addAnswer s.received (heardAnswer n 1 offered reason)).yaw.session.complete = true := by
      rw [Session.complete_iff]
      intro all
      obtain ⟨a, mem, station, -⟩ := all m memM
      rcases List.mem_append.mp mem with old | new
      · exact none a old station
      · rw [List.mem_singleton.mp new] at station
        exact other station.symm
    exact (exec_frameReceived_answer joined receives good).trans (congrArg Host.Outcome.next
      ((takeAnswer_takes taken (.inl rfl)).trans ((if_neg (by decide)).trans (if_neg incomplete))))
  · have apart : s.received.takesPart = false := (takesPart_iff s).mpr out
    have never : ¬s.received.takesPart = true := by simp [apart]
    cases f with
    | yawStop p tag =>
      exact (exec_frameReceived_stop joined receives good).trans
        (congrArg Host.Outcome.next (if_neg fun bears => never bears.1))
    | yawStart tag mode direction budget allocation =>
      exact (exec_frameReceived_start joined receives good).trans
        (congrArg Host.Outcome.next (if_neg fun bears => never bears.1))
    | yawAnswer proposer tag verdict offered reason =>
      exact (exec_frameReceived_answer joined receives good).trans (congrArg Host.Outcome.next
        (if_neg fun bears => never ((State.takesAnswer_iff ..).mp bears.2).1))
    | yawProposal tag mode direction budget twist =>
      exact (exec_frameReceived_proposal joined receives good).trans
        (congrArg Host.Outcome.next (takeProposal_apart (.inl apart)))
    | faultNotice _ => simp [Frame.kind] at kind
    | plantDemand _ => simp [Frame.kind] at kind
    | threadStatus _ => simp [Frame.kind] at kind
    | quietOrder _ _ => simp [Frame.kind] at kind
    | logRequest _ _ _ => simp [Frame.kind] at kind
    | logEntry _ => simp [Frame.kind] at kind

end Sys2Proof.Machine
end

section
/-! Proposals heard: answered, yielded to, refused as BUSY or ignored (R134, R135, R132). -/
namespace Sys2Proof.Machine
variable {s t u : State} {p : Proposal}

theorem takeProposal_hears {n tag budget : Nat} {twist : Option Int} (mode : SessionMode) (direction : Direction)
    (takes : s.takesPart = true) (some' : budget ≠ 0) :
    takeProposal s n tag mode.code direction.code budget twist =
      hearProposal s (.mk n tag mode direction budget twist) := by
  have known : SessionMode.ofCode mode.code = some mode ∧ Direction.ofCode direction.code = some direction := by
    cases mode <;> cases direction <;> exact ⟨rfl, rfl⟩
  simp only [takeProposal, known, takes, some', ne_eq, not_false_eq_true, and_self, if_true]

theorem State.newProposal_iff (s : State) (p : Proposal) :
    s.newProposal p = true ↔ ¬(p.proposer = s.yaw.session.proposer ∧ p.tag = s.yaw.session.tag) := by
  simp only [State.newProposal, Bool.not_eq_true', Bool.and_eq_false_iff, beq_eq_false_iff_ne]
  tauto

/-- R135: the reason as its table states it. -/
theorem State.refusal_eq (s : State) (p : Proposal) : s.refusal p =
    (if s.motorsReady = 0 ∨ s.yawBarred = true then 4
    else if s.yaw.release = true ∨ s.pins.brakesReleased = true then 3
    else if twistReached p.mode p.direction s.wind.sharedTwist = true ∨
      twistReached p.mode p.direction p.twist = true then 2
    else if s.demand.order = .hold ∧ p.mode ≠ .storm then 5
    else 0) := by
  have brakes : s.brakesHealthy = false ↔ s.yaw.release = true ∨ s.pins.brakesReleased = true := by
    unfold State.brakesHealthy
    cases s.yaw.release <;> cases s.pins.brakesReleased <;> simp
  simp only [State.refusal, brakes, Bool.or_eq_true]

theorem offerAnswer_yaw (s : State) (p : Proposal) (reason : Nat) : (offerAnswer s p reason).yaw = s.yaw :=
  (offerYaw_frame s _).2.2.2.2.2.2.2.2.2.2.2.2.2.1

theorem offerYaw_footprint (s : State) (f : Frame) : offerYaw s f = { s with link := (offerYaw s f).link } := by
  unfold offerYaw
  (repeat' split) <;> rfl

/-- R135: what an answer leaves of a station. -/
theorem answerProposal_ready (ready : s.refusal p = 0) : answerProposal s p = setYaw { offerAnswer s p 0 with
    yaw := { s.yaw with session := p.session, startWait := some s.now } } .joined := by
  have now : (offerAnswer s p 0).now = s.now := (offerYaw_frame s _).2.1
  unfold answerProposal
  dsimp only
  rw [ready, if_pos rfl, offerAnswer_yaw, now]

theorem answerProposal_refuses (refuses : s.refusal p ≠ 0) : answerProposal s p = offerAnswer s p (s.refusal p) :=
  if_neg refuses

/-- R135: READY, and the session record kept. -/
theorem answerProposal_joins (ready : s.refusal p = 0) (idle : s.yaw.state = .idle) :
    (answerProposal s p).yaw = { s.yaw with
      session := p.session
      startWait := some s.now
      state := .joined
      stagger := (answerProposal s p).yaw.stagger } ∧
    (s.yaw.stagger = none → (answerProposal s p).yaw.stagger = none) ∧
    (answerProposal s p).table.changePending = true ∧ (answerProposal s p).link = (offerAnswer s p 0).link ∧
    (answerProposal s p).log = s.log := by
  have log : (offerAnswer s p 0).log = s.log := (offerYaw_frame s _).2.2.2.2.2.2.2.2.2.2.2.2.2.2.2
  rw [answerProposal_ready ready]
  generalize offered : ({ offerAnswer s p 0 with
    yaw := { s.yaw with session := p.session, startWait := some s.now } } : State) = u
  have yaw : u.yaw = { s.yaw with session := p.session, startWait := some s.now } := by rw [← offered]
  have other : u.yaw.state ≠ .joined := by rw [yaw]; simp [idle]
  refine ⟨?_, fun none => ?_, setYaw_changed other, ?_, ?_⟩
  · rw [setYaw_eq]
    dsimp only
    rw [yaw]
  · unfold setYaw
    rw [if_neg other]
    change (if u.yaw.state = .idle then _ else u.yaw.stagger) = _
    rw [yaw]
    dsimp only
    rw [none, ite_self]
  · rw [(setYaw_frame u .joined).2.2.2.2.2.2.1, ← offered]
  · rw [(setYaw_frame u .joined).2.2.2.2.2.2.2.2.2.2.2.2.2.2, ← offered]
    exact log

/-- R134: the station that yields, before it answers as in Y_IDLE. -/
def State.yielded (s : State) : State :=
  setYaw { s with yaw := { s.yaw.noTimers.motorsOff with session := { s.yaw.session with answers := [] } } } .idle

theorem State.yielded_yaw (s : State) : s.yielded.yaw = { s.yaw.noTimers.motorsOff with
    session := { s.yaw.session with answers := [] }
    state := .idle
    stagger := s.yielded.yaw.stagger } := by
  unfold State.yielded
  rw [setYaw_eq]

theorem State.yielded_refusal (s : State) (p : Proposal) : s.yielded.refusal p = s.refusal p := by
  rw [State.refusal_eq, State.refusal_eq]
  unfold State.yielded
  rw [setYaw_eq]
  rfl

theorem State.yielded_frame (s : State) : s.yielded.link = s.link ∧ s.yielded.config = s.config ∧
    s.yielded.log = s.log ∧ s.yielded.now = s.now ∧ s.yielded.pins = s.pins := by
  unfold State.yielded
  simp

/-- R134: yielded to, the proposal is answered as in Y_IDLE, and no hold is started. -/
theorem yieldTo_answers (s : State) (p : Proposal) :
    (yieldTo s p).yaw = (answerProposal s.yielded p).yaw ∧ (yieldTo s p).link = (answerProposal s.yielded p).link ∧
    (yieldTo s p).log = (answerProposal s.yielded p).log := by
  have same : yieldTo s p = quietTest (answerProposal s.yielded p) := rfl
  rw [same]
  simp

theorem offerAnswer_link (s t : State) (p : Proposal) (reason : Nat) (link : t.link = s.link)
    (config : t.config = s.config)
    (pins : t.pins = s.pins) : (offerAnswer t p reason).link = (offerYaw s (.yawAnswer p.proposer p.tag
      (if reason = 0 then 1 else 2) (if reason = 0 then s.motorsReady else 0) reason)).link := by
  have ready : t.motorsReady = s.motorsReady := by
    unfold State.motorsReady State.readyMotors State.configuredMotors
    rw [cfg_congr config, pins]
  unfold offerAnswer
  rw [ready]
  exact offerYaw_link_congr link config _

theorem offerAnswer_eq (t : State) (p : Proposal) (reason : Nat) :
    offerAnswer t p reason = { t with link := (offerAnswer t p reason).link } := offerYaw_footprint ..

/-- R134: the proposals of a number that is yielded to. -/
theorem judgeProposal_yields (yields : (s.yaw.state = .proposing ∧ p.proposer < s.own) ∨
    (s.yaw.state = .joined ∧ p.proposer ≤ s.yaw.session.proposer)) : judgeProposal s p = yieldTo s p := by
  unfold judgeProposal
  rcases yields with ⟨state, lower⟩ | ⟨state, lower⟩
  · rw [state]
    exact if_pos lower
  · rw [state]
    exact if_pos lower

theorem judgeProposal_ignores (higher : (s.yaw.state = .proposing ∧ s.own ≤ p.proposer) ∨
    (s.yaw.state = .joined ∧ s.yaw.session.proposer < p.proposer)) : judgeProposal s p = s := by
  unfold judgeProposal
  rcases higher with ⟨state, higher⟩ | ⟨state, higher⟩
  · rw [state]
    exact if_neg (Nat.not_lt.mpr higher)
  · rw [state]
    exact if_neg (Nat.not_le.mpr higher)

/-- Settles O46: a proposal by its number and the yaw state that hears it. -/
theorem proposalAnswered : Obligations.ProposalAnswered := by
  refine ⟨fun s levels p tag budget mode direction twist joined receives takes some' good => ?_,
    fun s levels p tag mode direction budget twist joined receives good out => ?_⟩
  · let x : Proposal := .mk p tag mode direction budget twist
    have run : exec (.frameReceived levels) s = .next (hearProposal s.received x) :=
      (exec_frameReceived_proposal joined receives good).trans
        (congrArg Host.Outcome.next (takeProposal_hears mode direction takes some'))
    have hears (new : ¬(p = s.yaw.session.proposer ∧ tag = s.yaw.session.tag)) :
        hearProposal s.received x = judgeProposal (dropStagger s.received) x :=
      if_pos ((State.newProposal_iff s.received x).mpr new)
    have reason : (dropStagger s.received).refusal x = _ := State.refusal_eq ..
    refine ⟨fun new idle zero => ?_, fun new idle other => ?_, fun new busy => ?_, fun new yields => ?_,
      fun ignored => ?_⟩
    · have ready : (dropStagger s.received).refusal x = 0 := reason.trans zero
      have judged : judgeProposal (dropStagger s.received) x = answerProposal (dropStagger s.received) x := by
        unfold judgeProposal
        rw [show (dropStagger s.received).yaw.state = .idle from idle]
      obtain ⟨yaw, stagger, change, link, -⟩ := answerProposal_joins ready (by exact idle)
      rw [hears new, judged] at run
      refine ⟨_, run, by rw [yaw], stagger rfl, by rw [yaw]; rfl, by rw [yaw]; rfl, by rw [yaw]; rfl, by rw [yaw]; rfl,
        by rw [yaw]; rfl, by rw [yaw]; rfl, by rw [yaw]; rfl, change, link.trans ?_⟩
      exact offerAnswer_link s (dropStagger s.received) x 0 rfl rfl rfl
    · have refuses : (dropStagger s.received).refusal x ≠ 0 := fun ready => other (reason.symm.trans ready)
      have judged : judgeProposal (dropStagger s.received) x = answerProposal (dropStagger s.received) x := by
        unfold judgeProposal
        rw [show (dropStagger s.received).yaw.state = .idle from idle]
      have link := offerAnswer_link s (dropStagger s.received) x ((dropStagger s.received).refusal x) rfl rfl rfl
      rw [if_neg refuses, if_neg refuses] at link
      rw [hears new, judged, answerProposal_refuses refuses, offerAnswer_eq, link, reason] at run
      exact run
    · have judged : judgeProposal (dropStagger s.received) x = offerAnswer (dropStagger s.received) x reasonBusy := by
        unfold judgeProposal
        rcases busy with h | h | h <;> rw [show (dropStagger s.received).yaw.state = _ from h]
      have link := offerAnswer_link s (dropStagger s.received) x reasonBusy rfl rfl rfl
      rw [hears new, judged, offerAnswer_eq, link] at run
      exact run
    · have judged := judgeProposal_yields (s := dropStagger s.received) (p := x) yields
      obtain ⟨yaw, link, log⟩ := yieldTo_answers (dropStagger s.received) x
      rw [hears new, judged] at run
      refine ⟨_, run, ?_⟩
      rw [yaw, link, log]
      have same := (State.yielded_refusal (dropStagger s.received) x).trans reason
      obtain ⟨linkY, configY, logY, nowY, pinsY⟩ := State.yielded_frame (dropStagger s.received)
      have yawY := State.yielded_yaw (dropStagger s.received)
      by_cases ready : (dropStagger s.received).yielded.refusal x = 0
      · have zero := same.symm.trans ready
        obtain ⟨yaw', -, -, link', log'⟩ := answerProposal_joins ready (by rw [yawY])
        have answer := offerAnswer_link s (dropStagger s.received).yielded x 0 linkY configY pinsY
        rw [yaw', link', log', answer, logY, nowY, yawY]
        refine ⟨rfl, rfl, rfl, rfl, ?_, fun _ => ⟨rfl, rfl, rfl, rfl, rfl, rfl, rfl, rfl⟩, fun other =>
          absurd zero other⟩
        exact congrArg (fun k => (offerYaw s (.yawAnswer p tag (if k = 0 then 1 else 2)
          (if k = 0 then s.motorsReady else 0) k)).link) zero.symm
      · have other : ¬_ = 0 := fun zero => ready (same.trans zero)
        have answer := offerAnswer_link s (dropStagger s.received).yielded x
          ((dropStagger s.received).yielded.refusal x) linkY configY pinsY
        have logA : (offerAnswer (dropStagger s.received).yielded x
          ((dropStagger s.received).yielded.refusal x)).log = (dropStagger s.received).yielded.log :=
          (offerYaw_frame _ _).2.2.2.2.2.2.2.2.2.2.2.2.2.2.2
        rw [answerProposal_refuses ready, answer, offerAnswer_yaw, logA, logY, yawY, same]
        exact ⟨rfl, rfl, rfl, rfl, rfl, fun zero => absurd zero other, fun _ => ⟨rfl, rfl, rfl⟩⟩
    · by_cases new : ¬(p = s.yaw.session.proposer ∧ tag = s.yaw.session.tag)
      · rw [hears new, judgeProposal_ignores (s := dropStagger s.received) (p := x)
          (ignored.resolve_left fun old => old new)] at run
        exact run
      · have drops : hearProposal s.received x = dropStagger s.received :=
          if_neg fun is => new ((State.newProposal_iff s.received x).mp is)
        rw [drops] at run
        exact run
  · have out' : s.received.takesPart = false ∨ budget = 0 := by
      rcases out with none | rest
      · exact .inr none
      · exact .inl ((takesPart_iff s).mpr rest)
    exact (exec_frameReceived_proposal joined receives good).trans
      (congrArg Host.Outcome.next (takeProposal_apart out'))

end Sys2Proof.Machine
end

section
/-! The checks of a station in Y_IDLE: dwell counters, triggers, inhibits and their notes (R128 to R132). -/
namespace Sys2Proof.Machine
variable {s t u : State} {t0 : Nat}

/-! ## Dwell counters (R128) -/

section dwell
variable {threshold limit count : Nat} {m : Int} {positive : Bool}

theorem dwellAfter_rises (far : ((threshold : Int) ≤ m ∧ positive = true) ∨ (m ≤ -threshold ∧ positive = false))
    (some' : 0 < threshold) :
    dwellAfter threshold limit (some m) count positive = (min limit (count + 1), positive) := by
  have sign : decide (0 < m) = positive := by
    rcases far with ⟨high, rfl⟩ | ⟨low, rfl⟩ <;> simp <;> omega
  exact (if_pos (by omega)).trans (if_pos sign)

theorem dwellAfter_turns (far : ((threshold : Int) ≤ m ∧ positive = false) ∨ (m ≤ -threshold ∧ positive = true))
    (some' : 0 < threshold) : dwellAfter threshold limit (some m) count positive = (1, !positive) := by
  have sign : decide (0 < m) = !positive := by
    rcases far with ⟨high, rfl⟩ | ⟨low, rfl⟩ <;> simp <;> omega
  refine (if_pos (by omega)).trans ((if_neg (by rw [sign]; cases positive <;> simp)).trans ?_)
  rw [sign]

theorem dwellAfter_rests {v : Option Int}
    (near : v = none ∨ ∃ m, v = some m ∧ -(threshold : Int) < m ∧ m < threshold) :
    dwellAfter threshold limit v count positive = (0, positive) := by
  rcases near with rfl | ⟨m, rfl, low, high⟩
  · rfl
  · exact if_neg (by omega)

theorem dwellAfter_some {v : Option Int} (counts : (dwellAfter threshold limit v count positive).1 ≠ 0) :
    ∃ m, v = some m ∧ threshold ≤ m.natAbs := by
  cases v with
  | none => exact absurd rfl counts
  | some m =>
    refine ⟨m, rfl, ?_⟩
    by_contra near
    exact counts (congrArg Prod.fst (if_neg near))

end dwell

/-! ## The ring (R131, R133) -/

/-- R133: a yaw-capable peer, in an entry state. -/
def State.Peer (s : State) (n : Nat) (state : EntryState) : Prop :=
  n ≠ s.own ∧ ∃ e r, s.table.threads.get? n = some e ∧ e.record = some r ∧ e.role = .thread ∧ 0 < r.motorsReady ∧
    r.isolated = false ∧ e.state = state

theorem State.mem_yawPeers (s : State) (n : Nat) (state : EntryState) : (n, state) ∈ s.yawPeers ↔ s.Peer n state := by
  unfold State.yawPeers State.Peer
  rw [List.mem_filterMap]
  constructor
  · rintro ⟨⟨m, e⟩, mem, eq⟩
    obtain ⟨other, got⟩ := (s.mem_peers m e).mp mem
    cases record : e.record with
    | none => simp [record] at eq
    | some r =>
      simp only [record] at eq
      split at eq
      case isTrue capable =>
        cases eq
        exact ⟨other, e, r, got, record, capable.1, capable.2.1, capable.2.2, rfl⟩
      case isFalse => cases eq
  · rintro ⟨other, e, r, got, record, role, ready, free, rfl⟩
    refine ⟨(n, e), (s.mem_peers n e).mpr ⟨other, got⟩, ?_⟩
    simp only [record]
    exact if_pos ⟨role, ready, free⟩

theorem State.yawPeers_ascending (s : State) : s.yawPeers.Pairwise (fun x y => x.1 < y.1) := by
  refine List.pairwise_map.mp (ascending_filterMap s.peers_ascending _
    (fun y : Nat × EntryState => y.1) fun x b eq => ?_)
  cases record : x.2.record with
  | none => simp [record] at eq
  | some r =>
    simp only [record] at eq
    split at eq
    · cases eq
      rfl
    · cases eq

/-- R131: a yaw-capable peer that is not LIVE. -/
def State.Ring (s : State) (n : Nat) : Prop := n ≠ s.own ∧ ∃ e r, s.table.threads.get? n = some e ∧ e.record = some r ∧
  e.role = .thread ∧ 0 < r.motorsReady ∧ r.isolated = false ∧ (e.state = .heard ∨ e.state = .stale ∨ e.state = .lost)

theorem EntryState.holdsRing_iff (e : EntryState) : e.holdsRing = true ↔ e = .heard ∨ e = .stale ∨ e = .lost := by
  cases e <;> simp [EntryState.holdsRing]

theorem State.ring_iff (s : State) (n : Nat) :
    s.Ring n ↔ ∃ state, (n, state) ∈ s.yawPeers ∧ state.holdsRing = true := by
  simp only [State.mem_yawPeers, EntryState.holdsRing_iff]
  constructor
  · rintro ⟨other, e, r, got, record, role, ready, free, states⟩
    exact ⟨e.state, ⟨other, e, r, got, record, role, ready, free, rfl⟩, states⟩
  · rintro ⟨state, ⟨other, e, r, got, record, role, ready, free, rfl⟩, states⟩
    exact ⟨other, e, r, got, record, role, ready, free, states⟩

theorem State.peerInhibits_none (s : State) : s.peerInhibits = none ↔ ∀ n, ¬s.Ring n := by
  simp only [State.peerInhibits, Option.map_eq_none_iff, List.find?_eq_none, State.ring_iff, Prod.forall,
    not_exists, not_and]

theorem State.peerInhibits_some {n : Nat} (ring : s.Ring n) (least : ∀ m, s.Ring m → n ≤ m) :
    s.peerInhibits = some n := by
  cases found : s.yawPeers.find? (·.2.holdsRing) with
  | none =>
    have none : s.peerInhibits = none := by rw [State.peerInhibits, found]; rfl
    exact absurd ring (s.peerInhibits_none.mp none n)
  | some p =>
    have holds : p.2.holdsRing = true := by simpa using List.find?_some found
    obtain ⟨-, before, after, split, first⟩ := List.find?_eq_some_iff_append.mp found
    have lowest := least p.1 ((s.ring_iff p.1).mpr ⟨p.2, List.mem_of_find?_eq_some found, holds⟩)
    obtain ⟨state, mem, holds'⟩ := (s.ring_iff n).mp ring
    have order := s.yawPeers_ascending
    rw [split] at mem order
    rw [State.peerInhibits, found]
    refine congrArg some ?_
    rcases List.mem_append.mp mem with early | late
    · have := first _ early
      simp [holds'] at this
    · rcases List.mem_cons.mp late with same | later
      · exact (congrArg Prod.fst same).symm
      · have := (List.pairwise_cons.mp (List.pairwise_append.mp order).2.1).1 _ later
        simp only at this
        omega

/-! ## The inhibits (R131) -/

theorem twistReached_iff (mode : SessionMode) (direction : Direction) (v : Option Int) :
    twistReached mode direction v = true ↔ ∃ x, v = some x ∧
      ((direction = .cw ∧ (if mode = .storm then 14400 else 10800) ≤ x) ∨
        (direction = .ccw ∧ x ≤ -(if mode = .storm then 14400 else 10800))) := by
  cases v with
  | none => simp [twistReached]
  | some x =>
    have limit : mode.limit = if mode = .storm then 14400 else 10800 := by cases mode <;> rfl
    simp only [Option.some.injEq, exists_eq_left', ← limit]
    cases direction with
    | cw =>
      have reached : twistReached mode .cw (some x) = true ↔ mode.limit ≤ x := decide_eq_true_iff
      simpa using reached
    | ccw =>
      have reached : twistReached mode .ccw (some x) = true ↔ x ≤ -mode.limit := decide_eq_true_iff
      simpa using reached

theorem State.yawBarred_iff (s : State) : s.yawBarred = true ↔ (∃ c ∈ s.fault.causes, c.cls = clsYaw) ∨
    ∃ c ∈ s.fault.causes, c.cls = clsPlant ∧ (c.code = 1 ∨ c.code = 2 ∨ c.code = 6) := by
  have held (k : Nat) : s.holdsCause clsPlant k = true ↔ ∃ c ∈ s.fault.causes, c.cls = clsPlant ∧ c.code = k := by
    simp [State.holdsCause]
  simp only [State.yawBarred, Bool.or_eq_true, held, List.any_eq_true, beq_iff_eq, or_assoc]
  refine or_congr Iff.rfl ?_
  constructor
  · rintro (⟨c, mem, cls, code⟩ | ⟨c, mem, cls, code⟩ | ⟨c, mem, cls, code⟩)
    · exact ⟨c, mem, cls, .inl code⟩
    · exact ⟨c, mem, cls, .inr (.inl code)⟩
    · exact ⟨c, mem, cls, .inr (.inr code)⟩
  · rintro ⟨c, mem, cls, code | code | code⟩
    · exact .inl ⟨c, mem, cls, code⟩
    · exact .inr (.inl ⟨c, mem, cls, code⟩)
    · exact .inr (.inr ⟨c, mem, cls, code⟩)

/-- R131: the inhibits of a trigger, one by one. -/
theorem State.inhibited_iff (s : State) (mode : SessionMode) (direction : Direction) :
    s.inhibited ⟨mode, direction⟩ = true ↔ (s.motorsReady = 0 ∨ s.cfg.isolated = true) ∨
      (s.yaw.release = true ∨ s.pins.brakesReleased = true) ∨ s.yawBarred = true ∨
      (mode ≠ .storm ∧ s.wind.sharedTwist = none) ∨ twistReached mode direction s.wind.sharedTwist = true ∨
      ∃ n, s.Ring n := by
  have capable : s.yawCapable = false ↔ s.motorsReady = 0 ∨ s.cfg.isolated = true := by
    unfold State.yawCapable
    cases s.cfg.isolated <;> simp
  have brakes : s.brakesHealthy = false ↔ s.yaw.release = true ∨ s.pins.brakesReleased = true := by
    unfold State.brakesHealthy
    cases s.yaw.release <;> cases s.pins.brakesReleased <;> simp
  have peer : s.peerInhibits.isSome = true ↔ ∃ n, s.Ring n := by
    rw [← Option.ne_none_iff_isSome, Ne, s.peerInhibits_none]
    simp
  simp only [State.inhibited, Bool.or_eq_true, Bool.not_eq_true', capable, brakes, peer, Bool.and_eq_true, bne_iff_ne,
    Option.isNone_iff_eq_none, State.limitInhibits, or_assoc]

/-! ## The notes of the inhibits (R131) -/

/-- A trigger meets the twist limit, in STORM or out of it. -/
def State.limitIn (s : State) (t : Trigger) (storm : Bool) : Bool := s.limitInhibits t && ((t.mode == .storm) == storm)

/-- R131: what the notes of a trigger's inhibits write. -/
def State.inhibitWrites (s : State) (t : Trigger) : List Written :=
  (if s.limitIn t true = true ∧ s.yaw.noteYaw5 = true then
      [warnRecord s.own clsYaw 5 (s.wind.sharedTwist.getD 0)]
    else []) ++
  ((if s.limitIn t false = true ∧ s.yaw.noteYaw4 = true then
      [.mk s.own clsYaw 4 0 1 (some (s.wind.sharedTwist.getD 0)) none]
    else []) ++
  (s.peerInhibits.elim [] fun n => if s.yaw.noteYaw8 = true then
    [.mk s.own clsYaw 8 0 1 (some (n : Int)) none] else []))

/-- R131: the blocks that the notes of the inhibits leave. -/
def State.NotedApart (s t : State) : Prop := ∃ four five eight link log, t = { s with
  yaw := { s.yaw with noteYaw4 := four, noteYaw5 := five, noteYaw8 := eight }
  link := link
  log := log }

theorem State.NotedApart.refl (s : State) : s.NotedApart s := ⟨_, _, _, _, _, rfl⟩

theorem State.NotedApart.trans (st : s.NotedApart t) (tu : t.NotedApart u) : s.NotedApart u := by
  obtain ⟨_, _, _, _, _, rfl⟩ := st
  obtain ⟨_, _, _, _, _, rfl⟩ := tu
  exact ⟨_, _, _, _, _, rfl⟩

theorem warnYaw5_active (s : State) (detail : Int) (active : s.quiet.state = .active) :
    reportFault s clsYaw 5 .warn detail = { s with
      link := (reportFault s clsYaw 5 .warn detail).link, log := (reportFault s clsYaw 5 .warn detail).log } ∧
    s.Writes (reportFault s clsYaw 5 .warn detail) 2 [warnRecord s.own clsYaw 5 detail] := by
  refine ⟨?_, reportFault_writes (severity := .warn) (cls := clsYaw) (code := 5) s detail (by simp) rfl (by decide)⟩
  have awake := reportWarn_awake s clsYaw 5 detail (by simp [active])
  have same : { s.quiet with state := QuietState.active } = s.quiet := by rw [← active]
  rw [same] at awake
  exact awake

theorem logLimit_storm {t : Trigger} (limit : s.limitIn t true = true) : logLimit t s =
    if s.yaw.noteYaw5 then
      reportFault { s with yaw := { s.yaw with noteYaw5 := false } } clsYaw 5 .warn (s.wind.sharedTwist.getD 0)
    else s := by
  simp only [State.limitIn, Bool.and_eq_true, beq_iff_eq] at limit
  exact (if_pos limit.1).trans (if_pos limit.2)

theorem logLimit_plain {t : Trigger} (limit : s.limitIn t false = true) : logLimit t s =
    if s.yaw.noteYaw4 then
      reportNote { s with yaw := { s.yaw with noteYaw4 := false } } clsYaw 4 (s.wind.sharedTwist.getD 0)
    else s := by
  simp only [State.limitIn, Bool.and_eq_true, beq_iff_eq, beq_eq_false_iff_ne, ne_eq] at limit
  exact (if_pos limit.1).trans (if_neg limit.2)

theorem logLimit_short {t : Trigger} (short : s.limitInhibits t = false) : logLimit t s = s := if_neg (by simp [short])

/-- The limit is met in STORM, out of it, or not at all. -/
theorem State.limitIn_cases (s : State) (t : Trigger) :
    (s.limitIn t true = true ∧ s.limitIn t false = false) ∨ (s.limitIn t true = false ∧ s.limitIn t false = true) ∨
    (s.limitIn t true = false ∧ s.limitIn t false = false ∧ s.limitInhibits t = false) := by
  unfold State.limitIn
  cases s.limitInhibits t <;> cases t.mode == .storm <;> simp

theorem logLimit_notes (t : Trigger) (active : s.quiet.state = .active) : s.NotedApart (logLimit t s) ∧
    (logLimit t s).yaw.noteYaw5 = (s.yaw.noteYaw5 && !s.limitIn t true) ∧
    (logLimit t s).yaw.noteYaw4 = (s.yaw.noteYaw4 && !s.limitIn t false) ∧
    (logLimit t s).yaw.noteYaw8 = s.yaw.noteYaw8 ∧
    s.Writes (logLimit t s) 2
      ((if s.limitIn t true = true ∧ s.yaw.noteYaw5 = true then
          [warnRecord s.own clsYaw 5 (s.wind.sharedTwist.getD 0)]
        else []) ++
      (if s.limitIn t false = true ∧ s.yaw.noteYaw4 = true then
          [.mk s.own clsYaw 4 0 1 (some (s.wind.sharedTwist.getD 0)) none]
        else [])) := by
  have still : s.Writes s 2 [] := (State.Writes.of_log rfl rfl).mono (by decide)
  have same := State.NotedApart.refl s
  rcases s.limitIn_cases t with ⟨storm, plain⟩ | ⟨storm, plain⟩ | ⟨storm, plain, short⟩
  · rw [logLimit_storm storm, storm, plain]
    cases armed : s.yaw.noteYaw5 with
    | true =>
      obtain ⟨eq, writes⟩ := warnYaw5_active { s with yaw := { s.yaw with noteYaw5 := false } }
        (s.wind.sharedTwist.getD 0) active
      rw [if_pos rfl]
      have writes' : s.Writes _ 2 [warnRecord s.own clsYaw 5 (s.wind.sharedTwist.getD 0)] := writes
      exact ⟨⟨_, _, _, _, _, eq⟩, by rw [eq]; rfl, by rw [eq]; simp, by rw [eq], by simpa using writes'⟩
    | false => simpa [armed] using ⟨same, still⟩
  · rw [logLimit_plain plain, storm, plain]
    cases armed : s.yaw.noteYaw4 with
    | true =>
      rw [if_pos rfl]
      have writes : s.Writes (reportNote { s with yaw := { s.yaw with noteYaw4 := false } } clsYaw 4
          (s.wind.sharedTwist.getD 0)) 1 [.mk s.own clsYaw 4 0 1 (some (s.wind.sharedTwist.getD 0)) none] :=
        .enter rfl rfl (by decide)
      exact ⟨⟨_, _, _, _, _, rfl⟩, by simp [reportNote, enterRecord], by simp [reportNote, enterRecord], rfl,
        by simpa using writes.mono (show 1 ≤ 2 by decide)⟩
    | false => simpa [armed] using ⟨same, still⟩
  · rw [logLimit_short short, storm, plain]
    simpa using ⟨same, still⟩

theorem logPeer_notes (s : State) : s.NotedApart (logPeer s) ∧ (logPeer s).yaw.noteYaw5 = s.yaw.noteYaw5 ∧
    (logPeer s).yaw.noteYaw4 = s.yaw.noteYaw4 ∧
    (logPeer s).yaw.noteYaw8 = (s.yaw.noteYaw8 && s.peerInhibits.isNone) ∧
    s.Writes (logPeer s) 1 (s.peerInhibits.elim [] fun n =>
      if s.yaw.noteYaw8 = true then [.mk s.own clsYaw 8 0 1 (some (n : Int)) none] else []) := by
  have still : s.Writes s 1 [] := (State.Writes.of_log rfl rfl).mono (by decide)
  have same := State.NotedApart.refl s
  unfold logPeer
  cases peer : s.peerInhibits with
  | none => simpa using ⟨same, still⟩
  | some n =>
    cases armed : s.yaw.noteYaw8 with
    | true => exact ⟨⟨_, _, _, _, _, rfl⟩, rfl, rfl, rfl, State.Writes.enter rfl rfl (by decide)⟩
    | false => simpa [armed] using ⟨same, still⟩

theorem State.NotedApart.peerInhibits (apart : s.NotedApart t) : t.peerInhibits = s.peerInhibits := by
  obtain ⟨_, _, _, _, _, rfl⟩ := apart
  rfl

/-- R131: the notes of the inhibits, and what is left armed of them. -/
theorem logInhibits_notes (t : Trigger) (active : s.quiet.state = .active) : s.NotedApart (logInhibits t s) ∧
    (logInhibits t s).yaw.noteYaw5 = (s.yaw.noteYaw5 && !s.limitIn t true) ∧
    (logInhibits t s).yaw.noteYaw4 = (s.yaw.noteYaw4 && !s.limitIn t false) ∧
    (logInhibits t s).yaw.noteYaw8 = (s.yaw.noteYaw8 && s.peerInhibits.isNone) ∧
    s.Writes (logInhibits t s) 3 (s.inhibitWrites t) := by
  obtain ⟨apart, five, four, eight, writes⟩ := logLimit_notes t active
  obtain ⟨apart', five', four', eight', writes'⟩ := logPeer_notes (logLimit t s)
  have config : (logLimit t s).config = s.config := by
    obtain ⟨_, _, _, _, _, eq⟩ := apart
    rw [eq]
  rw [apart.peerInhibits, eight] at eight'
  rw [apart.peerInhibits, eight, own_congr config] at writes'
  have all := writes.trans writes'
  rw [List.append_assoc] at all
  exact ⟨apart.trans apart', five'.trans five, four'.trans four, eight', all⟩

/-! ## The check (R128, R129) -/

/-- R128: the state in which a check judges its triggers. -/
def State.dwelled (s : State) (t0 : Nat) : State :=
  { s with yaw := { s.yaw.dwell s.wind.misalignment with checkTimer := some (t0 + Config.evaluation) } }

theorem rearmNotes_eq (s : State) (t : Trigger) : rearmNotes s t = { s with
    yaw := { s.yaw with
      noteYaw4 := s.yaw.noteYaw4 || !s.limitIn t false
      noteYaw5 := s.yaw.noteYaw5 || !s.limitIn t true
      noteYaw8 := s.yaw.noteYaw8 || s.peerInhibits.isNone } } := by
  have plain : (s.limitInhibits t && t.mode != .storm) = s.limitIn t false := by
    unfold State.limitIn
    cases t.mode <;> rfl
  have storm : (s.limitInhibits t && t.mode == .storm) = s.limitIn t true := by
    unfold State.limitIn
    cases t.mode <;> rfl
  rw [rearmNotes, plain, storm]

theorem rearmNotes_writes (s : State) (t : Trigger) : (rearmNotes s t).inhibitWrites t = s.inhibitWrites t := by
  have limit (storm : Bool) : (rearmNotes s t).limitIn t storm = s.limitIn t storm := rfl
  have peer : (rearmNotes s t).peerInhibits = s.peerInhibits := rfl
  have twist : (rearmNotes s t).wind = s.wind := rfl
  have own : (rearmNotes s t).own = s.own := rfl
  unfold State.inhibitWrites
  rw [limit, limit, peer, twist, own, rearmNotes_eq]
  cases s.limitIn t true <;> cases s.limitIn t false <;> cases s.peerInhibits <;> simp

/-- A state whose yaw notes and stagger, link and log alone have moved. -/
def State.JudgedApart (s t : State) : Prop := ∃ four five eight link log, t = { s with
  yaw := { s.yaw with noteYaw4 := four, noteYaw5 := five, noteYaw8 := eight, stagger := t.yaw.stagger }
  link := link
  log := log }

/-- R131, R132: what is made of a trigger in ACTIVE. -/
theorem forwardTrigger_made (t : Trigger) (active : s.quiet.state = .active) : s.JudgedApart (forwardTrigger s t) ∧
    (forwardTrigger s t).yaw.stagger = (if s.inhibited t = true then s.yaw.stagger else
      some { since := s.now, mode := t.mode, direction := t.direction, budget := s.budgetNow }) ∧
    (forwardTrigger s t).yaw.noteYaw5 = !s.limitIn t true ∧ (forwardTrigger s t).yaw.noteYaw4 = !s.limitIn t false ∧
    (forwardTrigger s t).yaw.noteYaw8 = s.peerInhibits.isNone ∧
    s.Writes (forwardTrigger s t) 3 (s.inhibitWrites t) := by
  obtain ⟨⟨a4, a5, a8, link, log, eq⟩, five, four, eight, writes⟩ := logInhibits_notes (s := rearmNotes s t) t active
  rw [rearmNotes_writes] at writes
  have limit (storm : Bool) : (rearmNotes s t).limitIn t storm = s.limitIn t storm := rfl
  have peer : (rearmNotes s t).peerInhibits = s.peerInhibits := rfl
  have rearmed : (rearmNotes s t).yaw = _ := congrArg State.yaw (rearmNotes_eq s t)
  rw [rearmed, limit] at five four
  rw [rearmed, peer] at eight
  have five : (logInhibits t (rearmNotes s t)).yaw.noteYaw5 = !s.limitIn t true := by
    rw [five]; cases s.limitIn t true <;> simp
  have four : (logInhibits t (rearmNotes s t)).yaw.noteYaw4 = !s.limitIn t false := by
    rw [four]; cases s.limitIn t false <;> simp
  have eight : (logInhibits t (rearmNotes s t)).yaw.noteYaw8 = s.peerInhibits.isNone := by
    rw [eight]; cases s.peerInhibits <;> simp
  have writes : s.Writes (logInhibits t (rearmNotes s t)) 3 (s.inhibitWrites t) := writes
  unfold forwardTrigger
  dsimp only
  by_cases inhibited : s.inhibited t = true
  · rw [if_pos inhibited, if_pos inhibited]
    refine ⟨⟨a4, a5, a8, link, log, ?_⟩, by rw [eq]; rfl, five, four, eight, writes⟩
    rw [eq]
    rfl
  · rw [if_neg inhibited, if_neg inhibited]
    refine ⟨⟨a4, a5, a8, link, log, ?_⟩, rfl, five, four, eight, writes⟩
    rw [eq]
    rfl

theorem judgeTriggers_held (judges : s.judgesTriggers = true) {t : Trigger} (holds : s.trigger = some t) :
    (s.quiet.state = .active → judgeTriggers s = forwardTrigger s t) ∧
    (s.quiet.state ≠ .active → judgeTriggers s = wakeCause s) := by
  unfold judgeTriggers
  rw [if_pos judges, holds]
  exact ⟨fun active => if_pos active, fun other => if_neg other⟩

theorem judgeTriggers_none (none : s.judgesTriggers = false ∨ s.trigger = none) : judgeTriggers s = s := by
  unfold judgeTriggers
  rcases none with off | none
  · rw [off, if_neg Bool.false_ne_true]
  · rw [none]
    split <;> rfl

theorem judgeTriggers_cases (s : State) : judgeTriggers s = s ∨ (∃ t, s.quiet.state = .active ∧
    judgeTriggers s = forwardTrigger s t) ∨ (s.quiet.state ≠ .active ∧ judgeTriggers s = wakeCause s) := by
  cases judges : s.judgesTriggers with
  | false => exact .inl (judgeTriggers_none (.inl judges))
  | true =>
    cases trigger : s.trigger with
    | none => exact .inl (judgeTriggers_none (.inr trigger))
    | some t =>
      obtain ⟨forward, wake⟩ := judgeTriggers_held judges trigger
      by_cases active : s.quiet.state = .active
      · exact .inr (.inl ⟨t, active, forward active⟩)
      · exact .inr (.inr ⟨active, wake active⟩)

theorem judgeTriggers_state (s : State) : (judgeTriggers s).yaw.state = s.yaw.state := by
  rcases judgeTriggers_cases s with same | ⟨t, active, eq⟩ | ⟨-, eq⟩
  · rw [same]
  · obtain ⟨⟨_, _, _, _, _, is⟩, -⟩ := forwardTrigger_made t active
    rw [eq, is]
  · rw [eq, wakeCause_footprint]

/-- R128: a check in Y_IDLE counts the dwell and judges the triggers. -/
theorem exec_yawCheck_idle (joined : s.isJoined = true) (idle : s.yaw.state = .idle)
    (timer : s.yaw.checkTimer = some t0)
    (due : t0 + Config.evaluation ≤ s.now) : exec .yawCheck s = .next (judgeTriggers (s.dwelled t0)) := by
  have reached : (s.isJoined || s.isSilent) = true ∧ s.yaw.checkTimer.reached s.now Config.evaluation = true :=
    ⟨by simp [joined], reached_of timer due⟩
  have again : s.yaw.checkTimer.again Config.evaluation = some (t0 + Config.evaluation) := by rw [timer]; rfl
  refine congrArg Host.Outcome.next ((if_pos reached).trans ?_)
  rw [again]
  refine if_neg fun stops => ?_
  have moving := (inSession_iff _).mp stops.1
  have still : (judgeTriggers (s.dwelled t0)).yaw.state = .idle := (judgeTriggers_state _).trans idle
  rcases moving with h | h <;> exact absurd (still.symm.trans h) (by simp)

theorem State.judgesTriggers_iff (s : State) : s.judgesTriggers = true ↔ s.isJoined = true ∧ s.takesPart = true ∧
    s.yaw.state = .idle ∧ s.yaw.stagger = none ∧ s.yaw.hold.remaining s.now Config.yawHold = 0 := by
  simp [State.judgesTriggers, and_assoc]

end Sys2Proof.Machine
end

section
/-! From a trigger to a proposal (R128, R131 to R133, R137). -/
namespace Sys2Proof.Machine
variable {s t u : State} {t0 : Nat}

/-! ## The check in ACTIVE -/

/-- R129: an order that turns the nacelle, with no storm, is the trigger. -/
theorem trigger_order (calm : s.wind.storm = false) (order : s.demand.order = .turnCw) :
    s.trigger = some ⟨.order, .cw⟩ := by
  have storm : s.stormTrigger = none := by
    unfold State.stormTrigger
    cases s.wind.misalignment with
    | none => rfl
    | some m => exact if_neg (by simp [calm])
  have ordered : s.orderTrigger = some ⟨.order, .cw⟩ := by rw [State.orderTrigger, order]
  rw [State.trigger, storm, ordered]
  rfl

/-- A check in ACTIVE moves the notes, the stagger, the link and the log alone. -/
theorem judgeTriggers_apart (active : s.quiet.state = .active) : s.JudgedApart (judgeTriggers s) := by
  rcases judgeTriggers_cases s with same | ⟨t, -, eq⟩ | ⟨other, -⟩
  · rw [same]
    exact ⟨_, _, _, _, _, rfl⟩
  · rw [eq]
    exact (forwardTrigger_made t active).1
  · exact absurd active other

/-! ## The proposal (R133) -/

theorem allocate_one (budget n k : Nat) : allocate budget [(n, k)] = [(n, min budget k)] := by
  obtain ⟨level, raised, kept, parts, eq, most, whole⟩ := allocate_eq budget [(n, k)]
  rcases whole with full | whole
  · have one : ∃ l, allocate budget [(n, k)] = [(n, min l k)] := by
      rcases List.append_eq_singleton_iff.mp parts.symm with ⟨none, only⟩ | ⟨only, none⟩
      · rw [eq, none, only]
        exact ⟨level, rfl⟩
      · rw [eq, none, only]
        exact ⟨level + 1, rfl⟩
    obtain ⟨l, is⟩ := one
    rw [is] at full ⊢
    have sum : min l k = budget := by simpa using full
    rw [sum]
    congr 2
    omega
  · exact whole

theorem setYaw_leaves {y : YawState} (idle : s.yaw.state = .idle) (other : y ≠ .idle) :
    (setYaw s y).yaw.stagger = none := by
  unfold setYaw
  rw [if_neg (by rw [idle]; exact other.symm)]
  exact if_pos idle

/-- R133: the proposal as it is offered. -/
def State.proposal (s : State) (g : Stagger) : Frame :=
  .yawProposal ((s.yaw.proposalCounter + 1) % 256) g.mode.code g.direction.code g.budget s.wind.sharedTwist

/-- R133: the proposal made, its own number and tag in the session record. -/
def State.proposing (s : State) (g : Stagger) : State :=
  setYaw { s with
    yaw := { s.yaw with
      proposalCounter := (s.yaw.proposalCounter + 1) % 256
      session := s.newSession g
      answerWait := some s.now }
    link := (offerYaw s (s.proposal g)).link } .proposing

theorem propose_eq (s : State) (g : Stagger) : propose s g =
    if s.expectedNow = [] then allocateAndStart (s.proposing g) else s.proposing g := by
  have offered : offerYaw { s with yaw := { s.yaw with
      proposalCounter := (s.newSession g).tag
      session := s.newSession g } } (.yawProposal (s.newSession g).tag (s.newSession g).mode.code
        (s.newSession g).direction.code (s.newSession g).budget (s.newSession g).twist) = { s with
        yaw := { s.yaw with
          proposalCounter := (s.newSession g).tag
          session := s.newSession g }
        link := (offerYaw s (s.proposal g)).link } := by
    rw [offerYaw_footprint, offerYaw_link_congr (s := s) (by rfl) (by rfl)]
    rfl
  unfold propose
  dsimp only
  rw [offered]
  rfl

theorem State.proposing_made (s : State) (g : Stagger) (idle : s.yaw.state = .idle) :
    (s.proposing g).yaw = { s.yaw with
      proposalCounter := (s.yaw.proposalCounter + 1) % 256
      session := s.newSession g
      answerWait := some s.now
      state := .proposing
      stagger := none } ∧
    (s.proposing g).link = (offerYaw s (s.proposal g)).link ∧
    (s.proposing g).table.changePending = true ∧ (s.proposing g).log = s.log ∧ (s.proposing g).thread = s.thread ∧
    (s.proposing g).config = s.config ∧ (s.proposing g).pins = s.pins ∧ (s.proposing g).now = s.now := by
  have stagger : (s.proposing g).yaw.stagger = none := setYaw_leaves (by exact idle) (by simp)
  have change : (s.proposing g).table.changePending = true := setYaw_changed (by simp [idle])
  refine ⟨?_, ?_, change, ?_⟩
  · rw [← stagger]
    unfold State.proposing
    rw [setYaw_eq]
  · unfold State.proposing
    simp only [setYaw_frame]
  · unfold State.proposing
    simp

theorem State.mem_expectedNow (s : State) (n : Nat) : n ∈ s.expectedNow ↔ s.Peer n .live := by
  unfold State.expectedNow
  rw [List.mem_map]
  constructor
  · rintro ⟨⟨m, state⟩, mem, rfl⟩
    obtain ⟨there, live⟩ := List.mem_filter.mp mem
    have live : state = .live := beq_iff_eq.mp live
    exact (s.mem_yawPeers m .live).mp (live ▸ there)
  · intro peer
    exact ⟨(n, .live), List.mem_filter.mpr ⟨(s.mem_yawPeers n .live).mpr peer, rfl⟩, rfl⟩

/-- R133, R137: with no station expected the proposer goes straight on to release. -/
theorem allocateAndStart_alone {g : Stagger} (idle : s.yaw.state = .idle) (alone : s.expectedNow = []) :
    (s.proposing g).offers = [(s.own, s.motorsReady)] := by
  obtain ⟨yaw, -, -, -, -, config, pins, -⟩ := s.proposing_made g idle
  have ready : (s.proposing g).motorsReady = s.motorsReady := by
    unfold State.motorsReady State.readyMotors State.configuredMotors
    rw [cfg_congr config, pins]
  rw [State.offers_eq, yaw, ready, own_congr config]
  change List.foldr _ _ s.expectedNow = _
  rw [alone]
  rfl

theorem setYaw_unstaggered {y : YawState} (still : s.yaw.stagger = none) : (setYaw s y).yaw.stagger = none := by
  unfold setYaw
  split
  · exact still
  · change (if s.yaw.state = .idle then _ else s.yaw.stagger) = _
    rw [still, ite_self]

theorem allocateAndStart_keeps (s : State) : (allocateAndStart s).yaw.proposalCounter = s.yaw.proposalCounter ∧
    (s.yaw.stagger = none → (allocateAndStart s).yaw.stagger = none) ∧ (allocateAndStart s).thread = s.thread := by
  refine ⟨?_, fun none => ?_, by simp⟩
  · unfold allocateAndStart
    dsimp only
    rw [enterReleasing_yaw, offerYaw_footprint]
    rfl
  · unfold allocateAndStart
    dsimp only
    rw [offerYaw_footprint]
    exact setYaw_unstaggered none

/-- R132: the stagger timer run out, with no inhibit. -/
theorem exec_staggerExpiry {g : Stagger} (joined : s.isJoined = true) (idle : s.yaw.state = .idle)
    (stagger : s.yaw.stagger = some g) (due : g.since + 80000 * s.own ≤ s.now) : exec .staggerExpiry s = .next
      (if s.inhibited ⟨g.mode, g.direction⟩ then
        logInhibits ⟨g.mode, g.direction⟩ { s with yaw := { s.yaw with stagger := none } }
      else propose { s with yaw := { s.yaw with stagger := none } } g) := by
  refine congrArg Host.Outcome.next ?_
  unfold staggerExpiry
  rw [stagger]
  exact if_pos ⟨joined, idle, due⟩

/-- Settles O44: the check, the inhibits of a trigger, and the end of the stagger. -/
theorem triggersToProposals : Obligations.TriggersToProposals := by
  refine ⟨fun s t0 joined timer idle active => ⟨fun early => ?_, fun due => ?_⟩, fun s mode direction => ?_,
    fun s g joined idle stagger => ⟨fun early => ?_, fun due free => ?_, fun due inhibited active => ?_⟩⟩
  · exact congrArg Host.Outcome.next (if_neg fun reached => by
      rw [not_reached_of timer early] at reached
      cases reached.2)
  · have run := exec_yawCheck_idle joined idle timer due
    obtain ⟨four, five, eight, link, log, eq⟩ := judgeTriggers_apart (s := s.dwelled t0) active
    have auto : (judgeTriggers (s.dwelled t0)).yaw.autoDwell =
          (dwellAfter 80 100 s.wind.misalignment s.yaw.autoDwell s.yaw.autoPositive).1 ∧
        (judgeTriggers (s.dwelled t0)).yaw.autoPositive =
          (dwellAfter 80 100 s.wind.misalignment s.yaw.autoDwell s.yaw.autoPositive).2 := by
      rw [eq]; exact ⟨rfl, rfl⟩
    have storm : (judgeTriggers (s.dwelled t0)).yaw.stormDwell =
          (dwellAfter 40 20 s.wind.misalignment s.yaw.stormDwell s.yaw.stormPositive).1 ∧
        (judgeTriggers (s.dwelled t0)).yaw.stormPositive =
          (dwellAfter 40 20 s.wind.misalignment s.yaw.stormDwell s.yaw.stormPositive).2 := by
      rw [eq]; exact ⟨rfl, rfl⟩
    refine ⟨_, run, by rw [eq]; rfl, by rw [eq]; exact idle, by rw [eq]; rfl, by rw [eq]; rfl, by rw [eq]; rfl,
      by rw [eq]; rfl, fun m is => ?_, fun near => ?_, fun m is => ?_, fun near => ?_,
      fun takes unstaggered free order calm uninhibited => ?_, fun h unstaggered held waits => ?_⟩
    · rw [auto.1, auto.2, is]
      refine ⟨fun far => ?_, fun high negative => ?_, fun low positive => ?_⟩
      · rw [dwellAfter_rises (threshold := 80) far (by decide)]
        exact ⟨rfl, rfl⟩
      · rw [dwellAfter_turns (threshold := 80) (.inl ⟨high, negative⟩) (by decide), negative]
        exact ⟨rfl, rfl⟩
      · rw [dwellAfter_turns (threshold := 80) (.inr ⟨low, positive⟩) (by decide), positive]
        exact ⟨rfl, rfl⟩
    · rw [auto.1, dwellAfter_rests (threshold := 80) near]
    · rw [storm.1, storm.2, is]
      refine ⟨fun far => ?_, fun high negative => ?_, fun low positive => ?_⟩
      · rw [dwellAfter_rises (threshold := 40) far (by decide)]
        exact ⟨rfl, rfl⟩
      · rw [dwellAfter_turns (threshold := 40) (.inl ⟨high, negative⟩) (by decide), negative]
        exact ⟨rfl, rfl⟩
      · rw [dwellAfter_turns (threshold := 40) (.inr ⟨low, positive⟩) (by decide), positive]
        exact ⟨rfl, rfl⟩
    · rw [storm.1, dwellAfter_rests (threshold := 40) near]
    · have judges : (s.dwelled t0).judgesTriggers = true :=
        (State.judgesTriggers_iff _).mpr ⟨joined, takes, idle, unstaggered, by
          change Timer.remaining s.yaw.hold s.now Config.yawHold = 0
          rw [free]
          rfl⟩
      have trigger := trigger_order (s := s.dwelled t0) calm order
      have off : ¬(s.dwelled t0).inhibited ⟨.order, .cw⟩ = true := by
        rw [show (s.dwelled t0).inhibited ⟨.order, .cw⟩ = false from uninhibited]
        simp
      rw [(judgeTriggers_held judges trigger).1 active,
        (forwardTrigger_made (s := s.dwelled t0) _ active).2.1, if_neg off]
      rfl
    · have rests : (s.dwelled t0).judgesTriggers = false := by
        rw [Bool.eq_false_iff, Ne, State.judgesTriggers_iff]
        rintro ⟨-, -, -, -, over'⟩
        change Timer.remaining s.yaw.hold s.now Config.yawHold = 0 at over'
        rw [held] at over'
        simp only [Timer.remaining] at over'
        omega
      rw [judgeTriggers_none (.inl rests)]
      exact unstaggered
  · rw [State.inhibited_iff, State.yawBarred_iff, twistReached_iff]
    simp only [State.Ring, exists_and_left]
  · refine congrArg Host.Outcome.next ?_
    unfold staggerExpiry
    rw [stagger]
    exact if_neg fun due => absurd due.2.2 (Nat.not_le.mpr early)
  · have run := exec_staggerExpiry joined idle stagger due
    rw [free, if_neg Bool.false_ne_true, propose_eq] at run
    generalize begun : ({ s with yaw := { s.yaw with stagger := none } } : State) = u at run
    have idleU : u.yaw.state = .idle := by rw [← begun]; exact idle
    obtain ⟨yaw, link, change, log, thread, config, pins, now⟩ := u.proposing_made g idleU
    have expected (n : Nat) : n ∈ u.expectedNow ↔ s.Peer n .live := by
      rw [State.mem_expectedNow, ← begun]
      exact Iff.rfl
    have proposed : (offerYaw u (u.proposal g)).link = (offerYaw s (.yawProposal ((s.yaw.proposalCounter + 1) % 256)
        g.mode.code g.direction.code g.budget s.wind.sharedTwist)).link := by
      rw [← begun]
      exact offerYaw_link_congr (by rfl) (by rfl) _
    have session : u.newSession g = s.newSession g := by rw [← begun]; rfl
    have peers (n : Nat) : n ∈ s.expectedNow ↔ ∃ e r, n ≠ s.own ∧ s.table.threads.get? n = some e ∧ e.record = some r ∧
        e.role = .thread ∧ 0 < r.motorsReady ∧ r.isolated = false ∧ e.state = .live := by
      rw [State.mem_expectedNow]
      simp only [State.Peer, exists_and_left]
    have same : u.expectedNow = s.expectedNow := by rw [← begun]; rfl
    rw [same] at run
    intro tag
    by_cases alone : s.expectedNow = []
    · have other : (u.proposing g).yaw.state ≠ .releasing := by rw [yaw]; simp
      obtain ⟨releasing, release, wait, -, session', link', change', log'⟩ :=
        allocateAndStart_starts (u.proposing g) other
      obtain ⟨counter, unstaggered, thread'⟩ := allocateAndStart_keeps (u.proposing g)
      have offers := allocateAndStart_alone (s := u) (g := g) idleU (same.trans alone)
      have readyU : u.motorsReady = s.motorsReady ∧ u.own = s.own := by rw [← begun]; exact ⟨rfl, rfl⟩
      have sessionP : (u.proposing g).yaw.session = s.newSession g := by rw [yaw]; exact session
      have counterP : (u.proposing g).yaw.proposalCounter = tag := by rw [yaw, ← begun]
      have staggerP : (u.proposing g).yaw.stagger = none := by rw [yaw]
      have nowP : (u.proposing g).now = s.now := by rw [now, ← begun]
      have allocation : allocate (u.proposing g).yaw.session.budget (u.proposing g).offers =
          [(s.own, min g.budget s.motorsReady)] := by
        rw [offers, allocate_one, sessionP, readyU.1, readyU.2]
        rfl
      have count : (runCountOf [(s.own, min g.budget s.motorsReady)] (u.proposing g).own).getD 0 =
          min g.budget s.motorsReady := by
        rw [own_congr config, readyU.2]
        simp [runCountOf]
      rw [allocation, count, nowP, sessionP] at session'
      rw [allocation, sessionP] at link'
      rw [if_pos alone] at run
      refine ⟨_, run, unstaggered staggerP, counter.trans counterP, by rw [session']; rfl, by rw [session']; rfl,
        by rw [session']; rfl, by rw [session']; rfl, by rw [session']; rfl, by rw [session']; rfl,
        by rw [session']; rfl, change', log'.trans (log.trans (by rw [← begun])),
          thread'.trans (thread.trans (by rw [← begun])), ?_, ?_, ?_⟩
      · rw [session']
        exact peers
      · rw [session']
        exact fun some' => absurd alone some'
      · rw [session']
        refine fun _ => ⟨releasing, release, wait.trans (congrArg some nowP), rfl, rfl, rfl, link'.trans ?_⟩
        exact offerYaw_link_congr (link.trans proposed) (config.trans (by rw [← begun]; simp)) _
    · rw [if_neg alone] at run
      refine ⟨_, run, by rw [yaw], by rw [yaw, ← begun], ?_⟩
      rw [yaw, link, proposed, session]
      refine ⟨rfl, rfl, rfl, rfl, rfl, rfl, rfl, change, log.trans (by rw [← begun]), thread.trans (by rw [← begun]),
        peers, fun _ => ⟨rfl, by rw [← begun], by rw [← begun], rfl⟩, fun none => absurd none alone⟩
  · have run := exec_staggerExpiry joined idle stagger due
    rw [inhibited, if_pos rfl] at run
    obtain ⟨⟨_, _, _, _, _, eq⟩, -⟩ := logInhibits_notes (s := { s with yaw := { s.yaw with stagger := none } })
      ⟨g.mode, g.direction⟩ active
    refine ⟨_, run, ?_⟩
    rw [eq]
    exact ⟨rfl, idle, rfl⟩

end Sys2Proof.Machine
end

section
/-! The triggers of a check in the order of their table, with the notes of their inhibits (R129 to R131). -/
namespace Sys2Proof.Machine
variable {s t u : State} {t0 : Nat} {mode : SessionMode} {direction : Direction}

/-! ## The first trigger that holds (R129) -/

theorem stormTrigger_some {m : Int} (storms : s.wind.storm = true ∧ s.yaw.stormDwell = 20)
    (is : s.wind.misalignment = some m) : s.trigger = some ⟨.storm, towardWind m⟩ := by
  have storm : s.stormTrigger = some ⟨.storm, towardWind m⟩ := by
    rw [State.stormTrigger, is]
    exact if_pos storms
  rw [State.trigger, storm]
  rfl

theorem stormTrigger_none (calm : ¬(s.wind.storm = true ∧ s.yaw.stormDwell = 20)) : s.stormTrigger = none := by
  unfold State.stormTrigger
  cases s.wind.misalignment with
  | none => rfl
  | some m => exact if_neg calm

theorem orderTrigger_none (cw : s.demand.order ≠ .turnCw) (ccw : s.demand.order ≠ .turnCcw) :
    s.orderTrigger = none := by
  unfold State.orderTrigger
  split <;> simp_all

theorem untwistTrigger_none (rests : ∀ v, ¬(s.demand.order = .untwist ∧ s.wind.storm = false ∧
    s.wind.sharedTwist = some v ∧ 1800 < v.natAbs)) : s.untwistTrigger = none := by
  unfold State.untwistTrigger
  cases twist : s.wind.sharedTwist with
  | none => rfl
  | some v => exact if_neg fun ⟨order, calm, far⟩ => rests v ⟨order, calm, twist, far⟩

/-- R129: the triggers after STORM, where it does not hold. -/
theorem trigger_calm (calm : ¬(s.wind.storm = true ∧ s.yaw.stormDwell = 20)) :
    s.trigger = (s.orderTrigger <|> s.untwistTrigger <|> s.autoTrigger) := by
  rw [State.trigger, stormTrigger_none calm]
  rfl

theorem trigger_ordered {d : Direction} (calm : ¬(s.wind.storm = true ∧ s.yaw.stormDwell = 20))
    (ordered : (s.demand.order = .turnCw ∧ d = .cw) ∨ (s.demand.order = .turnCcw ∧ d = .ccw)) :
    s.trigger = some ⟨.order, d⟩ := by
  rw [trigger_calm calm, State.orderTrigger]
  rcases ordered with ⟨order, rfl⟩ | ⟨order, rfl⟩ <;> rw [order] <;> rfl

theorem trigger_untwist {v : Int} (order : s.demand.order = .untwist) (calm : s.wind.storm = false)
    (twist : s.wind.sharedTwist = some v) (far : 1800 < v.natAbs) : s.trigger = some ⟨.untwist, againstTwist v⟩ := by
  have untwist : s.untwistTrigger = some ⟨.untwist, againstTwist v⟩ := by
    rw [State.untwistTrigger, twist]
    exact if_pos ⟨order, calm, far⟩
  rw [trigger_calm (by simp [calm]), orderTrigger_none (by simp [order]) (by simp [order]), untwist]
  rfl

theorem trigger_auto {m : Int} {v : Nat} (order : s.demand.order = .auto) (calm : s.wind.storm = false)
    (dwell : s.yaw.autoDwell = 100) (agree : s.wind.agreeing = true) (speed : s.wind.sharedSpeed = some v)
    (windy : 30 ≤ v)
    (is : s.wind.misalignment = some m) : s.trigger = some ⟨.auto, towardWind m⟩ := by
  have auto : s.autoTrigger = some ⟨.auto, towardWind m⟩ := by
    rw [State.autoTrigger, is, speed]
    exact if_pos ⟨order, dwell, windy, agree, calm⟩
  rw [trigger_calm (by simp [calm]), orderTrigger_none (by simp [order]) (by simp [order]),
    untwistTrigger_none (by simp [order]), auto]
  rfl

theorem trigger_none (calm : ¬(s.wind.storm = true ∧ s.yaw.stormDwell = 20)) (cw : s.demand.order ≠ .turnCw)
    (ccw : s.demand.order ≠ .turnCcw)
    (rests : ∀ v, ¬(s.demand.order = .untwist ∧ s.wind.storm = false ∧ s.wind.sharedTwist = some v ∧ 1800 < v.natAbs))
    (stays : ¬(s.demand.order = .auto ∧ s.wind.storm = false ∧ s.yaw.autoDwell = 100 ∧ s.wind.agreeing = true ∧
      ∃ v, s.wind.sharedSpeed = some v ∧ 30 ≤ v)) : s.trigger = none := by
  have auto : s.autoTrigger = none := by
    unfold State.autoTrigger
    cases s.wind.misalignment with
    | none => rfl
    | some m =>
      cases speed : s.wind.sharedSpeed with
      | none => rfl
      | some v => exact if_neg fun ⟨order, dwell, windy, agree, calm⟩ =>
                    stays ⟨order, calm, dwell, agree, v, speed, windy⟩
  rw [trigger_calm calm, orderTrigger_none cw ccw, untwistTrigger_none rests, auto]
  rfl

/-! ## What is made of it -/

theorem forwardTrigger_free {t : Trigger} (free : s.inhibited t = false) : (forwardTrigger s t).log = s.log := by
  obtain ⟨m, d⟩ := t
  have none := fun holds => Bool.eq_false_iff.mp free ((State.inhibited_iff s m d).mpr holds)
  have short : (rearmNotes s ⟨m, d⟩).limitInhibits ⟨m, d⟩ = false :=
    Bool.eq_false_iff.mpr fun limit => none (.inr (.inr (.inr (.inr (.inl limit)))))
  have alone : (rearmNotes s ⟨m, d⟩).peerInhibits = .none :=
    (State.peerInhibits_none s).mpr fun n ring => none (.inr (.inr (.inr (.inr (.inr ⟨n, ring⟩)))))
  have quiet : logInhibits ⟨m, d⟩ (rearmNotes s ⟨m, d⟩) = rearmNotes s ⟨m, d⟩ := by
    rw [logInhibits, logLimit_short short, logPeer, alone]
  unfold forwardTrigger
  dsimp only
  rw [quiet, free, if_neg Bool.false_ne_true]
  rfl

theorem mem_inhibitWrites {t : Trigger} {w : Written} : w ∈ s.inhibitWrites t ↔
    (s.limitIn t true = true ∧ s.yaw.noteYaw5 = true ∧ w = warnRecord s.own clsYaw 5 (s.wind.sharedTwist.getD 0)) ∨
    (s.limitIn t false = true ∧ s.yaw.noteYaw4 = true ∧
      w = .mk s.own clsYaw 4 0 1 (some (s.wind.sharedTwist.getD 0)) none) ∨
    ∃ n, s.peerInhibits = some n ∧ s.yaw.noteYaw8 = true ∧ w = .mk s.own clsYaw 8 0 1 (some (n : Int)) none := by
  have peer : w ∈ (s.peerInhibits.elim [] fun n =>
      if s.yaw.noteYaw8 = true then [Written.mk s.own clsYaw 8 0 1 (some (n : Int)) none] else []) ↔
      ∃ n, s.peerInhibits = some n ∧ s.yaw.noteYaw8 = true ∧ w = .mk s.own clsYaw 8 0 1 (some (n : Int)) none := by
    cases s.peerInhibits <;> cases s.yaw.noteYaw8 <;> simp
  unfold State.inhibitWrites
  rw [List.mem_append, List.mem_append, peer]
  refine or_congr ?_ (or_congr ?_ Iff.rfl)
  · split <;> simp_all
  · split <;> simp_all

/-- R129 to R131: what a check makes of the trigger that holds, by the quiet state and the inhibits. -/
def State.Held (s t : State) (mode : SessionMode) (direction : Direction) : Prop :=
  (s.quiet.state = .pending → t.yaw.stagger = none ∧ t.quiet.state = .active ∧ t.log = s.log) ∧
  (s.quiet.state = .quiet → t.yaw.stagger = none ∧ t.quiet.state = .quiet ∧ t.quiet.call.isSome = true ∧
    t.log = s.log) ∧
  (s.quiet.state = .active →
    (s.inhibited ⟨mode, direction⟩ = false → t.log = s.log ∧
      t.yaw.stagger = some { since := s.now, mode := mode, direction := direction, budget := s.budgetNow }) ∧
    (s.inhibited ⟨mode, direction⟩ = true → t.yaw.stagger = none) ∧
    (∀ v, s.wind.sharedTwist = some v → twistReached mode direction (some v) = true →
      (mode ≠ .storm → t.yaw.noteYaw4 = false ∧ t.yaw.noteYaw5 = true ∧
        (s.yaw.noteYaw4 = true → s.Reports t clsYaw 4 0 1 v) ∧
        (s.yaw.noteYaw4 = false → s.NoReport t clsYaw 4) ∧ s.NoReport t clsYaw 5) ∧
      (mode = .storm → t.yaw.noteYaw5 = false ∧ t.yaw.noteYaw4 = true ∧
        (s.yaw.noteYaw5 = true → s.Reports t clsYaw 5 1 1 v) ∧
        (s.yaw.noteYaw5 = false → s.NoReport t clsYaw 5) ∧ s.NoReport t clsYaw 4)) ∧
    (twistReached mode direction s.wind.sharedTwist = false → t.yaw.noteYaw4 = true ∧ t.yaw.noteYaw5 = true ∧
      s.NoReport t clsYaw 4 ∧ s.NoReport t clsYaw 5) ∧
    (∀ n, s.Ring n → (∀ m, s.Ring m → n ≤ m) → t.yaw.noteYaw8 = false ∧
      (s.yaw.noteYaw8 = true → s.Reports t clsYaw 8 0 1 n) ∧
      (s.yaw.noteYaw8 = false → s.NoReport t clsYaw 8)) ∧
    ((∀ n, ¬s.Ring n) → t.yaw.noteYaw8 = true ∧ s.NoReport t clsYaw 8))

/-- What is reported of the inhibits of a trigger, code by code. -/
theorem inhibitWrites_reports {t' : Trigger} (writes : s.Writes t 3 (s.inhibitWrites t')) (log : s.LogOpen) :
    (∀ v, s.wind.sharedTwist = some v → s.limitIn t' true = true → s.yaw.noteYaw5 = true → s.Reports t clsYaw 5 1 1 v) ∧
    (∀ v, s.wind.sharedTwist = some v → s.limitIn t' false = true → s.yaw.noteYaw4 = true →
    s.Reports t clsYaw 4 0 1 v) ∧
    (∀ n, s.peerInhibits = some n → s.yaw.noteYaw8 = true → s.Reports t clsYaw 8 0 1 n) ∧
    ((s.limitIn t' true = false ∨ s.yaw.noteYaw5 = false) → s.NoReport t clsYaw 5) ∧
    ((s.limitIn t' false = false ∨ s.yaw.noteYaw4 = false) → s.NoReport t clsYaw 4) ∧
    ((s.peerInhibits = none ∨ s.yaw.noteYaw8 = false) → s.NoReport t clsYaw 8) := by
  have all := writes.mono (show 3 ≤ 16 by decide)
  refine ⟨fun v twist limit armed => all.reports log (mem_inhibitWrites.mpr (.inl ⟨limit, armed, by rw [twist]; rfl⟩)),
    fun v twist limit armed => all.reports log (mem_inhibitWrites.mpr (.inr (.inl ⟨limit, armed, by rw [twist]; rfl⟩))),
    fun n peer armed => all.reports log (mem_inhibitWrites.mpr (.inr (.inr ⟨n, peer, armed, rfl⟩))),
    fun off => all.noReport log (by decide) fun w mem _ code => ?_,
    fun off => all.noReport log (by decide) fun w mem _ code => ?_,
    fun off => all.noReport log (by decide) fun w mem _ code => ?_⟩
  · rcases mem_inhibitWrites.mp mem with ⟨limit, armed, rfl⟩ | ⟨-, -, rfl⟩ | ⟨n, -, -, rfl⟩
    · simp [limit, armed] at off
    · cases code
    · cases code
  · rcases mem_inhibitWrites.mp mem with ⟨-, -, rfl⟩ | ⟨limit, armed, rfl⟩ | ⟨n, -, -, rfl⟩
    · cases code
    · simp [limit, armed] at off
    · cases code
  · rcases mem_inhibitWrites.mp mem with ⟨-, -, rfl⟩ | ⟨-, -, rfl⟩ | ⟨n, peer, armed, rfl⟩
    · cases code
    · cases code
    · simp [peer, armed] at off

theorem judgeTriggers_holds (judges : s.judgesTriggers = true) (holds : s.trigger = some ⟨mode, direction⟩)
    (log : s.LogOpen) : s.Held (judgeTriggers s) mode direction := by
  obtain ⟨joined, -, -, stagger, -⟩ := (State.judgesTriggers_iff s).mp judges
  obtain ⟨forward, wake⟩ := judgeTriggers_held judges holds
  refine ⟨fun pending => ?_, fun quiet => ?_, fun active => ?_⟩
  · rw [wake (by simp [pending]), wakeCause_ofPending s pending]
    exact ⟨stagger, rfl, rfl⟩
  · have heard : ¬s.link.state = .silent := by simp [((State.isJoined_iff s).mp joined).2]
    rw [wake (by simp [quiet])]
    have eq : wakeCause s = if s.quiet.call.isSome then s else startCall s := by
      unfold wakeCause
      rw [quiet]
      exact if_neg heard
    rw [eq]
    cases call : s.quiet.call.isSome with
    | true => exact ⟨stagger, quiet, call, rfl⟩
    | false => exact ⟨stagger, quiet, rfl, rfl⟩
  · obtain ⟨-, staggers, five, four, eight, writes⟩ := forwardTrigger_made ⟨mode, direction⟩ active
    obtain ⟨says5, says4, says8, no5, no4, no8⟩ := inhibitWrites_reports writes log
    rw [forward active]
    refine ⟨fun free => ⟨forwardTrigger_free free, by rw [staggers, free]; rfl⟩,
      fun inhibited => by rw [staggers, inhibited]; exact stagger,
      fun v twist reached => ⟨fun plain => ?_, fun storm => ?_⟩,
      fun short => ?_, fun n ring least => ?_, fun none => ?_⟩
    · have limit : s.limitIn ⟨mode, direction⟩ false = true ∧ s.limitIn ⟨mode, direction⟩ true = false := by
        unfold State.limitIn State.limitInhibits
        rw [twist]
        simp [reached, plain]
      exact ⟨by rw [four, limit.1]; rfl, by rw [five, limit.2]; rfl, fun armed => says4 v twist limit.1 armed,
        fun off => no4 (.inr off), no5 (.inl limit.2)⟩
    · have limit : s.limitIn ⟨mode, direction⟩ false = false ∧ s.limitIn ⟨mode, direction⟩ true = true := by
        subst storm
        unfold State.limitIn State.limitInhibits
        rw [twist]
        simp [reached]
      exact ⟨by rw [five, limit.2]; rfl, by rw [four, limit.1]; rfl, fun armed => says5 v twist limit.2 armed,
        fun off => no5 (.inr off), no4 (.inl limit.1)⟩
    · have limit (storm : Bool) : s.limitIn ⟨mode, direction⟩ storm = false := by
        unfold State.limitIn State.limitInhibits
        rw [short]
        rfl
      exact ⟨by rw [four, limit]; rfl, by rw [five, limit]; rfl, no4 (.inl (limit _)), no5 (.inl (limit _))⟩
    · have peer := State.peerInhibits_some ring least
      exact ⟨by rw [eight, peer]; rfl, says8 n peer, fun off => no8 (.inr off)⟩
    · have peer := (State.peerInhibits_none s).mpr none
      exact ⟨by rw [eight, peer]; rfl, no8 (.inl peer)⟩

/-- Settles O45: the first trigger that holds, and what is made of it. -/
theorem triggersInOrder : Obligations.TriggersInOrder := by
  intro s t0 joined takes timer due idle stagger free log
  have judges : (s.dwelled t0).judgesTriggers = true := by
    refine (State.judgesTriggers_iff _).mpr ⟨joined, takes, idle, stagger, ?_⟩
    change Timer.remaining s.yaw.hold s.now Config.yawHold = 0
    cases hold : s.yaw.hold with
    | none => rfl
    | some h =>
      have := free h hold
      simp only [Timer.remaining]
      omega
  have holds (mode : SessionMode) (direction : Direction) (trigger : (s.dwelled t0).trigger = some ⟨mode, direction⟩) :=
    judgeTriggers_holds judges trigger log
  have dwell : (judgeTriggers (s.dwelled t0)).yaw.stormDwell = (s.dwelled t0).yaw.stormDwell ∧
      (judgeTriggers (s.dwelled t0)).yaw.autoDwell = (s.dwelled t0).yaw.autoDwell := by
    rcases judgeTriggers_cases (s.dwelled t0) with same | ⟨t, active, eq⟩ | ⟨-, eq⟩
    · rw [same]; exact ⟨rfl, rfl⟩
    · obtain ⟨⟨_, _, _, _, _, is⟩, -⟩ := forwardTrigger_made (s := s.dwelled t0) t active
      rw [eq, is]; exact ⟨rfl, rfl⟩
    · rw [eq, wakeCause_footprint]; exact ⟨rfl, rfl⟩
  refine ⟨_, exec_yawCheck_idle joined idle timer due, ?_⟩
  dsimp only
  rw [dwell.1, dwell.2]
  refine ⟨fun storms m is => ⟨fun positive => ?_, fun negative => ?_⟩, fun calm order => ?_,
    fun calm order => ?_, ?_, ?_,
    fun calm cw ccw rests stays => ?_, ?_, ?_⟩
  · refine holds .storm .cw ((stormTrigger_some (s := s.dwelled t0) storms is).trans ?_)
    rw [towardWind, if_pos positive]
  · refine holds .storm .ccw ((stormTrigger_some (s := s.dwelled t0) storms is).trans ?_)
    rw [towardWind, if_neg (by omega)]
  · exact holds .order .cw (trigger_ordered (s := s.dwelled t0) calm (.inl ⟨order, rfl⟩))
  · exact holds .order .ccw (trigger_ordered (s := s.dwelled t0) calm (.inr ⟨order, rfl⟩))
  · rintro v ⟨order, calm, twist, far⟩
    have untwist := trigger_untwist (s := s.dwelled t0) order calm twist far
    refine ⟨fun positive => holds .untwist .ccw (untwist.trans ?_), fun negative =>
      holds .untwist .cw (untwist.trans ?_)⟩
    · rw [againstTwist, if_pos positive]
    · rw [againstTwist, if_neg (by omega)]
  · rintro ⟨order, calm, counted, agree, v, speed, windy⟩ m is
    have auto := trigger_auto (s := s.dwelled t0) order calm counted agree speed windy is
    refine ⟨fun positive => holds .auto .cw (auto.trans ?_), fun negative => holds .auto .ccw (auto.trans ?_)⟩
    · rw [towardWind, if_pos positive]
    · rw [towardWind, if_neg (by omega)]
  · rw [judgeTriggers_none (.inr (trigger_none (s := s.dwelled t0) calm cw ccw rests stays))]
    exact ⟨stagger, rfl, rfl, rfl, rfl, rfl, rfl⟩
  · rintro ⟨-, counted⟩
    obtain ⟨m, is, -⟩ := dwellAfter_some (threshold := 40) (limit := 20) (v := s.wind.misalignment)
      (count := s.yaw.stormDwell) (positive := s.yaw.stormPositive) (fun zero => by
        have : (20 : Nat) = 0 := counted.symm.trans zero
        omega)
    rw [is]
    rfl
  · rintro ⟨-, -, counted, -⟩
    obtain ⟨m, is, -⟩ := dwellAfter_some (threshold := 80) (limit := 100) (v := s.wind.misalignment)
      (count := s.yaw.autoDwell) (positive := s.yaw.autoPositive) (fun zero => by
        have : (100 : Nat) = 0 := counted.symm.trans zero
        omega)
    rw [is]
    rfl

end Sys2Proof.Machine
end

section
/-! The QUIET order, the entry into QUIET, its exchanges and the wake causes (R174 to R177, R78 to R81). -/
namespace Sys2Proof.Machine
variable {s t u : State} {levels : List Level} {n cls code : Nat} {severity : Severity} {detail : Int}

/-! ## What a wake cause leaves alone -/

/-- R177: a wake cause at a station that is not SILENT writes the quiet record alone. -/
theorem wakeCause_heard (heard : s.link.state ≠ .silent) : wakeCause s = { s with quiet := (wakeCause s).quiet } := by
  unfold wakeCause
  split
  · rfl
  · rfl
  · rw [if_neg heard]
    split
    · rfl
    · rfl

theorem wakeCause_not_pending (s : State) : (wakeCause s).quiet.state ≠ .pending := by
  unfold wakeCause
  split
  case h_1 active => simp [active]
  case h_2 => simp
  case h_3 quiet =>
    split
    · simp [returnToActive]
    · split
      · simp [quiet]
      · simp [startCall, quiet]

/-- What follows a wake cause without moving the quiet and cadence records, or taking back a change, leaves it taken. -/
theorem State.WakeTaken.settle (woken : s.WakeTaken u) (quiet : t.quiet = u.quiet) (cadence : t.cadence = u.cadence)
    (changed : u.table.changePending = true → t.table.changePending = true) : s.WakeTaken t := by
  obtain ⟨active, pending, silent, called⟩ := woken
  unfold State.WakeTaken
  rw [quiet, cadence]
  exact ⟨active, pending, fun inQuiet clashed => ⟨(silent inQuiet clashed).1, (silent inQuiet clashed).2.1,
    changed (silent inQuiet clashed).2.2⟩, called⟩

theorem quietTest_away (away : s.quiet.state ≠ .pending) : quietTest s = s := if_neg fun test => away test.1

theorem setYaw_changePending (y : YawState) (changed : s.table.changePending = true) :
    (setYaw s y).table.changePending = true := by
  unfold setYaw
  split
  · exact changed
  · rfl

/-- R126: the return to Y_IDLE away from QUIET_PENDING. -/
theorem enterIdle_away (away : s.quiet.state ≠ .pending) :
    enterIdle s = setYaw { s with yaw := s.yaw.noTimers.motorsOff } .idle :=
  quietTest_away (by simpa using away)

/-- R143: what ends a session away from QUIET_PENDING leaves quiet control, the cadence and the thread alone. -/
theorem barSession_away (away : s.quiet.state ≠ .pending) : (barSession s).quiet = s.quiet ∧
    (barSession s).cadence = s.cadence ∧ (barSession s).thread = s.thread ∧
    (s.table.changePending = true → (barSession s).table.changePending = true) := by
  unfold barSession
  split
  · unfold abandon
    rw [enterIdle_away (by simpa [startHold] using away)]
    exact ⟨by simp [startHold], by simp [startHold], by simp [startHold],
      fun changed => setYaw_changePending _ (by simpa [startHold] using changed)⟩
  · rw [enterIdle_away (by simpa using away)]
    exact ⟨by simp, by simp, by simp, fun changed => setYaw_changePending _ (by simpa using changed)⟩
  iterate 2
    exact ⟨by simp, by simp, by simp, fun changed => setYaw_changePending _ (by simpa using changed)⟩
  all_goals exact ⟨rfl, rfl, rfl, id⟩

theorem State.WakeTaken.barred (woken : s.WakeTaken u) (away : u.quiet.state ≠ .pending) :
    s.WakeTaken (barSession u) := by
  obtain ⟨quiet, cadence, -, changed⟩ := barSession_away away
  exact woken.settle quiet cadence changed

/-- R151, R177: every report of WARN or above is a wake cause. -/
theorem reportFault_wakes (s : State) (cls code : Nat) (detail : Int) (notNote : severity ≠ .note) :
    s.WakeTaken (reportFault s cls code severity detail) := by
  have woken := takeReport_wakes_taken s cls code detail notNote
  unfold reportFault
  dsimp only
  split
  · refine woken.barred ?_
    rw [takeReport_eq s cls code detail notNote]
    exact wakeCause_not_pending _
  · exact woken

/-! ## PLANT 6 taken from a notice -/

/-- R157, R177: a nacelle trip taken is a wake cause, and leaves the thread TRIPPED. -/
theorem takeNacelleTrip_wakes {record : State → State} (link : s.link.state ≠ .silent)
    (same : ∀ u : State, (record u).quiet = u.quiet ∧ (record u).cadence = u.cadence ∧ (record u).now = u.now ∧
      (record u).link = u.link ∧ (record u).thread = u.thread) :
    s.WakeTaken (takeNacelleTrip s record) ∧ (takeNacelleTrip s record).thread.state = .tripped := by
  obtain ⟨quiet, cadence, now, links, thread⟩ := same (tripThread (addCause s clsPlant 6))
  have woken : s.WakeTaken (wakeCause (record (tripThread (addCause s clsPlant 6)))) :=
    (wakeCause_taken _).congr (by rw [quiet]; simp) (by rw [cadence]; simp) (by rw [links]; simp) (by rw [now]; simp)
  have tripped : (wakeCause (record (tripThread (addCause s clsPlant 6)))).thread.state = .tripped := by
    rw [wakeCause_heard (by rw [links]; simpa using link)]
    change (record (tripThread (addCause s clsPlant 6))).thread.state = .tripped
    rw [thread]
    simp
  have away := wakeCause_not_pending (record (tripThread (addCause s clsPlant 6)))
  unfold takeNacelleTrip
  dsimp only
  split
  · exact ⟨woken.barred away, by rw [(barSession_away away).2.2.1]; exact tripped⟩
  · exact ⟨woken, tripped⟩

/-! ## The order and the entry -/

theorem QuietControl.order_eq (q : QuietControl) (interval wake : Nat) : q.order interval wake =
    { q with interval := if interval = 0 then 1 else if 60 < interval then 60 else interval
             wakePeriod := wake } := by
  unfold QuietControl.order
  congr 1
  split
  · rfl
  · split <;> omega

theorem exec_frameReceived_quietOrder {interval wake : Nat} (joined : s.isJoined = true) (receives : s.receives = true)
    (good : receive levels = (false, .good n (.quietOrder interval wake))) :
    exec (.frameReceived levels) s = .next (takeQuietOrder s.received interval wake) :=
  (exec_frameReceived_good joined receives good).trans (congrArg Host.Outcome.next (if_pos (State.joined_beq joined)))

/-- R175: the completion test that finds the work done. -/
theorem quietTest_enters (pending : s.quiet.state = .pending) (joined : s.link.state = .joined)
    (idle : s.yaw.state = .idle) (empty : s.link.queue = []) : quietTest s = enterQuiet s :=
  if_pos ⟨pending, joined, idle, empty⟩

theorem quietTest_waits (work : s.quiet.state ≠ .pending ∨ s.yaw.state ≠ .idle ∨ s.link.queue ≠ []) :
    quietTest s = s := by
  refine if_neg fun ⟨pending, _, idle, empty⟩ => ?_
  rcases work with other | other | other
  · exact other pending
  · exact other idle
  · exact other empty

theorem exec_entryIntoQuiet (free : s.held = false) : exec .entryIntoQuiet s = .next (quietTest s) :=
  congrArg Host.Outcome.next (if_pos free)

/-- R174: an order in OFF or TRIPPED, as it finds quiet control. -/
def State.ordered (s : State) (interval wake : Nat) : State := { s with quiet := s.quiet.order interval wake }

/-- R174, R175: the order of an ACTIVE station. -/
def State.orderPending (s : State) (interval wake : Nat) : State :=
  { s with quiet := { s.quiet.order interval wake with state := .pending } }

theorem takeQuietOrder_active (interval wake : Nat) (quietable : s.thread.state.quietable = true)
    (active : s.quiet.state = .active) : takeQuietOrder s interval wake = quietTest (s.orderPending interval wake) := by
  unfold takeQuietOrder
  rw [if_pos quietable, active]
  rfl

theorem takeQuietOrder_pending (interval wake : Nat) (quietable : s.thread.state.quietable = true)
    (pending : s.quiet.state = .pending) : takeQuietOrder s interval wake = s.ordered interval wake := by
  unfold takeQuietOrder
  rw [if_pos quietable, pending]
  rfl

theorem takeQuietOrder_quiet (interval wake : Nat) (quietable : s.thread.state.quietable = true)
    (quiet : s.quiet.state = .quiet) : takeQuietOrder s interval wake = { s.ordered interval wake with
      quiet := { s.quiet.order interval wake with wakeTimer := if wake = 0 then none else some s.now } } := by
  unfold takeQuietOrder
  rw [if_pos quietable, quiet]
  rfl

/-! ## The exchanges of QUIET -/

theorem breakerCommand_quietable {x : ThreadState} (quietable : x.quietable = true) (step : BreakerStep) :
    x.gates = false ∧ x.contactor = false ∧ breakerCommand x step = false := by
  cases x with
  | off | tripped => exact ⟨rfl, rfl, rfl⟩
  | precharge | sync | run | rideThrough | stopping => cases quietable

/-- R79: the command of a thread at rest whose breaker is commanded open. -/
theorem sendCommand_quietable (quietable : s.thread.state.quietable = true)
    (opened : s.thread.exchange.sent.breakerClosed = false) (offset : Nat) : sendCommand s offset = { s with
      thread := { s.thread with exchange := {
        outstanding := true
        begun := s.now
        sent := {
          number := (s.thread.exchange.sent.number + 1) % 256
          active := s.allotment.pCommand
          reactive := s.allotment.qCommand
          offset := offset
          gates := false
          contactorClosed := false
          breakerClosed := false } } } } := by
  obtain ⟨gates, contactor, breaker⟩ := breakerCommand_quietable quietable s.thread.breakerStep
  unfold sendCommand State.commandMessage breakerOpenAfter
  simp [gates, contactor, breaker, opened]

/-- R151: what the trip a report orders leaves of the stack port. -/
theorem tripFirst_port (s : State) (cls code : Nat) (severity : Severity) :
    (tripFirst s cls code severity).thread.quietTimer = s.thread.quietTimer ∧
    (tripFirst s cls code severity).thread.exchange = s.thread.exchange ∧
    (tripFirst s cls code severity).thread.missCount = s.thread.missCount ∧
    (tripFirst s cls code severity).thread.portOut = s.thread.portOut := by
  unfold tripFirst
  split
  · by_cases fresh : s.thread.state = .tripped
    · rw [tripThread, if_pos (by exact fresh)]
      exact ⟨rfl, rfl, rfl, rfl⟩
    · rw [tripThread_eq (addCause s cls code) fresh]
      exact ⟨rfl, rfl, rfl, rfl⟩
  · exact ⟨rfl, rfl, rfl, rfl⟩

/-- R81, R177: a report of which Yaw Control is not told, at a station that is not SILENT. -/
theorem reportFault_heard (s : State) (detail : Int) (notNote : severity ≠ .note) (apart : barsSession cls code = false)
    (heard : s.link.state ≠ .silent) :
    (reportFault s cls code severity detail).thread = (tripFirst s cls code severity).thread ∧
    (reportFault s cls code severity detail).now = s.now := by
  obtain ⟨link, -, -, -, now, -⟩ := tripFirst_frame s cls code severity
  rw [reportFault_apart s severity detail apart, takeReport_eq s cls code detail notNote,
    wakeCause_heard (by simpa [link] using heard)]
  exact ⟨by simp, by simpa using now⟩

/-- R81: the severity of STACK 3, by the state of the thread. -/
def State.missSeverity (s : State) : Severity :=
  if s.thread.state = .off ∨ s.thread.state = .tripped then .warn else .tripThread

theorem State.missSeverity_ne (s : State) : s.missSeverity ≠ .note := by
  unfold State.missSeverity
  split <;> simp

theorem State.missSeverity_quietable (quietable : s.thread.state.quietable = true) : s.missSeverity = .warn := by
  refine if_pos ?_
  cases state : s.thread.state <;> simp_all [ThreadState.quietable]

/-- R81: a miss at a station that is not SILENT. -/
theorem missReply_heard (heard : s.link.state ≠ .silent) :
    (missReply s).thread.quietTimer = s.thread.quietTimer ∧
    (missReply s).thread.exchange.sent = s.thread.exchange.sent ∧ (missReply s).now = s.now ∧
    (missReply s).thread.missCount = countHeld 255 s.thread.missCount := by
  rcases missReply_cases s with silent | report
  · rw [silent]
    exact ⟨rfl, rfl, rfl, rfl⟩
  · obtain ⟨thread, now⟩ := reportFault_heard (cls := clsStack) (code := 3) (severity := s.missSeverity)
      { s with thread := { s.thread.afterMiss with portOut := true } } 3 s.missSeverity_ne (by decide) heard
    obtain ⟨timer, exchange, count, -⟩ :=
      tripFirst_port { s with thread := { s.thread.afterMiss with portOut := true } } clsStack 3 s.missSeverity
    change missReply s = reportFault _ clsStack 3 s.missSeverity 3 at report
    rw [report, now, thread, timer, exchange, count]
    exact ⟨rfl, rfl, rfl, rfl⟩

/-- R81, R177: the third miss in service puts the port out, and is a wake cause. -/
theorem missReply_third_heard (heard : s.link.state ≠ .silent) (third : s.thread.missCount + 1 = 3)
    (inService : s.thread.portOut = false) :
    s.WakeTaken (missReply s) ∧ (missReply s).thread.portOut = true ∧
    (s.thread.state.quietable = true → s.link.state = .joined → s.log.newest < Config.lastSequence →
      s.link.queue.length < 8 → (missReply s).thread.state = s.thread.state ∧
      s.Logged (missReply s) s.own clsStack 3 1 1 (some 3) none ∧ s.Noticed (missReply s) clsStack 3 1 1 3) := by
  rw [missReply_third third inService]
  change s.WakeTaken (reportFault _ clsStack 3 s.missSeverity 3) ∧ _
  refine ⟨(reportFault_wakes _ _ _ _ s.missSeverity_ne).congr rfl rfl rfl rfl, ?_,
    fun quietable joined below room => ?_⟩
  · obtain ⟨thread, -⟩ := reportFault_heard (cls := clsStack) (code := 3) (severity := s.missSeverity)
      { s with thread := { s.thread.afterMiss with portOut := true } } 3 s.missSeverity_ne (by decide) heard
    change (reportFault _ clsStack 3 s.missSeverity 3).thread.portOut = true
    rw [thread, (tripFirst_port _ _ _ _).2.2.2]
  · have warn : (if s.thread.state = .off ∨ s.thread.state = .tripped then Severity.warn else .tripThread) = .warn :=
      State.missSeverity_quietable quietable
    have action : reportAction { s with thread := { s.thread.afterMiss with portOut := true } } clsStack 3 .warn =
      .logged := reportAction_warn (by decide)
    have logged := takeReport_logged { s with thread := { s.thread.afterMiss with portOut := true } } clsStack 3 3
      (severity := .warn) (by simp) below room
    have noticed := takeReport_noticed { s with thread := { s.thread.afterMiss with portOut := true } } clsStack 3 3
      (severity := .warn) (by simp) (takesOffers_of (.inr joined)) room
    rw [action] at logged noticed
    rw [warn]
    refine ⟨reportFault_warn_threadState .., ?_, ?_⟩
    · rw [reportWarn_eq]
      exact logged
    · rw [reportWarn_eq]
      exact noticed

/-- R78: an exchange of QUIET that is due. -/
theorem exec_quietExchangeTimer {t0 : Nat} (joined : s.isJoined = true) (quiet : s.quiet.state = .quiet)
    (timer : s.thread.quietTimer = some t0) (due : t0 + Config.quietExchange ≤ s.now) :
    exec .quietExchangeTimer s = .next (beginExchange
      { s with thread := { s.thread with quietTimer := some (t0 + Config.quietExchange) } } 0) := by
  refine congrArg Host.Outcome.next ((if_pos ⟨joined, quiet, reached_of timer due⟩).trans ?_)
  rw [timer]
  rfl

theorem quietExchange_missed {t0 : Nat} (joined : s.isJoined = true) (quiet : s.quiet.state = .quiet)
    (timer : s.thread.quietTimer = some t0) (due : t0 + Config.quietExchange ≤ s.now)
    (outstanding : s.thread.exchange.outstanding = true) :
    ∃ t, exec .quietExchangeTimer s = .next t ∧ t.thread.quietTimer = some (t0 + Config.quietExchange) ∧
      t.thread.exchange.outstanding = true ∧ t.thread.exchange.begun = s.now ∧
      t.thread.exchange.sent.number = (s.thread.exchange.sent.number + 1) % 256 ∧
      t.thread.exchange.sent.offset = 0 ∧ t.thread.missCount = min 255 (s.thread.missCount + 1) ∧
      ((s.thread.missCount + 1 ≠ 3 ∨ s.thread.portOut = true) → t.quiet = s.quiet ∧ t.log = s.log ∧ t.link = s.link) ∧
      (s.thread.missCount + 1 = 3 → s.thread.portOut = false → s.WakeTaken t ∧ t.thread.portOut = true ∧
        (s.thread.state.quietable = true → s.log.newest < Config.lastSequence → s.link.queue.length < 8 →
          t.thread.state = s.thread.state ∧ s.Logged t s.own clsStack 3 1 1 (some 3) none ∧
          s.Noticed t clsStack 3 1 1 3)) := by
  obtain ⟨-, link⟩ := (State.isJoined_iff s).mp joined
  have heard : s.link.state ≠ .silent := by simp [link]
  refine ⟨_, exec_quietExchangeTimer joined quiet timer due, ?_⟩
  have begun : beginExchange { s with thread := { s.thread with quietTimer := some (t0 + Config.quietExchange) } } 0 =
      sendCommand (missReply { s with thread := { s.thread with quietTimer := some (t0 + Config.quietExchange) } }) 0 :=
    congrArg (sendCommand · 0) (if_pos outstanding)
  rw [begun]
  obtain ⟨kept, sent, now, count⟩ := missReply_heard
    (s := { s with thread := { s.thread with quietTimer := some (t0 + Config.quietExchange) } }) heard
  have silent := missReply_silent
    (s := { s with thread := { s.thread with quietTimer := some (t0 + Config.quietExchange) } })
  have third := missReply_third_heard
    (s := { s with thread := { s.thread with quietTimer := some (t0 + Config.quietExchange) } }) heard
  refine ⟨kept, rfl, now, congrArg (fun c : StackCommand => (c.number + 1) % 256) sent, rfl, count.trans ?_,
    fun silently => ?_, fun isThird inService => ?_⟩
  · rfl
  · have same : (missReply { s with thread := { s.thread with quietTimer := some (t0 + Config.quietExchange) } }) = _ :=
      silent silently
    rw [same]
    exact ⟨rfl, rfl, rfl⟩
  · obtain ⟨woken, out, reports⟩ := third isThird inService
    refine ⟨(woken.settle (t := sendCommand _ 0) rfl rfl id).congr rfl rfl rfl rfl, out, fun quietable below room => ?_⟩
    obtain ⟨state, logged, noticed⟩ := reports quietable link below room
    exact ⟨state, logged, noticed⟩

/-! ## The obligation -/

/-- Settles O58: the QUIET order, the entry into QUIET, the exchanges there, and the wake causes. -/
theorem quietOrdersAndExchanges : Obligations.QuietOrdersAndExchanges := by
  refine ⟨fun s joined => ?_, fun s t0 joined quiet timer => ?_, fun s cls code severity detail => ?_,
    fun s levels n f joined receives good above below trips => ?_⟩
  · obtain ⟨free, link⟩ := (State.isJoined_iff s).mp joined
    refine ⟨fun levels interval wake receives good => ?_, fun work => ?_, fun pending idle empty => ?_⟩
    · intro i
      have taken := exec_frameReceived_quietOrder joined receives good
      have order : s.received.quiet.order interval wake = { s.quiet with interval := i, wakePeriod := wake } :=
        QuietControl.order_eq s.quiet interval wake
      refine ⟨fun rests => ?_, fun quietable active work => ?_, fun quietable active idle empty => ?_,
        fun quietable pending => ?_, fun quietable quiet => ?_⟩
      · exact taken.trans (congrArg Host.Outcome.next (if_neg fun quietable : s.thread.state.quietable = true => by
          rw [rests] at quietable
          cases quietable))
      · rw [taken, takeQuietOrder_active interval wake (by exact quietable) (by exact active),
          quietTest_waits (.inr (by exact work)), State.orderPending, order]
      · rw [taken, takeQuietOrder_active interval wake (by exact quietable) (by exact active),
          quietTest_enters (by rfl) (by exact link) (by exact idle) (by exact empty), State.orderPending, order]
        rfl
      · rw [taken, takeQuietOrder_pending interval wake (by exact quietable) (by exact pending), State.ordered, order]
      · rw [taken, takeQuietOrder_quiet interval wake (by exact quietable) (by exact quiet), order]
        rfl
    · rw [exec_entryIntoQuiet free, quietTest_waits work]
    · rw [exec_entryIntoQuiet free, quietTest_enters pending link idle empty]
      rfl
  · refine ⟨fun early => ?_, fun due free quietable opened => ?_, fun due outstanding =>
      quietExchange_missed joined quiet timer due outstanding⟩
    · exact congrArg Host.Outcome.next (if_neg fun due => by simp [not_reached_of timer early] at due)
    · rw [exec_quietExchangeTimer joined quiet timer due]
      have begun : beginExchange { s with thread := { s.thread with
          quietTimer := some (t0 + Config.quietExchange) } } 0 = sendCommand _ 0 :=
        congrArg (sendCommand · 0) (if_neg (by simp [free]))
      rw [begun]
      exact congrArg Host.Outcome.next (sendCommand_quietable
        (s := { s with thread := { s.thread with quietTimer := some (t0 + Config.quietExchange) } }) quietable opened 0)
  · exact ⟨reportFault_wakes s cls code detail, rfl, rfl⟩
  · have link' : s.received.link.state = .joined := ((State.isJoined_iff s).mp joined).2
    have taken : exec (.frameReceived levels) s = .next (takeNacelleNotice s.received n f) := by
      rw [exec_frameReceived_good joined receives good]
      refine congrArg Host.Outcome.next ((if_neg (by rw [link']; simp)).trans ((if_neg ?_).trans (if_pos trips)))
      omega
    obtain ⟨woken, tripped⟩ := takeNacelleTrip_wakes (s := s.received) (record := fun u =>
      markTaken (enterRecord u n f.cls f.code f.severity FaultAction.nacelleTripTaken.code (some f.detail)
        (some f.number)) n) (by simp [link']) (fun u => ⟨rfl, rfl, rfl, rfl, rfl⟩)
    exact ⟨_, taken, woken, tripped⟩

end Sys2Proof.Machine
end

section
/-! The wake timer, the station's own wake call and the calls it hears (R177 to R181). -/
namespace Sys2Proof.Machine
variable {s t u : State} {c : WakeCall}

/-! ## The wake timer -/

theorem wakeCause_calls (heard : s.link.state ≠ .silent) (quiet : s.quiet.state = .quiet) (free : s.quiet.call = none) :
    wakeCause s = startCall s := by
  unfold wakeCause
  rw [quiet]
  exact (if_neg heard).trans (if_neg (by simp [free]))

/-- R178: a call with no mark heard less than 1000 µs back. -/
theorem startCall_late (late : ∀ h, s.quiet.lastMark = some h → h + Config.callWindow ≤ s.now) :
    startCall s = { s with quiet := { s.quiet with
      call := some { done := 0, first := none, since := s.now, waiting := false, markEnd := none } } } := by
  unfold startCall
  cases last : s.quiet.lastMark with
  | none => rfl
  | some h =>
    have := late h last
    dsimp only
    rw [if_neg (by omega)]

/-- R178: a call fixed from a mark heard less than 1000 µs back. -/
theorem startCall_recent {h : Nat} (last : s.quiet.lastMark = some h) (recent : s.now < h + Config.callWindow) :
    startCall s = { s with quiet := { s.quiet with
      call := some { done := 0, first := some (thirdMark s.now h - 8000), since := s.now, waiting := false,
                     markEnd := none } } } := by
  unfold startCall
  rw [last]
  dsimp only
  rw [if_pos recent]
  rfl

/-- R180: the wake timer run out at a station with no call of its own. -/
theorem exec_wakeTimerExpiry {t0 : Nat} (joined : s.isJoined = true) (quiet : s.quiet.state = .quiet)
    (timer : s.quiet.wakeTimer = some t0) (due : t0 + s.quiet.wakePeriod * Config.minute ≤ s.now)
    (free : s.quiet.call = none) :
    exec .wakeTimerExpiry s = .next (startCall { s with quiet := { s.quiet with wakeTimer := none } }) := by
  have heard : s.link.state ≠ .silent := by simp [((State.isJoined_iff s).mp joined).2]
  refine congrArg Host.Outcome.next
    ((if_pos ⟨State.running_of_joined joined, quiet, reached_of timer due⟩).trans ?_)
  exact wakeCause_calls heard quiet free

/-- R178: the third mark falls on the first moment of the cadence heard that is 200 µs ahead. -/
theorem thirdMark_first {now h : Nat} (heard : h ≤ now) :
    ∃ k, 1 ≤ k ∧ thirdMark now h = h + 16000 * k ∧ now + 8000 ≤ thirdMark now h ∧
      ∀ j, 1 ≤ j → now + 8000 ≤ h + 16000 * j → k ≤ j := by
  refine ⟨max 1 ((now + 8000 - h + 15999) / 16000), by omega, rfl, ?_, fun j least ahead => by omega⟩
  change now + 8000 ≤ h + 16000 * max 1 ((now + 8000 - h + 15999) / 16000)
  omega

/-! ## The marks of the own call -/

theorem WakeCall.due_iff (c : WakeCall) (now : Nat) :
    c.due now = true ↔ c.done < 3 ∧ ∀ m, c.first = some m → m + 4000 * c.done ≤ now := by
  unfold WakeCall.due WakeCall.moment
  cases first : c.first with
  | none => simp
  | some m =>
    simp only [Option.map_some, Bool.and_eq_true, decide_eq_true_eq, Option.some.injEq, forall_eq']
    rfl

theorem exec_wakeCallMark_due (dominant : Bool) (joined : s.isJoined = true) (call : s.quiet.call = some c)
    (due : c.due s.now = true) : exec (.wakeCallMark dominant) s = .next (callMarkDue s c (s.lineIdle dominant)) := by
  refine congrArg Host.Outcome.next ?_
  unfold wakeCallMark
  rw [call]
  exact if_pos ⟨joined, due⟩

theorem exec_wakeCallMark_early (dominant : Bool) (call : s.quiet.call = some c) (early : c.due s.now = false) :
    exec (.wakeCallMark dominant) s = .next s := by
  refine congrArg Host.Outcome.next ?_
  unfold wakeCallMark
  rw [call]
  exact if_neg fun due => by simp [early] at due

/-- R178: a line that is not idle. -/
theorem lineIdle_false {dominant : Bool} (busy : dominant = true ∨ s.link.ownMark.isSome = true ∨
    ∀ r, s.receiver.recessiveSince = some r → s.now < r + 48) : s.lineIdle dominant = false := by
  refine Bool.eq_false_iff.mpr fun idle => ?_
  obtain ⟨recessive, unmarked, r, since, long⟩ := (s.lineIdle_iff dominant).mp idle
  rcases busy with is | is | short
  · rw [recessive] at is; cases is
  · rw [unmarked] at is; cases is
  · have := short r since
    change r + 48 ≤ s.now at long
    omega

/-- R178: a mark of the call due on a line that is not idle. -/
theorem callMarkDue_busy (s : State) (c : WakeCall) : callMarkDue s c false =
    if c.first.isNone = true ∨ c.waiting = true then s
    else if c.behindMark s.now then standForMark s c
    else { s with quiet := { s.quiet with call := some { c with waiting := true } } } := rfl

theorem behindMark_some {e : Nat} (ended : c.markEnd = some e) (now : Nat) :
    c.behindMark now = decide (now < e + 48) := by
  unfold WakeCall.behindMark
  rw [ended]
  rfl

theorem behindMark_false {now : Nat} (clear : c.markEnd = none ∨ ∃ e, c.markEnd = some e ∧ e + 48 ≤ now) :
    c.behindMark now = false := by
  rcases clear with none | ⟨e, ended, past⟩
  · unfold WakeCall.behindMark
    rw [none]
  · rw [behindMark_some ended]
    exact decide_eq_false (by omega)

theorem standForMark_goes (more : c.done < 2) : standForMark s c = { s with quiet := { s.quiet with
    call := some { c with done := c.done + 1, waiting := false, markEnd := none } } } := if_neg (by omega)

theorem standForMark_ends (last : c.done = 2) : standForMark s c = returnToActive s := if_pos (by omega)

/-- R178: a mark of the call due, at its moment, on a line that is not idle. -/
theorem exec_wakeCallMark_busy {m : Nat} {dominant : Bool} (joined : s.isJoined = true) (call : s.quiet.call = some c)
    (more : c.done < 3) (first : c.first = some m) (rests : c.waiting = false) (due : m + 4000 * c.done ≤ s.now)
    (busy : dominant = true ∨ s.link.ownMark.isSome = true ∨
      ∀ r, s.receiver.recessiveSince = some r → s.now < r + 48) :
    exec (.wakeCallMark dominant) s = .next (if c.behindMark s.now = true then standForMark s c
      else { s with quiet := { s.quiet with call := some { c with waiting := true } } }) := by
  have isDue : c.due s.now = true := (c.due_iff _).mpr ⟨more, fun m' first' => by
    rw [first] at first'
    cases first'
    exact due⟩
  rw [exec_wakeCallMark_due dominant joined call isDue, lineIdle_false busy, callMarkDue_busy,
    if_neg (by simp [first, rests])]

/-! ## A call given up -/

theorem WakeCall.overdue_iff (c : WakeCall) (own : Option Nat) (now : Nat) : c.overdue own now = true ↔
    (c.done < 3 ∧ (c.waiting = true ∨ c.first = none) ∧ c.moment.getD c.since + Config.callWindow ≤ now) ∨
    (1 ≤ c.done ∧ ∃ o, own = some o ∧ o + Config.callWindow ≤ now) := by
  unfold WakeCall.overdue
  cases own <;> simp [and_assoc, Nat.one_le_iff_ne_zero, Nat.pos_iff_ne_zero]

theorem exec_wakeCallGiveUp (joined : s.isJoined = true) (call : s.quiet.call = some c) :
    exec .wakeCallGiveUp s = .next (if c.overdue s.link.ownMark s.now = true then returnToActive s else s) := by
  refine congrArg Host.Outcome.next ?_
  unfold wakeCallGiveUp
  rw [call]
  dsimp only
  rw [joined]
  simp

/-! ## The run of the own mark, and the marks heard -/

/-- R26, R178: the run of the station's own mark ends it, and may end its call. -/
theorem dominantRunEnd_marked {length : Nat} (early : Fin 4) (on : s.running = true)
    (marked : s.link.ownMark.isSome = true) (long : 16 ≤ length)
    (few : s.phaseAt (s.now - (4 * length + early)) = .receiving → s.link.windowDiscards ≠ 50) :
    ∃ r, dominantRunEnd s length early = ownMarkEnds { s with
      receiver := r
      link := { s.linkAfterRun (s.now - (4 * length + early)) with ownMark := none } } := by
  have run := receiveRun_long s length _ long few
  unfold dominantRunEnd
  rw [if_pos on]
  dsimp only
  rw [if_pos marked, runStart_eq]
  generalize (receiveRun s (classifyRun length) (s.now - (4 * length + ↑early))).receiver = r at run
  rw [run]
  exact ⟨_, rfl⟩

/-- R18, R179: in QUIET a mark heard is handed to quiet control. -/
theorem handMark_quiet (joined : s.isJoined = true) (quiet : s.quiet.state = .quiet) (first : Nat) :
    handMark s first = quietHearsMark s first := by
  have away : ¬s.keepsCadence = true := by simp [State.keepsCadence_iff, quiet]
  unfold handMark
  rw [((State.isJoined_iff s).mp joined).2]
  exact if_neg away

/-- R179: the mark of a run that is not the 51st broken reception, handed to quiet control. -/
theorem dominantRunEnd_quiet {length : Nat} (early : Fin 4) (joined : s.isJoined = true)
    (quiet : s.quiet.state = .quiet)
    (unmarked : s.link.ownMark = none) (low : 16 ≤ length) (high : length ≤ 24)
    (few : s.phaseAt (s.now - (4 * length + early)) = .receiving → s.link.windowDiscards ≠ 50) :
    ∃ r, dominantRunEnd s length early = quietHearsMark { s with
      receiver := r
      link := s.linkAfterRun (s.now - (4 * length + early)) } (s.now - (4 * length + early)) := by
  obtain ⟨r, heard⟩ := dominantRunEnd_heard_few early (State.running_of_joined joined) unmarked low high few
  refine ⟨r, heard.trans (handMark_quiet ?_ (by exact quiet) _)⟩
  exact (isJoined_congr (by rfl) (linkAfterRun_state s _)).trans joined

theorem quietHearsMark_free (free : s.quiet.call = none) (first : Nat) :
    quietHearsMark s first = hearCallMark s first := by
  unfold quietHearsMark
  rw [free]

theorem quietHearsMark_called (call : s.quiet.call = some c) (first : Nat) :
    quietHearsMark s first = callHearsMark s c := by
  unfold quietHearsMark
  rw [call]

/-- R179: the count of a heard call after a mark that follows the last in time. -/
theorem countMark_follows {m first : Nat} (last : s.quiet.callMark = some m) (counted : 1 ≤ s.quiet.callCount)
    (soon : first ≤ m + 6000) : s.quiet.countMark first = s.quiet.callCount + 1 := by
  unfold QuietControl.countMark
  rw [last]
  exact if_pos ⟨counted, soon⟩

theorem countMark_anew {first : Nat} (anew : s.quiet.callMark = none ∨ ∃ m, s.quiet.callMark = some m ∧
    m + 6000 < first) :
    s.quiet.countMark first = 1 := by
  unfold QuietControl.countMark
  rcases anew with none | ⟨m, last, late⟩
  · rw [none]
  · rw [last]
    refine if_neg fun ⟨_, soon⟩ => ?_
    have : first ≤ m + 6000 := soon
    omega

theorem hearCallMark_counts {first k : Nat} (count : s.quiet.countMark first = k) (few : k < 3) :
    hearCallMark s first = { s with quiet := { s.quiet with
      lastMark := some first, callCount := k, callMark := some first } } := by
  unfold hearCallMark
  dsimp only
  rw [count, if_neg (by omega)]

theorem hearCallMark_wakes {first : Nat} (count : 3 ≤ s.quiet.countMark first) :
    hearCallMark s first = returnToActive s := if_pos count

/-- R177: a report of WARN or above starts a call at a station in QUIET with none. -/
theorem State.WakeTaken.calls (woken : s.WakeTaken t) (quiet : s.quiet.state = .quiet) (heard : s.link.state ≠ .silent)
    (free : s.quiet.call = none) : t.cadence = s.cadence ∧ ∃ first, t.quiet = { s.quiet with
      call := some { done := 0, first := first, since := s.now, waiting := false, markEnd := none } } := by
  obtain ⟨cadence, -, late, recent⟩ := woken.2.2.2 quiet heard
  refine ⟨cadence, ?_⟩
  by_cases soon : ∃ h, s.quiet.lastMark = some h ∧ s.now < h + Config.callWindow
  · obtain ⟨h, last, soon⟩ := soon
    exact ⟨_, recent h free last soon⟩
  · refine ⟨_, late free fun h last => ?_⟩
    by_contra past
    exact soon ⟨h, last, by omega⟩

/-- R178: a mark heard while the call waits for none leaves only its end. -/
theorem callHearsMark_rests (rests : c.waiting = false) : callHearsMark s c = { s with
    quiet := { s.quiet with call := some { c with markEnd := some s.now } } } := if_neg (by simp [rests])

theorem callHearsMark_waits (waits : c.waiting = true) : callHearsMark s c = standForMark s c := if_pos waits

/-- R20, R177, R179: the mark that breaks the 51st reception of a window starts a call, which hears it. -/
theorem dominantRunEnd_quiet_many {length : Nat} (early : Fin 4) (joined : s.isJoined = true)
    (quiet : s.quiet.state = .quiet) (free : s.quiet.call = none)
    (unmarked : s.link.ownMark = none) (low : 16 ≤ length) (high : length ≤ 24)
    (broken : s.phaseAt (s.now - (4 * length + early)) = .receiving) (many : s.link.windowDiscards = 50) :
    ∃ t c, exec (.dominantRunEnd length early) s = .next t ∧ t.link.windowDiscards = 51 ∧
      t.quiet = { s.quiet with call := some c } ∧ c.done = 0 ∧ c.since = s.now ∧ c.waiting = false ∧
      c.markEnd = some s.now ∧ t.cadence = s.cadence := by
  have on := State.running_of_joined joined
  have heard : s.link.state ≠ .silent := by simp [((State.isJoined_iff s).mp joined).2]
  have count : (dominantRunEnd s length early).link.windowDiscards = 51 := by
    rw [(dominantRunEnd_result on).2, State.discardsAfter, broken, many, classifyRun_mark low high]
    rfl
  have run := receiveRun_many broken many
  have woken := (reportFault_wakes { s with
    receiver := { s.receiver with phase := phaseAfterRun .mark .receiving }
    link := { s.link with windowDiscards := 51 } } clsLink 3 51 (severity := .warn) (by simp)).congr
      (s := s) rfl rfl rfl rfl
  have aside := reportFault_aside { s with
    receiver := { s.receiver with phase := phaseAfterRun .mark .receiving }
    link := { s.link with windowDiscards := 51 } } .warn (cls := clsLink) (code := 3) 51 (by simp) (by decide)
  have resets : (receiveRun s .mark (s.now - (4 * length + early))).resets = s.resets := by simp
  have now : (receiveRun s .mark (s.now - (4 * length + early))).now = s.now := by simp
  rw [← run] at woken
  obtain ⟨cadence, first, called⟩ := woken.calls quiet heard free
  have handed : dominantRunEnd s length early =
      callHearsMark (endRun (receiveRun s .mark (s.now - (4 * length + early))))
        { done := 0, first := first, since := s.now, waiting := false, markEnd := none } := by
    rw [dominantRunEnd_heard early on unmarked low high, handMark_quiet, quietHearsMark_called]
    · exact congrArg QuietControl.call called
    · refine (isJoined_congr resets ?_).trans joined
      rw [run]
      exact aside.state
    · exact (congrArg QuietControl.state called).trans quiet
  rw [callHearsMark_rests rfl] at handed
  refine ⟨_, { done := 0, first := first, since := s.now, waiting := false, markEnd := some s.now }, rfl,
    count, ?_, rfl,
    rfl, rfl, rfl, by rw [handed]; exact cadence⟩
  rw [handed]
  dsimp only [endRun]
  rw [called, now]

theorem ownMarkEnds_called (call : s.quiet.call = some c) :
    ownMarkEnds s = if 3 ≤ c.done then returnToActive s else s := by
  unfold ownMarkEnds
  rw [call]

theorem linkAfterRun_unmarked (unmarked : s.link.ownMark = none) (first : Nat) :
    s.linkAfterRun first = { s.linkAfterRun first with ownMark := none } := by
  have same : (s.linkAfterRun first).ownMark = none := by
    rw [linkAfterRun_eq]
    exact unmarked
  rw [← same]

/-! ## The obligation -/

/-- Settles O59: the wake timer, the own call, and the call heard. -/
theorem wakeCallsMadeAndHeard : Obligations.WakeCallsMadeAndHeard := by
  refine ⟨fun s joined quiet => ?_, fun now h heard _ => thirdMark_first heard,
    fun s length early joined quiet free unmarked low high => ?_,
    fun s length early joined quiet free unmarked low high broken many =>
      dominantRunEnd_quiet_many early joined quiet free unmarked low high broken many,
    fun s length early c joined quiet call low => ?_⟩
  · refine ⟨fun t0 timer due free late => ?_, fun t0 h timer due free last heard recent => ?_,
      fun c r call more due unmarked since idle => ?_, fun c m call first early dominant => ?_,
      fun c dominant call first busy => ?_, fun c m dominant call more first rests due busy => ⟨fun clear => ?_,
        fun e ended behind more => ?_, fun e ended behind last => ?_⟩,
      fun c call waited => ?_, fun c call more waits unmarked => ?_⟩
    · rw [exec_wakeTimerExpiry joined quiet timer due free, startCall_late (by exact late)]
    · obtain ⟨k, least, is, ahead, -⟩ := thirdMark_first heard
      refine ⟨by omega, by omega, ?_⟩
      rw [exec_wakeTimerExpiry joined quiet timer due free, startCall_recent (by exact last) (by exact recent)]
    · rw [exec_wakeCallMark_due false joined call ((c.due_iff _).mpr ⟨more, due⟩), lineIdle_of since idle unmarked]
      rfl
    · refine exec_wakeCallMark_early dominant call (Bool.eq_false_iff.mpr fun due => ?_)
      have := ((c.due_iff _).mp due).2 m first
      omega
    · cases due : c.due s.now with
      | false => exact exec_wakeCallMark_early dominant call due
      | true =>
        rw [exec_wakeCallMark_due dominant joined call due, lineIdle_false busy, callMarkDue_busy,
          if_pos (.inl (by simp [first]))]
    · rw [exec_wakeCallMark_busy joined call more first rests due busy, if_neg (by simp [behindMark_false clear])]
    · rw [exec_wakeCallMark_busy joined call (by omega) first rests due busy,
        if_pos (by simp [behindMark_some ended, behind]), standForMark_goes more]
    · rw [exec_wakeCallMark_busy joined call (by omega) first rests due busy,
        if_pos (by simp [behindMark_some ended, behind]), standForMark_ends last]
      exact ⟨_, rfl, rfl, rfl, rfl⟩
    · have overdue : c.overdue s.link.ownMark s.now = true := by
        refine (c.overdue_iff _ _).mpr ?_
        rcases waited with ⟨m, first, more, waits, long⟩ | ⟨first, more, long⟩ | marked
        · exact .inl ⟨more, .inl waits, by unfold WakeCall.moment; rw [first]; exact long⟩
        · exact .inl ⟨more, .inr first, by unfold WakeCall.moment; rw [first]; exact long⟩
        · exact .inr marked
      refine ⟨_, (exec_wakeCallGiveUp joined call).trans (congrArg Host.Outcome.next (if_pos overdue)), ?_⟩
      exact ⟨rfl, rfl, rfl, rfl, rfl, rfl, rfl, rfl, rfl, rfl, rfl, rfl⟩
    · refine (exec_wakeCallGiveUp joined call).trans (congrArg Host.Outcome.next (if_neg fun overdue => ?_))
      rcases (c.overdue_iff _ _).mp overdue with ⟨-, -, long⟩ | ⟨-, o, marked, long⟩
      · unfold WakeCall.moment at long
        rcases waits with ⟨m, first, short⟩ | ⟨first, short⟩
        · rw [first] at long
          exact absurd long (Nat.not_le.mpr short)
        · rw [first] at long
          exact absurd long (Nat.not_le.mpr short)
      · exact absurd long (Nat.not_le.mpr (unmarked o marked))
  · intro first link few
    obtain ⟨r, taken⟩ := dominantRunEnd_quiet early joined quiet unmarked low high few
    rw [quietHearsMark_free (by exact free)] at taken
    refine ⟨fun m last counted soon => ?_, fun m last counted soon => ?_, fun anew => ?_⟩
    · have count := countMark_follows last (Nat.le_of_succ_le counted) soon
      have third : 3 ≤ s.quiet.countMark first := by omega
      exact ⟨_, congrArg Host.Outcome.next (taken.trans (hearCallMark_wakes (by exact third))), rfl, rfl, rfl,
        rfl, rfl, rfl,
        rfl⟩
    · have count : s.quiet.countMark first = 2 := (countMark_follows last counted.ge soon).trans (by rw [counted])
      exact ⟨_, congrArg Host.Outcome.next (taken.trans (hearCallMark_counts (by exact count) (by decide))), rfl⟩
    · have count := countMark_anew anew
      exact ⟨_, congrArg Host.Outcome.next (taken.trans (hearCallMark_counts (by exact count) (by decide))), rfl⟩
  · intro first link woken few
    have on := State.running_of_joined joined
    refine ⟨fun marked more => ?_, fun marked last => ?_, fun unmarked high waits more => ?_,
      fun unmarked high waits last => ?_, fun unmarked high rests => ?_⟩
    · obtain ⟨r, taken⟩ := dominantRunEnd_marked early on marked low few
      rw [ownMarkEnds_called (by exact call), if_neg (Nat.not_le.mpr more)] at taken
      exact ⟨_, congrArg Host.Outcome.next taken, rfl⟩
    · obtain ⟨r, taken⟩ := dominantRunEnd_marked early on marked low few
      rw [ownMarkEnds_called (by exact call), if_pos last.ge] at taken
      exact ⟨_, congrArg Host.Outcome.next taken, rfl, rfl, rfl, rfl, rfl, rfl⟩
    all_goals
      obtain ⟨r, taken⟩ := dominantRunEnd_quiet early joined quiet unmarked low high few
      rw [quietHearsMark_called (by exact call)] at taken
    · rw [callHearsMark_waits waits, standForMark_goes more] at taken
      exact ⟨_, congrArg Host.Outcome.next taken, rfl⟩
    · rw [callHearsMark_waits waits, standForMark_ends last] at taken
      exact ⟨_, congrArg Host.Outcome.next taken, rfl, rfl, rfl, rfl, rfl, linkAfterRun_unmarked unmarked first⟩
    · rw [callHearsMark_rests rests] at taken
      exact ⟨_, congrArg Host.Outcome.next taken, rfl⟩

end Sys2Proof.Machine
end

section
/-! The image read: the checks, the values given, and the reports of the entry into LISTEN (R183 to R185, R167, R150).
-/
namespace Sys2Proof.Machine
variable {s t u : State} {cls code : Nat} {severity : Severity} {detail : Int}

/-! ## The values of the image (R184) -/

theorem field_byte (image : List Byte) (i : Nat) : field image i 1 < 256 := by
  unfold field
  cases rest : image.drop i with
  | nil => decide
  | cons b bs =>
    have := b.isLt
    simp only [List.take_succ_cons, List.take_zero, ofBigEndian, List.foldl_cons, List.foldl_nil]
    omega

theorem field_first (first : Byte) (rest : List Byte) : field (first :: rest) 0 1 = first.toNat := by
  simp [field, ofBigEndian]

theorem prescalerOf_eq_self_iff (x : Nat) : prescalerOf x = x ↔ x = 1 ∨ x = 4 ∨ x = 16 := by
  unfold prescalerOf
  split
  · omega
  · split <;> omega

theorem clampNat_eq_self_iff {lo hi : Nat} (ordered : lo ≤ hi) (x : Nat) :
    clampNat lo hi x = x ↔ lo ≤ x ∧ x ≤ hi := by
  unfold clampNat
  omega

theorem clampNat_eq {lo hi : Nat} (ordered : lo ≤ hi) (x : Nat) :
    clampNat lo hi x = if x < lo then lo else if hi < x then hi else x := by
  unfold clampNat
  split
  · omega
  · split <;> omega

theorem imageFlag_iff (image : List Byte) (bit : Nat) :
    imageFlag image bit = true ↔ field image 4 1 / 2 ^ bit % 2 = 1 := beq_iff_eq

theorem CoolingRole.ofImage_eq (x : Nat) :
    CoolingRole.ofImage x = if x = 1 then .pump else if x = 2 then .fan else .none := by
  unfold CoolingRole.ofImage
  split
  · rfl
  · rfl
  case h_3 pump fan => rw [if_neg pump, if_neg fan]

/-- The row of a field, held back while the field is in its range. -/
theorem mem_row {p : Prop} [Decidable p] {a row : Nat} : row ∈ (if p then [] else [a]) ↔ row = a ∧ ¬p := by
  split <;> simp_all

theorem row_sublist (p : Prop) [Decidable p] (a : Nat) : (if p then [] else [a]).Sublist [a] := by
  split <;> simp

/-- R184: the rows of the table in ascending order, those of the fields in range left out. -/
theorem clampedRows_sublist (image : List Byte) : (clampedRows image).Sublist [1, 2, 3, 4, 5, 6, 7] := by
  unfold clampedRows
  exact ((((((row_sublist _ 1).append (row_sublist _ 2)).append (row_sublist _ 3)).append (row_sublist _ 4)).append
    (row_sublist _ 5)).append (row_sublist _ 6)).append (row_sublist _ 7)

theorem clampedRows_length (image : List Byte) : (clampedRows image).length ≤ 7 :=
  (clampedRows_sublist image).length_le

/-- R184: a row is reported when the value given is not the field's. -/
theorem mem_clampedRows (image : List Byte) (row : Nat) : row ∈ clampedRows image ↔
    (row = 1 ∧ (ConfigValues.ofImage image).rated ≠ field image 1 2) ∨
    (row = 2 ∧ (ConfigValues.ofImage image).motors ≠ field image 3 1) ∨
    (row = 3 ∧ 2 < field image 5 1) ∨ (row = 4 ∧ (ConfigValues.ofImage image).tachMinimum ≠ field image 6 1) ∨
    (row = 5 ∧ (ConfigValues.ofImage image).prescaler ≠ field image 7 1) ∨
    (row = 6 ∧ (ConfigValues.ofImage image).speedFactor ≠ field image 8 2) ∨
    (row = 7 ∧ (ConfigValues.ofImage image).backupBudget ≠ field image 10 1) := by
  have rated : (ConfigValues.ofImage image).rated = field image 1 2 ↔ _ := clampNat_eq_self_iff (by decide) _
  have factor : (ConfigValues.ofImage image).speedFactor = field image 8 2 ↔ _ := clampNat_eq_self_iff (by decide) _
  have budget : (ConfigValues.ofImage image).backupBudget = field image 10 1 ↔ _ := clampNat_eq_self_iff (by decide) _
  have prescaler : (ConfigValues.ofImage image).prescaler = field image 7 1 ↔ _ := prescalerOf_eq_self_iff _
  have motors : (ConfigValues.ofImage image).motors = field image 3 1 ↔ field image 3 1 ≤ 4 := min_eq_right_iff
  have tach : (ConfigValues.ofImage image).tachMinimum = field image 6 1 ↔ 1 ≤ field image 6 1 := max_eq_right_iff
  unfold clampedRows
  simp only [List.mem_append, mem_row, ne_eq, rated, factor, budget, prescaler, motors, tach, Nat.not_le, or_assoc]

/-! ## The checks (R183) -/

theorem imageSum_cons (first : Byte) (rest : List Byte) :
    imageSum (first :: rest) = (first.toNat + (rest.map (·.toNat)).sum) % 256 := rfl

/-- R183: the two checks of an image of 32 bytes. -/
theorem imageAccepted_iff {first : Byte} {rest : List Byte} (length : rest.length = 31) :
    imageAccepted (first :: rest) = true ↔
      (first.toNat + (rest.map (·.toNat)).sum) % 256 = 0 ∧ 1 ≤ first.toNat ∧ first.toNat ≤ 7 := by
  unfold imageAccepted
  rw [decide_eq_true_iff, imageSum_cons, field_first]
  simp [length]

theorem exec_configImageRead {first : Byte} {rest : List Byte} (free : s.held = false)
    (reads : s.link.state = .configRead) (length : rest.length = 31) :
    exec (.configImageRead (first :: rest)) s = .next (if imageAccepted (first :: rest) then
      acceptImage s (first :: rest) else rejectImage s (first :: rest)) :=
  congrArg Host.Outcome.next (if_pos ⟨free, reads, by simp [length]⟩)

/-! ## A report of the entry into LISTEN -/

/-- What a record says. -/
def LogRecord.said (r : LogRecord) : Nat × Nat × Nat × Nat × Option Int :=
    (r.cls, r.code, r.severity, r.action, r.detail)

/-- The entry into LISTEN after so many reports, with what its records say. -/
structure State.Entering (s : State) (reports : Nat) (said : List (Nat × Nat × Nat × Nat × Option Int)) : Prop where
  state : s.link.state = .listen
  active : s.quiet.state = .active
  queue : s.link.queue.length = min 8 reports
  notices : ∀ x ∈ s.link.queue, x.onLine = false ∧ x.frame.kind = 2
  log : s.log.records.map LogRecord.said = said
  newest : s.log.newest = s.log.records.length

theorem State.Entering.length {n : Nat} {said : List (Nat × Nat × Nat × Nat × Option Int)}
    (entering : s.Entering n said) :
    s.log.records.length = said.length := by
  rw [← entering.log, List.length_map]

theorem enter_said {l : FaultLog} {now origin severity action : Nat} {d : Option Int} {n : Option Nat}
    (newest : l.newest = l.records.length) (few : l.records.length < 60) :
    ((l.enter now origin cls code severity action d n).records.map LogRecord.said =
      l.records.map LogRecord.said ++ [(cls, code, severity, action, d)]) ∧
    (l.enter now origin cls code severity action d n).newest =
      (l.enter now origin cls code severity action d n).records.length := by
  have below : l.newest < Config.lastSequence := Nat.lt_of_le_of_lt (newest.le.trans few.le) (by decide)
  have room : l.records.length < Config.logSize := Nat.lt_trans few (by decide)
  rw [FaultLog.enter_records l _ _ _ _ _ _ _ _ below room, (FaultLog.enter_newest l _ _ _ _ _ _ _ _ below).1]
  exact ⟨by simp [LogRecord.said], by simp [newest]⟩

theorem tripFirst_yaw (s : State) (cls code : Nat) (severity : Severity) :
    (tripFirst s cls code severity).yaw = s.yaw := by
  unfold tripFirst
  split <;> simp

/-- R151: a report in ACTIVE that ends no session is a record, a notice and the trip it orders. -/
theorem reportFault_alone (active : s.quiet.state = .active) (calm : severity.trips = true → s.yaw.state = .idle)
    (notNote : severity ≠ .note) : reportFault s cls code severity detail = offerNotice
      (enterRecord (tripFirst s cls code severity) s.own cls code severity.code (reportAction s cls code severity).code
        (some detail) none) cls code severity.code (reportAction s cls code severity).code detail := by
  have taken : takeReport s cls code severity detail = offerNotice
      (enterRecord (tripFirst s cls code severity) s.own cls code severity.code (reportAction s cls code severity).code
        (some detail) none) cls code severity.code (reportAction s cls code severity).code detail := by
    rw [takeReport_eq s cls code detail notNote]
    refine wakeCause_active _ ?_
    rw [offerNotice_footprint]
    exact (congrArg QuietControl.state (tripFirst_frame s cls code severity).2.2.1).trans active
  unfold reportFault
  dsimp only
  split
  case isTrue told =>
    rw [barSession_idle, taken]
    rw [taken, offerNotice_footprint]
    exact (congrArg YawControl.state (tripFirst_yaw s cls code severity)).trans (calm told.1)
  case isFalse => exact taken

/-- R15: a notice offered to a queue of notices enters while a slot is free, and else is dropped with LINK 5 NOTE. -/
theorem offerNotice_entering {n : Nat} {said : List (Nat × Nat × Nat × Nat × Option Int)} {sev action : Nat}
    (entering : s.Entering n said) (few : said.length ≤ 15) :
    (offerNotice s cls code sev action detail).Entering (n + 1)
      (said ++ if 8 ≤ n then [(6, 5, 0, 1, some (cls * 100 + code : Int))] else []) ∧
    ∃ losses counter queue, (offerNotice s cls code sev action detail).link =
      { s.link with losses := losses, noticeCounter := counter, queue := queue } := by
  have length := entering.length
  obtain ⟨state, active, queue, notices, log, newest⟩ := entering
  have takes : s.takesOffers = true := takesOffers_of (.inl state)
  by_cases full : 8 ≤ n
  · rw [if_pos full, offerNotice_dropped cls code sev action detail takes (roomForUrgent_none (by omega)
      (fun y mem => .inr (by rw [(notices y mem).2]; decide)) fun y mem => .inr (by rw [(notices y mem).2]; decide))]
    obtain ⟨records, newest'⟩ := enter_said (l := s.log) (now := s.now) (origin := s.own) (cls := clsLink) (code := 5)
      (severity := 0) (action := 1) (d := some (cls * 100 + code : Int)) (n := none) newest (by omega)
    exact ⟨⟨state, active, queue.trans (by omega), notices, records.trans (by rw [log]), newest'⟩, _, _, _, rfl⟩
  · rw [if_neg full, List.append_nil, offerNotice_enters cls code sev action detail takes
      (roomForUrgent_free (by omega))]
    refine ⟨⟨state, active, (insertSlot_length ..).trans (by omega), fun x mem => ?_, log, newest⟩, _, _, _, rfl⟩
    rcases (mem_insertSlot ..).mp mem with rfl | old
    · exact ⟨rfl, rfl⟩
    · exact notices x old

/-- R151: the state of a report once its record is entered. -/
theorem enterRecord_entering {n : Nat} {said : List (Nat × Nat × Nat × Nat × Option Int)} {origin sev action : Nat}
    {d : Option Int} (entering : s.Entering n said) (few : said.length ≤ 15) :
    (enterRecord s origin cls code sev action d none).Entering n (said ++ [(cls, code, sev, action, d)]) := by
  have length := entering.length
  obtain ⟨state, active, queue, notices, log, newest⟩ := entering
  obtain ⟨records, newest'⟩ := enter_said (l := s.log) (now := s.now) (origin := origin) (cls := cls) (code := code)
    (severity := sev) (action := action) (d := d) (n := none) newest (by omega)
  exact ⟨state, active, queue, notices, records.trans (by rw [log]), newest'⟩

/-- One report of the entry into LISTEN. -/
theorem reportFault_entering {n : Nat} {said : List (Nat × Nat × Nat × Nat × Option Int)} (cls code : Nat)
    (detail : Int)
    (entering : s.Entering n said) (calm : severity.trips = true → s.yaw.state = .idle) (notNote : severity ≠ .note)
    (few : said.length ≤ 14) : (reportFault s cls code severity detail).Entering (n + 1)
      (said ++ (cls, code, severity.code, (reportAction s cls code severity).code, some detail) ::
        if 8 ≤ n then [(6, 5, 0, 1, some (cls * 100 + code : Int))] else []) ∧
    (∃ losses counter queue, (reportFault s cls code severity detail).link =
      { s.link with losses := losses, noticeCounter := counter, queue := queue }) ∧
    reportFault s cls code severity detail = { tripFirst s cls code severity with
      link := (reportFault s cls code severity detail).link, log := (reportFault s cls code severity detail).log } := by
  obtain ⟨link, log, quiet, -, -, -⟩ := tripFirst_frame s cls code severity
  have tripped : (tripFirst s cls code severity).Entering n said := by
    obtain ⟨state, active, queue, notices, said, newest⟩ := entering
    constructor <;> simp only [link, quiet, log] <;> assumption
  obtain ⟨offered, losses, counter, q, same⟩ := offerNotice_entering (cls := cls) (code := code) (detail := detail)
    (sev := severity.code) (action := (reportAction s cls code severity).code)
    (enterRecord_entering (origin := s.own) (cls := cls) (code := code) (sev := severity.code)
      (action := (reportAction s cls code severity).code) (d := some detail) tripped (by omega))
    (by rw [List.length_append, List.length_singleton]; omega)
  rw [List.append_assoc] at offered
  rw [reportFault_alone entering.active calm notNote]
  refine ⟨offered, ⟨losses, counter, q, same.trans (by rw [enterRecord, link])⟩, ?_⟩
  rw [offerNotice_footprint]
  rfl

/-! ## The reports of the clamped fields (R184) -/

/-- R184: what the record of a clamped field says. -/
def clampedSaid (row : Nat) : Nat × Nat × Nat × Nat × Option Int := (8, 5, 1, 1, some (row : Int))

/-- R184: the reports of the clamped fields are records and notices, one each, while the queue has room. -/
theorem reportClamped_entering (rows : List Nat) {n : Nat}
    {said : List (Nat × Nat × Nat × Nat × Option Int)} {s : State}
    (entering : s.Entering n said) (room : n + rows.length ≤ 8) (few : said.length + rows.length ≤ 14) :
    (reportClamped rows s).Entering (n + rows.length) (said ++ rows.map clampedSaid) ∧
    ∃ losses counter queue log, reportClamped rows s = { s with
      link := { s.link with losses := losses, noticeCounter := counter, queue := queue }, log := log } := by
  induction rows generalizing n said s with
  | nil => exact ⟨by simpa [reportClamped] using entering, _, _, _, _, rfl⟩
  | cons row rows ih =>
    simp only [List.length_cons] at room few
    obtain ⟨one, ⟨losses, counter, q, link⟩, same⟩ :=
      reportFault_entering (severity := .warn) clsPlant 5 row entering nofun (by simp) (by omega)
    rw [if_neg (by omega), reportAction_warn (by decide)] at one
    obtain ⟨all, losses', counter', q', log', rest⟩ := ih one (by omega) (by simp; omega)
    have step : reportClamped (row :: rows) s = reportClamped rows (reportFault s clsPlant 5 .warn row) := rfl
    rw [step]
    refine ⟨?_, losses', counter', q', log', ?_⟩
    · rw [List.append_assoc] at all
      rw [List.length_cons, Nat.add_comm rows.length 1, ← Nat.add_assoc]
      exact all
    · rw [rest, link, same]
      rfl

end Sys2Proof.Machine
end

section
/-! The image accepted, and the safety inputs found then (R183 to R185, R150). -/
namespace Sys2Proof.Machine
variable {s t u : State} {first : Byte} {rest : List Byte}

/-! ## The safety inputs found (R150) -/

theorem seePin_inactive {input : SafetyInput} (inactive : s.pins.safety input = false) : seePin input s = s :=
  if_neg (by simp [inactive])

/-- R150: what the record of a safety input found ACTIVE says. -/
def foundSaid (code : Nat) : Nat × Nat × Nat × Nat × Option Int := (8, code, 3, 3, some 0)

/-- R150: the cause of a safety input found ACTIVE. -/
def State.foundCode (s : State) (input : SafetyInput) : List Nat :=
  if s.pins.safety input = true then [safetyCode input] else []

/-- What the safety inputs found ACTIVE leave besides their records and notices. -/
structure State.Found (s t : State) (codes : List Nat) : Prop where
  pins : t.pins = s.pins
  yaw : t.yaw = s.yaw
  holds : ∀ code ∈ codes, t.holdsCause clsPlant code = true
  tripped : codes ≠ [] → t.thread.state = .tripped
  none : codes = [] → t.fault.causes = s.fault.causes ∧ t.thread.state = s.thread.state

theorem FaultUnit.see_causes (f : FaultUnit) (input : SafetyInput) (active : Bool) :
    (f.see input active).causes = f.causes := by
  cases input <;> rfl

/-- R150, R184: a safety input found ACTIVE is reported, and trips the thread with its cause. -/
theorem seePin_active {input : SafetyInput} {n : Nat} {said : List (Nat × Nat × Nat × Nat × Option Int)}
    (entering : s.Entering n said) (few : said.length ≤ 14) (active : s.pins.safety input = true)
    (unseen : s.fault.seen input = false) (idle : s.yaw.state = .idle) :
    (seePin input s).Entering (n + 1) (said ++ foundSaid (safetyCode input) ::
      if 8 ≤ n then [(6, 5, 0, 1, some (clsPlant * 100 + safetyCode input : Int))] else []) ∧
    (seePin input s).thread.state = .tripped ∧ (seePin input s).pins = s.pins ∧ (seePin input s).config = s.config ∧
    (seePin input s).yaw = s.yaw ∧ (seePin input s).fault =
      { s.fault.see input true with causes := addCauseTo clsPlant (safetyCode input) s.fault.causes } := by
  have seen : ({ s with fault := s.fault.see input true } : State).Entering n said := by
    obtain ⟨state, active, queue, notices, said, newest⟩ := entering
    exact ⟨state, active, queue, notices, said, newest⟩
  obtain ⟨entered, -, eq⟩ :=
    reportFault_entering (severity := .tripNacelle) clsPlant (safetyCode input) 0 seen (fun _ => idle) (by simp) few
  have sees : seePin input s =
      reportFault { s with fault := s.fault.see input true } clsPlant (safetyCode input) .tripNacelle 0 :=
    (if_pos active).trans (seeSafety_active unseen)
  refine ⟨sees ▸ entered, ?_⟩
  rw [sees, eq]
  have trips : tripFirst { s with fault := s.fault.see input true } clsPlant (safetyCode input) .tripNacelle =
      tripThread (addCause { s with fault := s.fault.see input true } clsPlant (safetyCode input)) := rfl
  rw [trips]
  refine ⟨tripThread_state _, by simp [addCause], by simp [addCause], by simp [addCause], ?_⟩
  refine (tripCause_frame { s with fault := s.fault.see input true } clsPlant (safetyCode input)).2.2.2.2.2.trans ?_
  exact congrArg (fun causes => { s.fault.see input true with
    causes := addCauseTo clsPlant (safetyCode input) causes }) (FaultUnit.see_causes ..)

/-- The input not looked at. -/
def otherInput : SafetyInput → SafetyInput
  | .emergencyStop => .arcOrFire
  | .arcOrFire => .emergencyStop

theorem FaultUnit.seen_see (f : FaultUnit) (input : SafetyInput) (causes : List Cause) :
    ({ f.see input true with causes := causes } : FaultUnit).seen input = true ∧
    ({ f.see input true with causes := causes } : FaultUnit).seen (otherInput input) = f.seen (otherInput input) := by
  cases input <;> exact ⟨rfl, rfl⟩

/-- R150, R184: a safety input looked at as the image is accepted. -/
theorem seePin_found {input : SafetyInput} {n : Nat} {codes : List Nat}
    {said : List (Nat × Nat × Nat × Nat × Option Int)} (found : s.Found t codes) (idle : s.yaw.state = .idle)
    (unseen : t.fault.seen input = false) (entering : t.Entering n said) (room : n ≤ 8) (few : said.length ≤ 14) :
    s.Found (seePin input t) (codes ++ s.foundCode input) ∧
    (seePin input t).fault.seen input = s.pins.safety input ∧
    (seePin input t).fault.seen (otherInput input) = t.fault.seen (otherInput input) ∧ (seePin input t).own = t.own ∧
    (seePin input t).Entering (n + (s.foundCode input).length) (said ++ (s.foundCode input).map foundSaid ++
      if 8 < n + (s.foundCode input).length then
        [(6, 5, 0, 1, some (clsPlant * 100 + safetyCode input : Int))] else []) := by
  obtain ⟨pins, yaw, holds, tripped, none⟩ := found
  unfold State.foundCode
  cases active : s.pins.safety input with
  | false =>
    rw [seePin_inactive (by rw [pins]; exact active), if_neg (by simp), List.append_nil, List.map_nil, List.append_nil,
      List.length_nil, if_neg (by omega), List.append_nil]
    exact ⟨⟨pins, yaw, holds, tripped, none⟩, unseen, rfl, rfl, entering⟩
  | true =>
    obtain ⟨entered, trips, pins', config, yaw', fault⟩ :=
      seePin_active entering few (by rw [pins]; exact active) unseen
      (by rw [yaw]; exact idle)
    rw [if_pos rfl, List.map_singleton, List.length_singleton, List.append_assoc]
    have full : (8 < n + 1) = (8 ≤ n) := propext Nat.lt_succ_iff
    simp only [full]
    refine ⟨⟨pins'.trans pins, yaw'.trans yaw, fun code mem => ?_, fun _ => trips, fun empty => ?_⟩, ?_, ?_,
      own_congr config, entered⟩
    · unfold State.holdsCause
      rw [fault]
      rcases List.mem_append.mp mem with old | new
      · exact addCauseTo_held clsPlant (safetyCode input) t.fault.causes (holds code old)
      · cases List.mem_singleton.mp new
        exact holdsCause_addCause t clsPlant (safetyCode input)
    · simp at empty
    · rw [fault]
      exact (FaultUnit.seen_see ..).1
    · rw [fault]
      exact (FaultUnit.seen_see ..).2

/-! ## The image accepted -/

/-- R183: the state once the values of the image are given. -/
def State.given (s : State) (image : List Byte) : State :=
  { s with config := { image := image, values := some (ConfigValues.ofImage image), faultOutput := false } }

/-- R184, R185: the state once the clamped fields are reported. -/
def State.clamped (s : State) (image : List Byte) : State :=
  reportClamped (clampedRows image) (startRecord (enterListen (s.given image)))

theorem acceptImage_eq (image : List Byte) :
    acceptImage s image = seePin .arcOrFire (seePin .emergencyStop (s.clamped image)) := rfl

/-- What the log says once the clamped fields are reported. -/
def State.entrySaid (s : State) (image : List Byte) : List (Nat × Nat × Nat × Nat × Option Int) :=
  (0, s.resets.code, 0, 1, some (field image 0 1 : Int)) :: (clampedRows image).map clampedSaid

theorem State.entrySaid_length (s : State) (image : List Byte) : (s.entrySaid image).length ≤ 8 := by
  have := clampedRows_length image
  simp only [State.entrySaid, List.length_cons, List.length_map]
  omega

/-- R167, R184: the START record and the reports of the clamped fields, and nothing else, follow the entry. -/
theorem State.clamped_entering (image : List Byte) (fresh : s.log = FaultLog.initial) (empty : s.link.queue = [])
    (active : s.quiet.state = .active) :
    (s.clamped image).Entering (clampedRows image).length (s.entrySaid image) ∧
    ∃ losses counter queue log, s.clamped image = { enterListen (s.given image) with
      link := { (enterListen (s.given image)).link with losses := losses, noticeCounter := counter, queue := queue }
      log := log } := by
  have rows := clampedRows_length image
  have listens : (enterListen (s.given image)).Entering 0 [] := by
    refine ⟨rfl, active, congrArg List.length empty, ?_, congrArg (fun l : FaultLog => l.records.map _) fresh,
      (congrArg FaultLog.newest fresh).trans (congrArg (fun l : FaultLog => l.records.length) fresh.symm)⟩
    intro x mem
    rw [show (enterListen (s.given image)).link.queue = [] from empty] at mem
    cases mem
  have started := enterRecord_entering (origin := (enterListen (s.given image)).own) (cls := clsSystem)
    (code := s.resets.code) (sev := 0) (action := 1) (d := some (field image 0 1 : Int)) listens (by simp)
  obtain ⟨entered, frame⟩ := reportClamped_entering (clampedRows image) started (by omega) (by simp; omega)
  rw [Nat.zero_add] at entered
  exact ⟨entered, frame⟩

/-! ## The obligation -/

/-- R183 to R185: an image taken with no safety input active. -/
theorem acceptImage_clean (fresh : s.log = FaultLog.initial) (empty : s.link.queue = [])
    (active : s.quiet.state = .active)
    (noStop : s.pins.emergencyStop = false) (noFire : s.pins.arcOrFire = false) (image : List Byte) :
    acceptImage s image = s.clamped image := by
  obtain ⟨-, losses, counter, q, log, same⟩ := State.clamped_entering image fresh empty active
  have pins : (s.clamped image).pins = s.pins := by rw [same]; rfl
  rw [acceptImage_eq, seePin_inactive (input := .emergencyStop) (by rw [pins]; exact noStop),
    seePin_inactive (input := .arcOrFire) (by rw [pins]; exact noFire)]

theorem map_kind_eq_replicate {q : List Slot} {n : Nat} (length : q.length = n)
    (notices : ∀ x ∈ q, x.onLine = false ∧ x.frame.kind = 2) : q.map (·.frame.kind) = List.replicate n 2 := by
  refine List.eq_replicate_iff.mpr ⟨by rw [List.length_map, length], fun k mem => ?_⟩
  obtain ⟨x, inQueue, rfl⟩ := List.mem_map.mp mem
  exact (notices x inQueue).2

/-- R150: the PLANT causes of the safety inputs found ACTIVE. -/
def Pins.found (p : Pins) : List Nat :=
  (if p.emergencyStop = true then [1] else []) ++ (if p.arcOrFire = true then [2] else [])

/-- R150, R184: the reports of the safety inputs found ACTIVE follow those of the clamped fields. -/
theorem acceptImage_found (image : List Byte) (fresh : s.log = FaultLog.initial) (empty : s.link.queue = [])
    (active : s.quiet.state = .active) (idle : s.yaw.state = .idle) (stopUnseen : s.fault.stopSeen = false)
    (fireUnseen : s.fault.fireSeen = false) :
    (acceptImage s image).link.state = .listen ∧ (acceptImage s image).own = field image 0 1 ∧
    (acceptImage s image).fault.stopSeen = s.pins.emergencyStop ∧
    (acceptImage s image).fault.fireSeen = s.pins.arcOrFire ∧
    (∀ code ∈ s.pins.found, (acceptImage s image).holdsCause clsPlant code = true) ∧
    (s.pins.found ≠ [] → (acceptImage s image).thread.state = .tripped ∧ (acceptImage s image).tripLine = true) ∧
    (s.pins.found = [] → (acceptImage s image).fault.causes = s.fault.causes ∧
      (acceptImage s image).thread.state = s.thread.state) ∧
    (acceptImage s image).link.queue.map (·.frame.kind) =
      List.replicate (min 8 ((clampedRows image).length + s.pins.found.length)) 2 ∧
    (acceptImage s image).log.records.map LogRecord.said = s.entrySaid image ++ s.pins.found.map foundSaid ++
      (if 8 < (clampedRows image).length + s.pins.found.length then [(6, 5, 0, 1, some 802)] else []) := by
  have few := clampedRows_length image
  have short := s.entrySaid_length image
  obtain ⟨entering, losses, counter, q, log, same⟩ := State.clamped_entering image fresh empty active
  have clamped : s.Found (s.clamped image) [] := by
    rw [same]
    exact ⟨rfl, rfl, nofun, fun other => absurd rfl other, fun _ => ⟨rfl, rfl⟩⟩
  have fault : (s.clamped image).fault.stopSeen = false ∧ (s.clamped image).fault.fireSeen = false := by
    rw [same]
    exact ⟨stopUnseen, fireUnseen⟩
  have config : (s.clamped image).own = field image 0 1 := by
    rw [same]
    rfl
  obtain ⟨stopped, seenStop, otherStop, own, enteringStop⟩ :=
    seePin_found (input := .emergencyStop) clamped idle fault.1 entering (by omega) (by omega)
  rw [if_neg (by unfold State.foundCode; split <;> simp <;> omega), List.append_nil] at enteringStop
  obtain ⟨found, seenFire, otherFire, own', enteringFire⟩ :=
    seePin_found (input := .arcOrFire) stopped idle (otherStop.trans fault.2) enteringStop
      (by unfold State.foundCode; split <;> simp <;> omega) (by unfold State.foundCode; split <;> simp <;> omega)
  rw [List.append_assoc (s.entrySaid image), ← List.map_append, Nat.add_assoc, ← List.length_append] at enteringFire
  rw [acceptImage_eq]
  exact ⟨enteringFire.state, (own'.trans own).trans config, otherFire.trans seenStop, seenFire, found.holds,
    fun some => ⟨found.tripped some, beq_iff_eq.mpr (found.tripped some)⟩, found.none,
    map_kind_eq_replicate enteringFire.queue enteringFire.notices, enteringFire.log⟩

/-- R184, spec 13: the values an image gives. -/
theorem imageGiven (image : List Byte) :
    let v := ConfigValues.ofImage image
    (v.rated = if field image 1 2 < 500 then 500 else if 4000 < field image 1 2 then 4000 else field image 1 2) ∧
    (v.motors = if 4 < field image 3 1 then 4 else field image 3 1) ∧
    (v.role = if field image 5 1 = 1 then .pump else if field image 5 1 = 2 then .fan else .none) ∧
    (v.tachMinimum = if field image 6 1 = 0 then 1 else field image 6 1) ∧
    (v.prescaler = if field image 7 1 ≤ 1 then 1 else if field image 7 1 ≤ 4 then 4 else 16) ∧
    (v.speedFactor = if field image 8 2 < 10 then 10 else if 500 < field image 8 2 then 500 else field image 8 2) ∧
    (v.backupBudget = if field image 10 1 = 0 then 1 else if 28 < field image 10 1 then 28 else field image 10 1) ∧
    (v.station = field image 0 1) ∧
    (v.isolated = true ↔ field image 4 1 % 2 = 1) ∧ (v.vane = true ↔ field image 4 1 / 2 % 2 = 1) ∧
    (v.anemometer = true ↔ field image 4 1 / 4 % 2 = 1) ∧ (v.encoder = true ↔ field image 4 1 / 8 % 2 = 1) ∧
    v.acceptMask.toNat = field image 11 1 ∧
    (∀ row, row ∈ clampedRows image ↔
      (row = 1 ∧ v.rated ≠ field image 1 2) ∨ (row = 2 ∧ v.motors ≠ field image 3 1) ∨
      (row = 3 ∧ 2 < field image 5 1) ∨ (row = 4 ∧ v.tachMinimum ≠ field image 6 1) ∨
      (row = 5 ∧ v.prescaler ≠ field image 7 1) ∨ (row = 6 ∧ v.speedFactor ≠ field image 8 2) ∨
      (row = 7 ∧ v.backupBudget ≠ field image 10 1)) ∧
    (clampedRows image).Pairwise (· < ·) := by
  intro v
  have motors : v.motors = if 4 < field image 3 1 then 4 else field image 3 1 := by
    change min 4 (field image 3 1) = _
    split <;> omega
  have tach : v.tachMinimum = if field image 6 1 = 0 then 1 else field image 6 1 := by
    change max 1 (field image 6 1) = _
    split <;> omega
  have budget : v.backupBudget =
      if field image 10 1 = 0 then 1 else if 28 < field image 10 1 then 28 else field image 10 1 := by
    refine (clampNat_eq (by decide) _).trans ?_
    simp only [Nat.lt_one_iff]
  have mask : v.acceptMask.toNat = field image 11 1 := by
    change (BitVec.ofNat 8 (field image 11 1)).toNat = _
    rw [BitVec.toNat_ofNat]
    exact Nat.mod_eq_of_lt (field_byte image 11)
  have isolated : v.isolated = true ↔ field image 4 1 % 2 = 1 := by
    rw [← Nat.div_one (field image 4 1)]
    exact imageFlag_iff image 0
  exact ⟨clampNat_eq (by decide) _, motors, CoolingRole.ofImage_eq _, tach, rfl, clampNat_eq (by decide) _, budget, rfl,
    isolated, imageFlag_iff image 1, imageFlag_iff image 2, imageFlag_iff image 3, mask, mem_clampedRows image,
    List.Pairwise.sublist (clampedRows_sublist image) (by decide)⟩

/-- Settles O6: the image refused, taken, its values, and the safety inputs found then. -/
theorem imageTaken : Obligations.ImageTaken := by
  refine ⟨fun s first rest free reads length fails => ?_,
    fun s first rest free reads length sum low high noStop noFire fresh empty active => ?_, imageGiven,
    fun s first rest free reads length sum low high fresh empty active idle stopUnseen fireUnseen => ?_⟩
  · rw [exec_configImageRead free reads length, if_neg]
    · rfl
    · rw [imageAccepted_iff length]
      omega
  · obtain ⟨entering, losses, counter, q, log, same⟩ := State.clamped_entering (first :: rest) fresh empty active
    have taken : exec (.configImageRead (first :: rest)) s = .next (s.clamped (first :: rest)) := by
      rw [exec_configImageRead free reads length, if_pos ((imageAccepted_iff length).mpr ⟨sum, low, high⟩),
        acceptImage_clean fresh empty active noStop noFire]
    have said := entering.log
    rw [State.entrySaid, field_first] at said
    rw [same] at said taken
    refine ⟨_, taken, rfl, rfl, field_first first rest, rfl, rfl, rfl, rfl, rfl, ?_, rfl, rfl, rfl, rfl, said⟩
    change { s.table with
      threads := s.table.threads.set (field (first :: rest) 0 1) ownEntry, ageTimer := some s.now } = _
    rw [field_first]
    rfl
  · have taken : exec (.configImageRead (first :: rest)) s = .next (acceptImage s (first :: rest)) := by
      rw [exec_configImageRead free reads length, if_pos ((imageAccepted_iff length).mpr ⟨sum, low, high⟩)]
    have found := acceptImage_found (first :: rest) fresh empty active idle stopUnseen fireUnseen
    rw [State.entrySaid, field_first] at found
    exact ⟨_, taken, found⟩

end Sys2Proof.Machine
end
